-- ==== Sys2Proof/Word.lean ====
section
/-! DEFINITION. Numbers of the LB-8's parts, characters of its lines, and banks: a fixed number of like
things (the eight arms, the four units, the thirty-two recipe entries), numbered as spec/00_scope.md 5.3
numbers them. -/

namespace Sys2Proof

/-- The eight data bits of one line character (R179). -/
abbrev Byte := BitVec 8

/-- An arm number, 0 to 7 (00_scope 5.3). -/
abbrev Arm := Fin 8

/-- An additive unit number, 0 to 3 (00_scope 5.3). -/
abbrev UnitNo := Fin 4

/-- A recipe entry number, 0 to 31 (00_scope 5.3). -/
abbrev EntryNo := Fin 32

/-- A stop input number, 0 to 3 (00_scope 5.3). -/
abbrev StopNo := Fin 4

/-- `n` like things, numbered from 0. -/
structure Bank (n : Nat) (α : Type) where
  cells : Vector α n
deriving DecidableEq, Repr

/-- The thing numbered `i`. -/
def Bank.get {n : Nat} {α : Type} (b : Bank n α) (i : Fin n) : α :=
  b.cells[i.val]

/-- The bank with the thing numbered `i` replaced. -/
def Bank.put {n : Nat} {α : Type} (b : Bank n α) (i : Fin n) (x : α) : Bank n α :=
  ⟨b.cells.set i.val x i.isLt⟩

/-- The bank whose thing numbered `i` is `f i`. -/
def Bank.tab {n : Nat} {α : Type} (f : Fin n → α) : Bank n α :=
  ⟨Vector.ofFn f⟩

/-- The bank with the thing numbered `i` changed by `f`. -/
def Bank.upd {n : Nat} {α : Type} (b : Bank n α) (i : Fin n) (f : α → α) : Bank n α :=
  b.put i (f (b.get i))

end Sys2Proof
end

