-- ==== Sys2Proof/Syntax.lean ====
section
/-! DEFINITION. The LB-8's commands: one constructor of `Instr` for each row of spec/opcode_table.json.
A request carries the fields its owner's rule gives it, as the numbers the telegram carries (so that a field
out of its range is there to be refused or clamped). Every other command carries the arm, input, unit or line it
happens at, and a level, code or character where the event brings one. -/

namespace Sys2Proof

/-- The two meters of an arm: input Bn and input En (spec/01_meter_inputs.md). -/
inductive Meter where
  | base
  | ethanol
deriving DecidableEq, Repr

/-- The nine lines: the supervisor line and the arm lines 0 to 7 (R179). -/
inductive Line where
  | supervisor
  | arm (n : Arm)
deriving DecidableEq, Repr

/-- One additive item as DEFINE RECIPE sends it (Table 10-11): nothing is yet checked. -/
structure AdditiveField where
  unit : Nat
  rate : Nat
  required : Nat
deriving DecidableEq, Repr

/-- The fields of DEFINE RECIPE (Table 3-3, Table 10-11); the additive count is the length of `items`. -/
structure RecipeFields where
  entry : Nat
  code : Nat
  ratio : Nat
  tolerance : Nat
  alpha : Nat
  flush : Nat
  step : Nat
  restrict : Nat
  hard : Nat
  permitted : Nat
  items : List AdditiveField
deriving DecidableEq, Repr

/-- The levels the input pins present at the end of a reset (R2, R139, R170, R183); bit `n` is pin `n`, 1 is high. -/
structure Pins where
  base : BitVec 8
  ethanol : BitVec 8
  confirm : BitVec 4
  stop : BitVec 4
  address : BitVec 5
deriving DecidableEq, Repr

/-- The commands of the LB-8, in the order of spec/opcode_table.json. -/
inductive Instr where
  | meterLevelChange (a : Arm) (m : Meter) (high : Bool)
  | meterPulseAcceptance (a : Arm) (m : Meter)
  | capExpiry (a : Arm) (m : Meter)
  | idleExpiry (a : Arm) (m : Meter)
  | setMeters (arm kBase kEth filterBase filterEth minBase minEth : Nat)
  | readMeters (arm : Nat)
  | scanConversionComplete (code : BitVec 12)
  | readScan
  | defineRecipe (f : RecipeFields)
  | withdrawRecipe (entry : Nat)
  | readRecipe (entry : Nat)
  | setArmService (arm service : Nat)
  | authorize (n : Arm) (code preset : Nat) (bill : List Byte)
  | pause (n : Arm)
  | resume (n : Arm)
  | endLoad (n : Arm)
  | abortLoad (arm number : Nat)
  | noFlowExpiry (n : Arm)
  | linkSilenceExpiry (n : Arm)
  | authorizationWindowExpiry (n : Arm)
  | settleExpiry (n : Arm)
  | setStation (noFlow linkSilence window settle allowance : Nat)
  | loadStatus (n : Arm)
  | readLoad (arm : Nat)
  | lastSummaryArm (n : Arm)
  | lastSummarySupervisor (arm : Nat)
  | holdTimerExpiry (n : Arm)
  | ethanolFlowTimerExpiry (n : Arm)
  | setHeader (slots hold flowTimeout alpha threshold : Nat)
  | readHeader
  | unitSettleExpiry (u : UnitNo)
  | strokeConfirmLevelChange (u : UnitNo) (high : Bool)
  | strokeConfirmation (u : UnitNo)
  | strokeTimeout (u : UnitNo)
  | additiveLostHalt (n : Arm) (u : UnitNo)
  | setUnit (unit shot low timeout settle : Nat)
  | setUnitService (unit service : Nat)
  | refillUnit (unit volume : Nat)
  | clearUnit (unit : Nat)
  | readUnit (unit : Nat)
  | readRecord
  | removeRecord (number : Nat)
  | waitListHandOff
  | ageTimerExpiry
  | setRecordNotice (trigger age : Nat)
  | stopInputLevelChange (i : StopNo) (high : Bool)
  | stopInputAcceptedEdge (i : StopNo)
  | terminalStopHalt (n : Arm)
  | setStopInputs (e0 e1 e2 e3 : Nat)
  | terminalStop
  | terminalResume
  | characterReceived (l : Line) (data : Byte) (marker stopHigh : Bool)
  | characterGapTimeout (l : Line)
  | telegramReceived (l : Line)
  | replySent (l : Line)
  | powerOnReset (pins : Pins)
  | readLines
  | readNoticeSupervisor
  | readNoticeArm (n : Arm)
  | stationClockAdvance
  | setClock (count : Nat)
  | readStation
  | restart (force : Nat)
  | meterAcceptedFallingEdge (a : Arm) (m : Meter)
  | confirmAcceptedFallingEdge (u : UnitNo)
  | replyStart
deriving DecidableEq, Repr

end Sys2Proof
end

