-- ==== Sys2Proof/Decode.lean ====
section
/-! DEFINITION. The decoder over the rows of spec/opcode_table.json that give bits. The LB-8 is a block that takes
commands, not a processor: no row of its table gives bits (00_scope section 1: "The LB-8 has no memory-mapped access of
any kind; the telegrams are its whole interface"), so no word spells a command. The telegrams' own coding is in
Machine/Telegram.lean. -/

namespace Sys2Proof

/-- The command a table word spells: none, since no row gives bits. -/
def decodeTableWord (_nbits _w : Nat) : Option Instr := none

end Sys2Proof
end

