-- ==== Sys2Proof/Config.lean ====
section
/-! DEFINITION. Constants of the part: bounds and times the spec states, in the model's units, and the levels the
pins present at the model's own reset. Time is counted in ticks of 10 µs, the timebase's step (R3). -/

namespace Sys2Proof.Config

/-- Ticks of 10 µs in a second (R3). -/
def ticksPerSecond : Nat := 100000

/-- Ticks of 10 µs in a millisecond (R3). -/
def ticksPerMs : Nat := 100

/-- The largest volume an account holds, mL (Table 5-1 of 00_scope). -/
def maxVolume : Nat := 99999999

/-- The largest inventory and low threshold of an additive unit, mL (R131). -/
def maxInventory : Nat := 100000000

/-- Cap expiry, ticks after the last edge (R5). -/
def capTicks : Nat := 1000000

/-- Idle expiry, ticks after the last edge (R6). -/
def idleTicks : Nat := 200000

/-- Records the delivery record queue holds (R157). -/
def queueCapacity : Nat := 32

/-- The filter of a stroke-confirm input: 200 µs in ticks (R139). -/
def confirmFilterTicks : Nat := 20

/-- The filter of a stop input: 5 ms in ticks (R170). -/
def stopFilterTicks : Nat := 500

/-- One conversion of the scan: 2 ms in ticks (R18). -/
def conversionTicks : Nat := 200

/-- The longest gap within a telegram: 20 ms in ticks (R181). -/
def gapTicks : Nat := 2000

/-- DESIGN CHOICE, unsafe (log entry 1): the levels the pins present at the end of the model's own reset. The spec
leaves them to what is wired: meter and stroke-confirm inputs low, stop inputs high (inactive), station address 1. -/
def pinsAtReset : Pins :=
  { base := 0, ethanol := 0, confirm := 0, stop := 15, address := 1 }

end Sys2Proof.Config
end

