-- ==== Sys2Proof/Machine/State.lean ====
section
/-! DEFINITION. The state of the LB-8, as plain data: what each of the ten blocks of spec/00_scope.md Table 3-1
holds, the levels its input pins present, the queue of waiting commands, and the state after reset. Times are
remaining times in ticks of 10 µs. What a rule makes a function of other state (the product-code map, the
valve, permissive, restrict, fire, route and attention outputs, header standing) is not stored twice: it is
computed in Machine/Outputs.lean and the operations. -/

namespace Sys2Proof.Machine

/-! ### Names of states, reasons and notices -/

/-- A timer: stopped, running with its remaining time in ticks, or, for the settle timer, expired (R97, R101). -/
inductive Timer where
  | stopped
  | running (ticks : Nat)
  | expired
deriving DecidableEq, Repr

/-- How far a temperature entry's value can be trusted (R19). -/
inductive TempStatus where
  | good
  | clamped
  | held
deriving DecidableEq, Repr

/-- The reference state of the Scan Converter (R25). -/
inductive RefState where
  | ok
  | fault
deriving DecidableEq, Repr

/-- The pressure state of the ethanol header (R29). -/
inductive PressureState where
  | normal
  | low
deriving DecidableEq, Repr

/-- The state of a recipe entry (R35). -/
inductive EntryState where
  | empty
  | active
  | withdrawn
deriving DecidableEq, Repr

/-- Why a load is PAUSED (R74). -/
inductive PauseCause where
  | driver
  | noFlow
deriving DecidableEq, Repr

/-- The seven load states of 00_scope Table 6-1; the pause cause is present exactly in PAUSED (R74). -/
inductive Phase where
  | authorized
  | flowing
  | paused (c : PauseCause)
  | flush
  | halted
  | finishing
  | complete
deriving DecidableEq, Repr

/-- The halt reasons of Table 5-6. -/
inductive HaltReason where
  | underBlend
  | overBlend
  | overCapacity
  | presetOverrun
  | ethanolNoFlow
  | additiveLost (u : UnitNo)
  | terminalStop
  | linkSilent
deriving DecidableEq, Repr

/-- The six states of an additive unit (R132). -/
inductive UnitState where
  | offline
  | ready
  | routing
  | stroking
  | faulted
  | empty
deriving DecidableEq, Repr

/-- What set the stop latch (R172). -/
inductive StopCause where
  | input (i : StopNo)
  | supervisor
deriving DecidableEq, Repr

/-- The kinds of notice of the supervisor line, each with its index (Table 10-4). -/
inductive SupNotice where
  | stopChanged
  | referenceChanged
  | pressureChanged
  | unitFaulted (u : UnitNo)
  | unitEmpty (u : UnitNo)
  | armHalted (a : Arm)
  | probeFault (c : Fin 9)
  | unitLow (u : UnitNo)
  | unassignedFlow (a : Arm)
  | recordsWaiting
deriving DecidableEq, Repr

/-- The kinds of notice of an arm line, each with its index (Table 10-3). -/
inductive ArmNotice where
  | halted
  | terminalStopChanged
  | loadComplete
  | restrictChanged
  | additiveShort (u : UnitNo)
deriving DecidableEq, Repr

/-! ### Meter Front End (Table 1-1) -/

/-- One meter input. `test` is a filter test under way with the ticks it still runs (R1). -/
structure MeterInput where
  filterCode : Nat
  k : Nat
  minInterval : Nat
  presented : Bool
  accepted : Bool
  test : Option Nat
  lastEdge : Option (BitVec 32)
  lastInterval : Option Nat
  flowRate : Nat
  residue : Nat
deriving DecidableEq, Repr

/-- The two inputs of an arm and its unassigned gross counter (R12). -/
structure ArmMeters where
  base : MeterInput
  ethanol : MeterInput
  unassignedMl : Nat
  unassignedUl : Nat
deriving DecidableEq, Repr

/-! ### Scan Converter (Table 2-1) -/

/-- A temperature entry, channels 0 to 8 (R19). -/
structure TempEntry where
  code : Option Nat
  value : Int
  status : TempStatus
deriving DecidableEq, Repr

/-- A reference entry, channels 10 to 12 (R25); `inWindow` is none before the first conversion. -/
structure RefEntry where
  code : Option Nat
  inWindow : Option Bool
deriving DecidableEq, Repr

/-- The Scan Converter: channel table, reference and pressure state, scan position, and the ticks left of the
conversion under way (R18). -/
structure Scan where
  position : Fin 13
  remaining : Nat
  temps : Bank 9 TempEntry
  pressureCode : Option Nat
  belowRun : Nat
  clearRun : Nat
  refs : Bank 3 RefEntry
  reference : RefState
  pressure : PressureState
deriving DecidableEq, Repr

/-! ### Recipe Table (Table 3-1) -/

/-- One additive item of a recipe (R34). -/
structure AdditiveItem where
  unit : UnitNo
  rate : Nat
  required : Bool
deriving DecidableEq, Repr

/-- A recipe entry. `permitted` has bit `n` set for a permitted arm `n` (Table 10-11). The product-code map is the
set of ACTIVE entries with their codes (R37) and is not stored again. -/
structure RecipeEntry where
  state : EntryState
  revision : Nat
  refCount : Nat
  code : Nat
  ratio : Nat
  tolerance : Nat
  alpha : Nat
  flush : Nat
  step : Nat
  restrict : Nat
  hard : Nat
  items : List AdditiveItem
  permitted : BitVec 8
deriving DecidableEq, Repr

/-! ### Load records (Table 4-1, Table 5-3) -/

/-- The snapshot of R45 without its additive list, which the record's items carry (R74). -/
structure Snapshot where
  entry : EntryNo
  revision : Nat
  code : Nat
  ratio : Nat
  tolerance : Nat
  alpha : Nat
  flush : Nat
  step : Nat
  restrict : Nat
  hard : Nat
deriving DecidableEq, Repr

/-- The blend accounts of Table 4-1 that are not per item. -/
structure Accounts where
  baseGross : Nat
  ethGross : Nat
  totalGross : Nat
  baseStd : Nat
  baseStdRes : Nat
  ethStd : Nat
  ethStdRes : Nat
  totalStd : Nat
  owed : Int
  restrictOn : Bool
  closedValve : Nat
deriving DecidableEq, Repr

/-- An additive item of a load record: the snapshot's item and its accounts and marks (R74). -/
structure LoadItem where
  unit : UnitNo
  rate : Nat
  required : Bool
  delivered : Nat
  shots : Nat
  owed : Int
  short : Bool
  finalShot : Bool
deriving DecidableEq, Repr

/-- The exception flags of Table 5-4; `additiveShort` holds ADDITIVE_SHORT(u) for each unit. -/
structure ExceptionFlags where
  tempHeld : Bool
  overspeedBase : Bool
  overspeedEth : Bool
  ethWhileClosed : Bool
  additiveShort : Bank 4 Bool
  offRatio : Bool
  expired : Bool
  aborted : Bool
deriving DecidableEq, Repr

/-- A load record (Table 5-3). `stopHalt` and `lostHalts` are the halts handed to the load by the Stop Latch (R174)
and by lost units (R148) that its Arm Controller has still to take at the load's own event. -/
structure LoadRecord where
  number : Nat
  bill : List Byte
  preset : Nat
  authTime : BitVec 32
  snap : Snapshot
  phase : Phase
  haltReason : Option HaltReason
  acc : Accounts
  items : List LoadItem
  flags : ExceptionFlags
  finalRatio : Option Nat
  endTime : Option (BitVec 32)
  stopHalt : Bool
  lostHalts : List UnitNo
deriving DecidableEq, Repr

/-- One additive item of a delivery record or last summary (R105, R156). -/
structure SummaryItem where
  unit : UnitNo
  delivered : Nat
  shots : Nat
deriving DecidableEq, Repr

/-- The final fields of a load: what the last summary holds (R105) and the delivery record carries (R156). -/
structure FinalFigures where
  number : Nat
  bill : List Byte
  entry : EntryNo
  revision : Nat
  code : Nat
  preset : Nat
  baseGross : Nat
  ethGross : Nat
  totalGross : Nat
  baseStd : Nat
  ethStd : Nat
  totalStd : Nat
  finalRatio : Nat
  items : List SummaryItem
  flags : ExceptionFlags
  haltReason : Option HaltReason
  authTime : BitVec 32
  endTime : BitVec 32
deriving DecidableEq, Repr

/-! ### Arm Controllers (Table 5-1) -/

/-- The arm state of R72: out of service, idle, or holding a load record whose load state it then is. -/
inductive Occupancy where
  | outOfService
  | idle
  | loaded (r : LoadRecord)
deriving DecidableEq, Repr

/-- An Arm Controller (Table 5-1). -/
structure ArmCtl where
  occ : Occupancy
  noFlow : Timer
  linkSilence : Timer
  window : Timer
  settle : Timer
  lastSummary : Option FinalFigures
deriving DecidableEq, Repr

/-- The station settings of the Arm Controllers (R102): seconds, and the preset overrun allowance in litres. -/
structure StationSettings where
  noFlow : Nat
  linkSilence : Nat
  window : Nat
  settle : Nat
  allowance : Nat
deriving DecidableEq, Repr

/-! ### Header Arbiter (Table 6-1) -/

/-- A holder of a header slot with the ticks left of its hold timer and its ethanol-flow timer (R109). -/
structure Holder where
  arm : Arm
  hold : Nat
  flow : Nat
deriving DecidableEq, Repr

/-- The Header Arbiter: its settings (R127), the holder list, oldest grant first, and the wait queue, head first. -/
structure Header where
  slots : Nat
  hold : Nat
  flowTimeout : Nat
  alpha : Nat
  threshold : Nat
  holders : List Holder
  wait : List Arm
deriving DecidableEq, Repr

/-! ### Additive units (Table 7-1) -/

/-- An additive unit. `presented`, `accepted` and `test` are its stroke-confirm input (R139). -/
structure AdditiveUnit where
  state : UnitState
  shot : Nat
  low : Nat
  strokeTimeout : Nat
  settle : Nat
  inventory : Nat
  lowMark : Bool
  failures : Nat
  route : Option Arm
  inFlight : Option Arm
  settleTimer : Timer
  strokeTimer : Timer
  queue : List Arm
  confirmed : Nat
  failed : Nat
  stray : Nat
  presented : Bool
  accepted : Bool
  test : Option Nat
deriving DecidableEq, Repr

/-! ### Record Queue (Table 8-1, Table 8-3) -/

/-- A delivery record (R156): the load's final fields with the arm and the two gross residues. -/
structure DeliveryRecord where
  arm : Arm
  baseResidue : Nat
  ethResidue : Nat
  figures : FinalFigures
deriving DecidableEq, Repr

/-- The Record Queue: delivery records head first, the completion wait list head first, the notice settings,
the age timer and the load-number counter (R157, R158, R161, R167, R168). -/
structure RecordQueue where
  records : List DeliveryRecord
  wait : List Arm
  trigger : Nat
  ageTimeout : Nat
  ageTimer : Timer
  nextNumber : Nat
deriving DecidableEq, Repr

/-! ### Stop Latch (R170 to R172) -/

/-- A stop input: its enable, the presented and accepted level (true is high), and a filter test under way. -/
structure StopInput where
  enabled : Bool
  presented : Bool
  accepted : Bool
  test : Option Nat
deriving DecidableEq, Repr

/-- What the latch holds while SET: the cause and the set time (R172). -/
structure LatchHold where
  cause : StopCause
  time : BitVec 32
deriving DecidableEq, Repr

/-- The Stop Latch; `latch` is none while CLEAR. -/
structure StopLatch where
  inputs : Bank 4 StopInput
  latch : Option LatchHold
deriving DecidableEq, Repr

/-! ### Line Interfaces (R180, R184, R186, R187) -/

/-- The seven counters of a line (R186). -/
structure LineCounters where
  poisoned : Nat
  crc : Nat
  timeout : Nat
  headAbort : Nat
  overlap : Nat
  misdirected : Nat
  collision : Nat
deriving DecidableEq, Repr

/-- An assembling buffer: the characters received so far, head first, the poisoned mark, and the ticks since the last
character (R180). -/
structure Assembly where
  chars : List Byte
  poisoned : Bool
  gap : Nat
deriving DecidableEq, Repr

/-- A telegram received whole and not yet checked (R180, R182). -/
structure Telegram where
  chars : List Byte
  poisoned : Bool
deriving DecidableEq, Repr

/-- An occupied pending-request slot (R184): the request handed to its owner (none where the line itself refused it),
whether it came as broadcast, the reply body being sent once there is one, and whether it is an accepted RESTART, whose
reset follows the reply (R192). -/
structure Slot where
  handed : Option Instr
  broadcast : Bool
  reply : Option (List Byte)
  restart : Bool
deriving DecidableEq, Repr

/-- What every line holds; `assembly` is none while the buffer waits for a head. -/
structure LineState where
  assembly : Option Assembly
  received : List Telegram
  slot : Option Slot
  counters : LineCounters
deriving DecidableEq, Repr

/-- The supervisor line: its notice set, whether the station is sending a reply on it, and whether a character has
been received during that reply (R183, R187). A notice's data is none where it is live. -/
structure SupLine where
  line : LineState
  notices : List (SupNotice × Option Nat)
  transmitting : Bool
  collided : Bool
deriving DecidableEq, Repr

/-- An arm line and its notice set (R187). -/
structure ArmLine where
  line : LineState
  notices : List (ArmNotice × Option Nat)
deriving DecidableEq, Repr

/-! ### The station -/

/-- The LB-8. `pending` is the queue of commands that wait, first in first out. `addressPins` is the level the address pins were
last read at, and `addressInputs` are the levels they will present at the ends of the station restarts to come, in order: like
`pending` it is what comes from outside, and where it is empty the pins stay as they are (log entry 19). -/
structure State where
  pending : List Instr
  timebase : BitVec 32
  meters : Bank 8 ArmMeters
  scan : Scan
  recipes : Bank 32 RecipeEntry
  arms : Bank 8 ArmCtl
  settings : StationSettings
  header : Header
  units : Bank 4 AdditiveUnit
  records : RecordQueue
  stop : StopLatch
  supervisor : SupLine
  armLines : Bank 8 ArmLine
  clock : BitVec 32
  clockRemaining : Nat
  address : BitVec 5
  addressPins : BitVec 5
  addressInputs : List (BitVec 5)
deriving DecidableEq, Repr

/-- The faults of a step: the LB-8 has none. The spec gives every command an effect in every state, and says of no
command that it stops the part, so no constructor stands here and no step answers a fault (log entry 2). -/
inductive Fault where
deriving DecidableEq, Repr

/-- Why a step is refused. -/
inductive Refusal where
  /-- A command that has no meaning in this model yet, by its mnemonic: raised by an arm of `exec` alone, and by none
  of them now. Safe: the model stops where the part goes on. -/
  | notModelled (mnemonic : String)
deriving DecidableEq, Repr

/-! ### The state after reset -/

/-- A meter input after reset, presenting `level` (Table 1-4, R2). -/
def MeterInput.atReset (level : Bool) : MeterInput :=
  { filterCode := 1, k := 0, minInterval := 1, presented := level, accepted := level, test := none,
    lastEdge := none, lastInterval := none, flowRate := 0, residue := 0 }

/-- The Scan Converter after reset (Table 2-4). -/
def Scan.atReset : Scan :=
  { position := 0, remaining := Config.conversionTicks,
    temps := Bank.tab fun _ => { code := none, value := 150, status := .held },
    pressureCode := none, belowRun := 0, clearRun := 0,
    refs := Bank.tab fun _ => { code := none, inWindow := none },
    reference := .ok, pressure := .normal }

/-- A recipe entry after reset (R49). -/
def RecipeEntry.atReset : RecipeEntry :=
  { state := .empty, revision := 0, refCount := 0, code := 0, ratio := 0, tolerance := 0, alpha := 0, flush := 0,
    step := 0, restrict := 0, hard := 0, items := [], permitted := 0 }

/-- An Arm Controller after reset (Table 5-9). -/
def ArmCtl.atReset : ArmCtl :=
  { occ := .outOfService, noFlow := .stopped, linkSilence := .stopped, window := .stopped, settle := .stopped,
    lastSummary := none }

/-- The station settings after reset (R102). -/
def StationSettings.atReset : StationSettings :=
  { noFlow := 30, linkSilence := 10, window := 300, settle := 3, allowance := 50 }

/-- The Header Arbiter after reset (Table 6-2). -/
def Header.atReset : Header :=
  { slots := 1, hold := 60, flowTimeout := 5, alpha := 1100, threshold := 0, holders := [], wait := [] }

/-- An additive unit after reset, its stroke-confirm input presenting `level` (Table 7-5). -/
def AdditiveUnit.atReset (level : Bool) : AdditiveUnit :=
  { state := .offline, shot := 0, low := 0, strokeTimeout := 1000, settle := 200, inventory := 0, lowMark := false,
    failures := 0, route := none, inFlight := none, settleTimer := .stopped, strokeTimer := .stopped, queue := [],
    confirmed := 0, failed := 0, stray := 0, presented := level, accepted := level, test := none }

/-- The Record Queue after reset (Table 8-3). -/
def RecordQueue.atReset : RecordQueue :=
  { records := [], wait := [], trigger := 1, ageTimeout := 30, ageTimer := .stopped, nextNumber := 1 }

/-- The latch at the end of a reset: SET by the lowest-numbered active input, at clock 0, if any input is active
(R172, Table 9-2); every input is enabled then. -/
def LatchHold.atReset (stop : BitVec 4) : Option LatchHold :=
  ((List.finRange 4).find? fun i => !stop.getLsbD i.val).map fun i => { cause := .input i, time := 0 }

/-- The Stop Latch after reset (Table 9-2). -/
def StopLatch.atReset (stop : BitVec 4) : StopLatch :=
  { inputs := Bank.tab fun i =>
      { enabled := true, presented := stop.getLsbD i.val, accepted := stop.getLsbD i.val, test := none },
    latch := LatchHold.atReset stop }

/-- A line's counters at 0 (Table 10-14). -/
def LineCounters.zero : LineCounters :=
  { poisoned := 0, crc := 0, timeout := 0, headAbort := 0, overlap := 0, misdirected := 0, collision := 0 }

/-- A line after reset (Table 10-14). -/
def LineState.atReset : LineState :=
  { assembly := none, received := [], slot := none, counters := LineCounters.zero }

/-- The supervisor line after reset: its notice set is empty but for a STOP_CHANGED raised when the latch sets at the
end of the reset (R178, Table 10-14). -/
def SupLine.atReset (stop : BitVec 4) : SupLine :=
  { line := LineState.atReset,
    notices := if (LatchHold.atReset stop).isSome then [(.stopChanged, none)] else [],
    transmitting := false, collided := false }

/-- An arm line after reset (Table 10-14). -/
def ArmLine.atReset : ArmLine :=
  { line := LineState.atReset, notices := [] }

/-- The station at the end of a reset whose pins present `p` (R17, R33, R49, R108, R130, R155, R169, R178, R195). -/
def State.resetWith (p : Pins) : State :=
  { pending := [], timebase := 0,
    meters := Bank.tab fun a =>
      { base := MeterInput.atReset (p.base.getLsbD a.val), ethanol := MeterInput.atReset (p.ethanol.getLsbD a.val),
        unassignedMl := 0, unassignedUl := 0 },
    scan := Scan.atReset, recipes := Bank.tab fun _ => RecipeEntry.atReset,
    arms := Bank.tab fun _ => ArmCtl.atReset, settings := StationSettings.atReset, header := Header.atReset,
    units := Bank.tab fun u => AdditiveUnit.atReset (p.confirm.getLsbD u.val),
    records := RecordQueue.atReset, stop := StopLatch.atReset p.stop, supervisor := SupLine.atReset p.stop,
    armLines := Bank.tab fun _ => ArmLine.atReset, clock := 0, clockRemaining := Config.ticksPerSecond,
    address := p.address, addressPins := p.address, addressInputs := [] }

/-- The machine right after reset, with the pins as `Config.pinsAtReset` has them (log entry 1) and no command
waiting. -/
def State.reset : State := State.resetWith Config.pinsAtReset

end Sys2Proof.Machine
end

