-- ==== Sys2Proof/Machine/Operands.lean ====
section
/-! DEFINITION. Fields of telegrams (R193, R194): numbers to characters and back, the codes of enumerated values,
absent values, lists, clamping, and the reply codes of Table 10-2. -/

namespace Sys2Proof.Machine

/-! ### Numbers (R193) -/

/-- One character. -/
def u8 (n : Nat) : List Byte := [BitVec.ofNat 8 n]

/-- Two characters, most significant first. -/
def u16 (n : Nat) : List Byte := [BitVec.ofNat 8 (n / 256), BitVec.ofNat 8 n]

/-- Four characters, most significant first. -/
def u32 (n : Nat) : List Byte :=
  [BitVec.ofNat 8 (n / 16777216), BitVec.ofNat 8 (n / 65536), BitVec.ofNat 8 (n / 256), BitVec.ofNat 8 n]

/-- A signed value in two characters, two's complement. -/
def i16 (x : Int) : List Byte := u16 (BitVec.ofInt 16 x).toNat

/-- A signed value in four characters, two's complement. -/
def i32 (x : Int) : List Byte := u32 (BitVec.ofInt 32 x).toNat

/-- The number two characters carry. -/
def rd16 (a b : Byte) : Nat := a.toNat * 256 + b.toNat

/-- The number four characters carry. -/
def rd32 (a b c d : Byte) : Nat := ((a.toNat * 256 + b.toNat) * 256 + c.toNat) * 256 + d.toNat

/-- A value in one character, absent as all ones (R193). -/
def opt8 : Option Nat → List Byte
  | none => u8 255
  | some n => u8 n

/-- A value in two characters, absent as all ones (R193). -/
def opt16 : Option Nat → List Byte
  | none => u16 65535
  | some n => u16 n

/-- A value in four characters, absent as all ones (R193). -/
def opt32 : Option Nat → List Byte
  | none => u32 4294967295
  | some n => u32 n

/-- A list: one count character and the entries (R193). -/
def listField {α : Type} (f : α → List Byte) (l : List α) : List Byte :=
  u8 l.length ++ l.flatMap f

/-- A list of arms, one character each. -/
def armList (l : List Arm) : List Byte := listField (fun a => u8 a.val) l

/-- A character string: one length character and the characters (R193). -/
def stringField (s : List Byte) : List Byte := u8 s.length ++ s

/-- `n` replaced by the nearer bound where it lies outside `lo` to `hi` (00_scope 5.2). -/
def clamp (lo hi n : Nat) : Nat := max lo (min hi n)

/-! ### Reply codes (Table 10-2) -/

/-- The reply codes of Table 10-2, in its order. -/
inductive ReplyCode where
  | accepted
  | adjusted
  | refusedState
  | refusedRange
  | unknownRequest
  | noRecipe
  | notPermitted
  | additiveUnavailable
  | recordPending
  | terminalStopped
  | inUse
  | queueEmpty
  | mismatch
  | notConfigured
  | duplicateCode
  | stopActive
  | noNotice
  | noLoad
deriving DecidableEq, Repr

/-- The code of a reply code (Table 10-2). -/
def replyCodeNumber : ReplyCode → Nat
  | .accepted => 0
  | .adjusted => 1
  | .refusedState => 2
  | .refusedRange => 3
  | .unknownRequest => 4
  | .noRecipe => 5
  | .notPermitted => 6
  | .additiveUnavailable => 7
  | .recordPending => 8
  | .terminalStopped => 9
  | .inUse => 10
  | .queueEmpty => 11
  | .mismatch => 12
  | .notConfigured => 13
  | .duplicateCode => 14
  | .stopActive => 15
  | .noNotice => 16
  | .noLoad => 17

/-- ADJUSTED where a value was changed in the taking, ACCEPTED otherwise (Table 10-2). -/
def adjustedIf (changed : Bool) : ReplyCode := if changed then .adjusted else .accepted

/-! ### Codes of enumerated values -/

/-- OUT_OF_SERVICE 0, IDLE 1, load states 2 to 8 (R193). -/
def occupancyCode : Occupancy → Nat
  | .outOfService => 0
  | .idle => 1
  | .loaded r =>
    match r.phase with
    | .authorized => 2
    | .flowing => 3
    | .paused _ => 4
    | .flush => 5
    | .halted => 6
    | .finishing => 7
    | .complete => 8

/-- 0 none, 1 DRIVER, 2 NO_FLOW, as Table 10-10 has them for LOAD STATUS. DEDUCED (log entry 9): PAUSE's reply (R88) carries the
cause with the same codes, where R193's places in R74's list would give DRIVER 0, NO_FLOW 1 and absent 255. -/
def pauseCode : Phase → Nat
  | .paused .driver => 1
  | .paused .noFlow => 2
  | _ => 0

/-- Table 10-12. -/
def haltCode : HaltReason → Nat
  | .underBlend => 1
  | .overBlend => 2
  | .overCapacity => 3
  | .presetOverrun => 4
  | .ethanolNoFlow => 5
  | .additiveLost u => 6 + u.val
  | .terminalStop => 10
  | .linkSilent => 11

/-- Table 10-12, 0 for none. -/
def haltCodeOf : Option HaltReason → Nat
  | none => 0
  | some r => haltCode r

/-- GOOD 0, CLAMPED 1, HELD 2 (R19's order, R193). -/
def tempStatusCode : TempStatus → Nat
  | .good => 0
  | .clamped => 1
  | .held => 2

/-- 0 OK, 1 FAULT (Table 10-4). -/
def refStateCode : RefState → Nat
  | .ok => 0
  | .fault => 1

/-- 0 NORMAL, 1 LOW (Table 10-4). -/
def pressureCode : PressureState → Nat
  | .normal => 0
  | .low => 1

/-- IN 0, OUT 1 (R25's order, R193), absent before the first conversion. -/
def windowResult : Option Bool → Option Nat
  | none => none
  | some true => some 0
  | some false => some 1

/-- EMPTY 0, ACTIVE 1, WITHDRAWN 2 (R34's order, R193). -/
def entryStateCode : EntryState → Nat
  | .empty => 0
  | .active => 1
  | .withdrawn => 2

/-- OFFLINE 0 to EMPTY 5 (R131's order, R193). -/
def unitStateCode : UnitState → Nat
  | .offline => 0
  | .ready => 1
  | .routing => 2
  | .stroking => 3
  | .faulted => 4
  | .empty => 5

/-- 0 to 3 the stop input, 4 SUPERVISOR (Table 10-4). -/
def stopCauseCode : StopCause → Nat
  | .input i => i.val
  | .supervisor => 4

/-- 0 CLEAR, 1 SET (Table 10-3, Table 10-4; log entry 9). -/
def latchCode (l : Option LatchHold) : Nat := if l.isSome then 1 else 0

/-- The latch cause, absent while CLEAR. -/
def latchCause (l : Option LatchHold) : Option Nat := l.map fun h => stopCauseCode h.cause

/-- DEDUCED (log entry 9): "set or clear" sends set as 0 and clear as 1 (R131, R193). -/
def setClearCode (b : Bool) : Nat := if b then 0 else 1

/-- DEDUCED (log entry 9): "open or closed" sends open as 0 and closed as 1 (Table 6-1, R193). -/
def openClosedCode (b : Bool) : Nat := if b then 0 else 1

/-- DEDUCED (log entry 9): ENABLED 0, DISABLED 1 (R171, R193). -/
def enableCode (b : Bool) : Nat := if b then 0 else 1

/-- 0 or 1: a level (0 low, 1 high, Table 10-6), a restrict state, a short flag, a mark, a required flag. -/
def bitCode (b : Bool) : Nat := if b then 1 else 0

/-- The remaining time of a running timer in whole seconds, rounded up (R104, R129). -/
def secondsUp (ticks : Nat) : Nat := (ticks + (Config.ticksPerSecond - 1)) / Config.ticksPerSecond

/-- Stopped 0, running 1, expired 2 (R104, R193). -/
def timerCode : Timer → Nat
  | .stopped => 0
  | .running _ => 1
  | .expired => 2

/-- DEDUCED (log entry 9): the remaining time of a timer in whole seconds: absent while stopped, 0 once expired. -/
def timerSeconds : Timer → Option Nat
  | .stopped => none
  | .running t => some (secondsUp t)
  | .expired => some 0

end Sys2Proof.Machine
end

