-- ==== Sys2Proof/Machine/Flags.lean ====
section
/-! DEFINITION. The exception flags of a load (R75, Table 5-4) and the two characters that carry them (Table 10-13). -/

namespace Sys2Proof.Machine

/-- Every flag clear: the flags at the acceptance of AUTHORIZE (R75). -/
def ExceptionFlags.clear : ExceptionFlags :=
  { tempHeld := false, overspeedBase := false, overspeedEth := false, ethWhileClosed := false,
    additiveShort := Bank.tab fun _ => false, offRatio := false, expired := false, aborted := false }

/-- The flags with ADDITIVE_SHORT(u) set. -/
def ExceptionFlags.setShort (f : ExceptionFlags) (u : UnitNo) : ExceptionFlags :=
  { f with additiveShort := f.additiveShort.put u true }

/-- The flags of stages 1 and 2 of a delivery: TEMP_HELD and the overspeed flag of the meter that pulsed (R52, R7);
a flag already set stays set (R75). -/
def ExceptionFlags.markDelivery (f : ExceptionFlags) (m : Meter) (held overspeed : Bool) : ExceptionFlags :=
  { f with
    tempHeld := f.tempHeld || held
    overspeedBase := f.overspeedBase || (overspeed && decide (m = .base))
    overspeedEth := f.overspeedEth || (overspeed && decide (m = .ethanol)) }

/-- The flag set as a number, by the bits of Table 10-13. -/
def ExceptionFlags.word (f : ExceptionFlags) : Nat :=
  bitCode f.tempHeld + 2 * bitCode f.overspeedBase + 4 * bitCode f.overspeedEth + 8 * bitCode f.ethWhileClosed +
  16 * bitCode (f.additiveShort.get 0) + 32 * bitCode (f.additiveShort.get 1) +
  64 * bitCode (f.additiveShort.get 2) + 128 * bitCode (f.additiveShort.get 3) +
  256 * bitCode f.offRatio + 512 * bitCode f.expired + 1024 * bitCode f.aborted

end Sys2Proof.Machine
end

