-- ==== Sys2Proof/Machine/Ops.lean ====
section
/-! DEFINITION. Named operations over the station's state that the other files share: reading and changing an arm, a
load record, a unit, a meter input or a line; timers; and the raising of notices (R187). -/

namespace Sys2Proof.Machine

/-! ### Timers (R97) -/

/-- A timer started, or retriggered, with a setting in seconds. -/
def Timer.startSeconds (n : Nat) : Timer := .running (n * Config.ticksPerSecond)

/-- A timer started with a setting in milliseconds. -/
def Timer.startMs (n : Nat) : Timer := .running (n * Config.ticksPerMs)

/-- The timer runs. -/
def Timer.runs : Timer → Bool
  | .running _ => true
  | _ => false

/-- The timer expires now: it runs and its remaining time has reached 0 (R97). -/
def Timer.due : Timer → Bool
  | .running 0 => true
  | _ => false

/-- A retrigger: a start made while the timer runs, and nothing otherwise (R97). -/
def Timer.retrigger (t : Timer) (seconds : Nat) : Timer :=
  if t.runs then Timer.startSeconds seconds else t

/-! ### Load states -/

/-- AUTHORIZED, FLOWING, PAUSED or FLUSH: the states a halt event halts (R95). -/
def Phase.haltable : Phase → Bool
  | .authorized => true
  | .flowing => true
  | .paused _ => true
  | .flush => true
  | _ => false

/-- AUTHORIZED through FINISHING: the states in which a load receives its arm's pulses (R8). -/
def Phase.metered : Phase → Bool
  | .complete => false
  | _ => true

/-- The load is PAUSED, with either cause. -/
def Phase.isPaused : Phase → Bool
  | .paused _ => true
  | _ => false

/-- AUTHORIZED, FLOWING or PAUSED: the states in which ethanol owed is worked out (R60). -/
def Phase.owes : Phase → Bool
  | .authorized => true
  | .flowing => true
  | .paused _ => true
  | _ => false

/-! ### Arms and load records -/

/-- The load record the arm holds, if it holds one (R72). -/
def Occupancy.record : Occupancy → Option LoadRecord
  | .loaded r => some r
  | _ => none

/-- The load record of arm `a`. -/
def State.record (s : State) (a : Arm) : Option LoadRecord := (s.arms.get a).occ.record

/-- The load state of arm `a`, if it holds a load. -/
def State.phase (s : State) (a : Arm) : Option Phase := (s.record a).map LoadRecord.phase

/-- The arm is in service: in any state other than OUT_OF_SERVICE (R176). -/
def Occupancy.inService : Occupancy → Bool
  | .outOfService => false
  | _ => true

/-- The arm state with its load record changed, if it holds one. -/
def Occupancy.mapRecord (f : LoadRecord → LoadRecord) : Occupancy → Occupancy
  | .loaded r => .loaded (f r)
  | o => o

/-- The Arm Controller with its load record changed, if it holds one. -/
def ArmCtl.mapRecord (f : LoadRecord → LoadRecord) (c : ArmCtl) : ArmCtl :=
  { c with occ := c.occ.mapRecord f }

/-- Arm Controller `a` changed. -/
def State.modArm (s : State) (a : Arm) (f : ArmCtl → ArmCtl) : State :=
  { s with arms := s.arms.upd a f }

/-- The load record of arm `a` changed, if the arm holds one. -/
def State.modRecord (s : State) (a : Arm) (f : LoadRecord → LoadRecord) : State :=
  s.modArm a (ArmCtl.mapRecord f)

/-- Additive unit `u` changed. -/
def State.modUnit (s : State) (u : UnitNo) (f : AdditiveUnit → AdditiveUnit) : State :=
  { s with units := s.units.upd u f }

/-! ### Meter inputs -/

/-- One of an arm's two inputs. -/
def ArmMeters.input (x : ArmMeters) : Meter → MeterInput
  | .base => x.base
  | .ethanol => x.ethanol

/-- An arm's meters with one input changed. -/
def ArmMeters.modInput (x : ArmMeters) (m : Meter) (f : MeterInput → MeterInput) : ArmMeters :=
  match m with
  | .base => { x with base := f x.base }
  | .ethanol => { x with ethanol := f x.ethanol }

/-- Input Bn or En of arm `a`. -/
def State.meter (s : State) (a : Arm) (m : Meter) : MeterInput := (s.meters.get a).input m

/-- The meters of arm `a` changed. -/
def State.modMeters (s : State) (a : Arm) (f : ArmMeters → ArmMeters) : State :=
  { s with meters := s.meters.upd a f }

/-- Input Bn or En of arm `a` changed. -/
def State.modMeter (s : State) (a : Arm) (m : Meter) (f : MeterInput → MeterInput) : State :=
  s.modMeters a fun x => x.modInput m f

/-! ### Lines -/

/-- What line `l` holds. -/
def State.line (s : State) : Line → LineState
  | .supervisor => s.supervisor.line
  | .arm n => (s.armLines.get n).line

/-- Line `l` changed. -/
def State.modLine (s : State) (l : Line) (f : LineState → LineState) : State :=
  match l with
  | .supervisor => { s with supervisor := { s.supervisor with line := f s.supervisor.line } }
  | .arm n => { s with armLines := s.armLines.upd n fun x => { x with line := f x.line } }

/-- A line counter one higher, saturating at 65,535 (R186). -/
def countUp (n : Nat) : Nat := if n < 65535 then n + 1 else n

/-! ### Notices (R187, Tables 10-3 and 10-4) -/

/-- The priority number of a supervisor notice's kind (Table 10-4). -/
def SupNotice.priority : SupNotice → Nat
  | .stopChanged => 1
  | .referenceChanged => 2
  | .pressureChanged => 3
  | .unitFaulted _ => 4
  | .unitEmpty _ => 5
  | .armHalted _ => 6
  | .probeFault _ => 7
  | .unitLow _ => 8
  | .unassignedFlow _ => 9
  | .recordsWaiting => 10

/-- The index of a supervisor notice: the unit, arm or channel its kind names. -/
def SupNotice.index : SupNotice → Option Nat
  | .unitFaulted u => some u.val
  | .unitEmpty u => some u.val
  | .armHalted a => some a.val
  | .probeFault c => some c.val
  | .unitLow u => some u.val
  | .unassignedFlow a => some a.val
  | _ => none

/-- The priority number of an arm notice's kind (Table 10-3). -/
def ArmNotice.priority : ArmNotice → Nat
  | .halted => 1
  | .terminalStopChanged => 2
  | .loadComplete => 3
  | .restrictChanged => 4
  | .additiveShort _ => 5

/-- The index of an arm notice. -/
def ArmNotice.index : ArmNotice → Option Nat
  | .additiveShort u => some u.val
  | _ => none

/-- A notice's place in the order in which READ NOTICE returns notices: kind by priority, then index (R188). -/
def SupNotice.key (k : SupNotice) : Nat := k.priority * 256 + k.index.getD 255

/-- A notice's place in the order in which READ NOTICE returns notices: kind by priority, then index (R188). -/
def ArmNotice.key (k : ArmNotice) : Nat := k.priority * 256 + k.index.getD 255

/-- A notice set with a notice raised: it joins in READ NOTICE's order, and one already pending keeps its data
(R187). -/
def raiseIn {κ : Type} (key : κ → Nat) (k : κ) (d : Option Nat) : List (κ × Option Nat) → List (κ × Option Nat)
  | [] => [(k, d)]
  | p :: rest =>
    if key k = key p.1 then p :: rest
    else if key k < key p.1 then (k, d) :: p :: rest
    else p :: raiseIn key k d rest

/-- A notice raised on the supervisor line, with its data where it is fixed. -/
def State.raiseSup (s : State) (k : SupNotice) (d : Option Nat) : State :=
  { s with supervisor := { s.supervisor with notices := raiseIn SupNotice.key k d s.supervisor.notices } }

/-- A notice raised on arm line `n`, with its data where it is fixed. -/
def State.raiseArm (s : State) (n : Arm) (k : ArmNotice) (d : Option Nat) : State :=
  { s with armLines := s.armLines.upd n fun x => { x with notices := raiseIn ArmNotice.key k d x.notices } }

end Sys2Proof.Machine
end

