-- ==== Sys2Proof/Machine/Blend.lean ====
section
/-! DEFINITION. The blend arithmetic of spec/04_blend_arithmetic.md: volume correction, gross and standard
accumulation with saturation, ethanol and additive owed, and the completion figures. All of it is in integers and
every division rounds down unless a rule says otherwise (R53). -/

namespace Sys2Proof.Machine

/-! ### Volume correction (R53) -/

/-- C / 1,000 rounded to the nearest integer, halves toward zero (R53 step 2). -/
def roundedTerm (c : Int) : Int :=
  let m : Nat := (c.natAbs + 499) / 1000
  if c < 0 then -(m : Int) else (m : Int)

/-- The volume correction factor of a temperature and an expansion coefficient (R53). -/
def vcf (alpha : Nat) (t : Int) : Nat :=
  (max 9000 (min 11000 (10000 - roundedTerm ((alpha : Int) * (t - 150))))).toNat

/-! ### Accumulation (R55 to R57) -/

/-- The part of a carry that a total can still take (R57). -/
def roomFor (total carry : Nat) : Nat := min carry (Config.maxVolume - total)

/-- Stage 3: the amount joins the meter's gross account and total gross (R55). -/
def Accounts.addGross (x : Accounts) (m : Meter) (amount : Nat) : Accounts :=
  match m with
  | .base => { x with baseGross := x.baseGross + amount, totalGross := x.totalGross + amount }
  | .ethanol => { x with ethGross := x.ethGross + amount, totalGross := x.totalGross + amount }

/-- The standard residue of a meter. -/
def Accounts.stdResidue (x : Accounts) : Meter → Nat
  | .base => x.baseStdRes
  | .ethanol => x.ethStdRes

/-- Stage 4: the amount joins the meter's standard account and total standard, and the meter's standard residue becomes
`res` (R56). -/
def Accounts.addStandard (x : Accounts) (m : Meter) (amount res : Nat) : Accounts :=
  match m with
  | .base => { x with baseStd := x.baseStd + amount, baseStdRes := res, totalStd := x.totalStd + amount }
  | .ethanol => { x with ethStd := x.ethStd + amount, ethStdRes := res, totalStd := x.totalStd + amount }

/-- Stage 5 of an ethanol delivery through a closed valve: its gross carry joins the closed-valve volume (R66), which
like every volume account saturates. -/
def Accounts.addClosed (x : Accounts) (amount : Nat) : Accounts :=
  { x with closedValve := min Config.maxVolume (x.closedValve + amount) }

/-! ### Owed volumes (R59, R67) -/

/-- The flush allowance F: the flush volume in standard mL at the base VCF (R59 step 1). -/
def flushAllowance (flush baseVcf : Nat) : Nat := flush * 1000 * baseVcf / 10000

/-- The ethanol due D (R59 step 2). -/
def ethanolDue (ratio baseStd allowance : Nat) : Nat := ratio * (baseStd + allowance) / (10000 - ratio)

/-- Ethanol owed, D − Ve (R59 step 3). -/
def ethanolOwed (snap : Snapshot) (x : Accounts) (baseVcf : Nat) : Int :=
  (ethanolDue snap.ratio x.baseStd (flushAllowance snap.flush baseVcf) : Int) - (x.ethStd : Int)

/-- Additive owed of one item (R67). -/
def additiveOwed (rate totalGross delivered : Nat) : Int :=
  ((rate * totalGross / 1000000 : Nat) : Int) - (delivered : Int)

/-- The item with its additive owed worked out again (R67). -/
def LoadItem.recompute (totalGross : Nat) (i : LoadItem) : LoadItem :=
  { i with owed := additiveOwed i.rate totalGross i.delivered }

/-- A stroke credit: delivered and confirmed shots rise, saturating, and owed is worked out again (R141). -/
def LoadItem.credit (shot totalGross : Nat) (i : LoadItem) : LoadItem :=
  LoadItem.recompute totalGross
    { i with delivered := min Config.maxVolume (i.delivered + shot), shots := min 65535 (i.shots + 1) }

/-- Every item for unit `u` of a load record changed. -/
def LoadRecord.modItem (r : LoadRecord) (u : UnitNo) (f : LoadItem → LoadItem) : LoadRecord :=
  { r with items := r.items.map fun i => if i.unit = u then f i else i }

/-- The load's item for unit `u`, if its snapshot lists the unit. -/
def LoadRecord.item (r : LoadRecord) (u : UnitNo) : Option LoadItem := r.items.find? fun i => i.unit = u

/-- The load's item for unit `u` holds a set final-shot mark. -/
def LoadRecord.marked (r : LoadRecord) (u : UnitNo) : Bool := r.items.any fun i => decide (i.unit = u) && i.finalShot

/-! ### Stages 1 to 6 of a delivery (Table 4-2) -/

/-- A pulse delivery (R11). -/
structure Delivery where
  meter : Meter
  k : Nat
  carry : Nat
  overspeed : Bool
deriving DecidableEq, Repr

/-- What the Arm Controller reads for a delivery: its base temperature entry and the ethanol header entry (R20), the
ethanol α in force (R54), and whether the arm's valve output is open (R66). -/
structure Readings where
  base : TempEntry
  ethanol : TempEntry
  ethAlpha : Nat
  valveOpen : Bool
deriving DecidableEq, Repr

/-- The base VCF of the delivery (R54). -/
def LoadRecord.baseVcf (r : LoadRecord) (x : Readings) : Nat := vcf r.snap.alpha x.base.value

/-- The VCF applied to the pulse itself (Table 4-3). -/
def LoadRecord.pulseVcf (r : LoadRecord) (d : Delivery) (x : Readings) : Nat :=
  match d.meter with
  | .base => r.baseVcf x
  | .ethanol => vcf x.ethAlpha x.ethanol.value

/-- An entry that the delivery uses is HELD (R52, Table 4-3). -/
def LoadRecord.usesHeld (r : LoadRecord) (d : Delivery) (x : Readings) : Bool :=
  match d.meter with
  | .base => decide (x.base.status = .held)
  | .ethanol => decide (x.ethanol.status = .held) || (r.phase.owes && decide (x.base.status = .held))

/-- The standard volume of the pulse and the residue before it, in units of 10⁻⁷ mL (R56). -/
def LoadRecord.stdSum (r : LoadRecord) (d : Delivery) (x : Readings) : Nat :=
  r.acc.stdResidue d.meter + d.k * r.pulseVcf d x

/-- The gross amount stage 3 adds (R55, R57). -/
def LoadRecord.grossAdded (r : LoadRecord) (d : Delivery) : Nat := roomFor r.acc.totalGross d.carry

/-- The standard amount stage 4 adds (R56, R57). -/
def LoadRecord.stdAdded (r : LoadRecord) (d : Delivery) (x : Readings) : Nat :=
  roomFor r.acc.totalStd (r.stdSum d x / 10000000)

/-- The delivery is a saturating delivery: one of its two additions was limited (R57). -/
def LoadRecord.saturates (r : LoadRecord) (d : Delivery) (x : Readings) : Bool :=
  decide (r.grossAdded d < d.carry) || decide (r.stdAdded d x < r.stdSum d x / 10000000)

/-- The accounts after stages 3 to 5. -/
def LoadRecord.accountsAfter (r : LoadRecord) (d : Delivery) (x : Readings) : Accounts :=
  let g := r.acc.addGross d.meter (r.grossAdded d)
  let t := g.addStandard d.meter (r.stdAdded d x) (r.stdSum d x % 10000000)
  if d.meter = .ethanol ∧ x.valveOpen = false then t.addClosed (r.grossAdded d) else t

/-- Stage 5 sets ETH_WHILE_CLOSED: the closed-valve volume is 501 mL or more after the addition (R66). -/
def LoadRecord.closedFlag (r : LoadRecord) (d : Delivery) (x : Readings) : Bool :=
  decide (d.meter = .ethanol) && !x.valveOpen && decide (501 ≤ (r.accountsAfter d x).closedValve)

/-- The load record after stages 1 to 6 of a delivery (Table 4-2). -/
def LoadRecord.account (r : LoadRecord) (d : Delivery) (x : Readings) : LoadRecord :=
  let acc := r.accountsAfter d x
  let marked := r.flags.markDelivery d.meter (r.usesHeld d x) d.overspeed
  { r with
    acc := acc
    items := r.items.map (LoadItem.recompute acc.totalGross)
    flags := { marked with ethWhileClosed := marked.ethWhileClosed || r.closedFlag d x } }

/-! ### Tests of a delivery (Table 4-5) -/

/-- The overrun test (R61). -/
def LoadRecord.overruns (r : LoadRecord) (allowance : Nat) : Bool :=
  decide ((r.preset + allowance) * 1000 ≤ r.acc.totalGross)

/-- Stage 8: ethanol owed replaced (R59, R60). -/
def LoadRecord.oweEthanol (r : LoadRecord) (baseVcf : Nat) : LoadRecord :=
  { r with acc := { r.acc with owed := ethanolOwed r.snap r.acc baseVcf } }

/-- The flush-entry test (R63). -/
def LoadRecord.flushDue (r : LoadRecord) : Bool :=
  decide ((r.preset - r.snap.flush) * 1000 ≤ r.acc.totalGross)

/-- The restrict state that the restrict test leaves (R65). -/
def LoadRecord.restrictAfter (r : LoadRecord) : Bool :=
  if r.acc.restrictOn then !decide (r.acc.owed < ((r.snap.restrict / 2 : Nat) : Int))
  else decide ((r.snap.restrict : Int) ≤ r.acc.owed)

/-! ### Completion figures (R69 to R71) -/

/-- The final ratio in basis points (R69). -/
def Accounts.finalRatio (x : Accounts) : Nat :=
  if x.totalStd = 0 then 0 else 10000 * x.ethStd / x.totalStd

/-- The final ratio is off by more than the tolerance (R70). -/
def LoadRecord.offRatio (r : LoadRecord) : Bool :=
  decide (0 < r.acc.totalStd) &&
  decide (r.snap.tolerance < ((r.acc.finalRatio : Int) - (r.snap.ratio : Int)).natAbs)

/-- The completion test makes the item short, with the unit's shot volume taken as 1 mL if it is 0 (R71). -/
def LoadItem.shortAtCompletion (shot totalGross : Nat) (i : LoadItem) : Bool :=
  decide (((max 1 shot : Nat) : Int) ≤ additiveOwed i.rate totalGross i.delivered)

/-- The load record closed at the entry into COMPLETE: final ratio, OFF_RATIO, additive owed and short flags, and the
end time (R69 to R71, R82). `shots` gives each unit's shot volume at this moment. -/
def LoadRecord.close (r : LoadRecord) (shots : Bank 4 Nat) (clock : BitVec 32) : LoadRecord :=
  let short (i : LoadItem) : Bool := i.shortAtCompletion (shots.get i.unit) r.acc.totalGross
  { r with
    phase := .complete
    items := r.items.map fun i => { i.recompute r.acc.totalGross with short := i.short || short i }
    flags := { r.flags with
      offRatio := r.flags.offRatio || r.offRatio
      additiveShort := Bank.tab fun u =>
        r.flags.additiveShort.get u || r.items.any fun i => decide (i.unit = u) && short i }
    finalRatio := some r.acc.finalRatio
    endTime := some clock }

/-- The final fields of a closed load (R105). -/
def LoadRecord.figures (r : LoadRecord) : FinalFigures :=
  { number := r.number, bill := r.bill, entry := r.snap.entry, revision := r.snap.revision, code := r.snap.code,
    preset := r.preset, baseGross := r.acc.baseGross, ethGross := r.acc.ethGross, totalGross := r.acc.totalGross,
    baseStd := r.acc.baseStd, ethStd := r.acc.ethStd, totalStd := r.acc.totalStd,
    finalRatio := r.finalRatio.getD 0,
    items := r.items.map fun i => { unit := i.unit, delivered := i.delivered, shots := i.shots },
    flags := r.flags, haltReason := r.haltReason, authTime := r.authTime, endTime := r.endTime.getD 0 }

end Sys2Proof.Machine
end

