-- ==== Sys2Proof/Machine/HeaderOps.lean ====
section
/-! DEFINITION. The Header Arbiter's operations (spec/06_ethanol_header_arbiter.md): holder list, wait queue, grants,
releases and revocations. The ethanol valve output of an arm is open exactly while the arm is in the holder list
(R117), so opening and closing it is the arm's joining and leaving of that list. -/

namespace Sys2Proof.Machine

/-- The arms that hold a slot, in grant order. -/
def Header.armsHolding (h : Header) : List Arm := h.holders.map Holder.arm

/-- The arm stands HOLDING (R111). -/
def Header.holds (h : Header) (a : Arm) : Bool := decide (a ∈ h.armsHolding)

/-- The arm stands WAITING (R111). -/
def Header.waits (h : Header) (a : Arm) : Bool := decide (a ∈ h.wait)

/-- The hold timer of arm `a`'s slot expires now: its remaining time has reached 0 (R97, R118). -/
def Header.holdDue (h : Header) (a : Arm) : Bool := h.holders.any fun x => decide (x.arm = a) && decide (x.hold = 0)

/-- The ethanol-flow timer of arm `a`'s slot expires now: its remaining time has reached 0 (R97, R120). -/
def Header.flowDue (h : Header) (a : Arm) : Bool := h.holders.any fun x => decide (x.arm = a) && decide (x.flow = 0)

/-- The ethanol valve output of arm `a` is open (R117). -/
def State.valveOpen (s : State) (a : Arm) : Bool := s.header.holds a

/-- A new holder, its two timers started with the settings in force (R116). -/
def Header.newHolder (h : Header) (a : Arm) : Holder :=
  { arm := a, hold := h.hold * Config.ticksPerSecond, flow := h.flowTimeout * Config.ticksPerSecond }

/-- Grants from the head of a wait queue while a slot is free: the holder list and the queue they leave (R115, R116). -/
def grantLoop (h : Header) (holders : List Holder) : List Arm → List Holder × List Arm
  | [] => (holders, [])
  | a :: rest =>
    if holders.length < h.slots then grantLoop h (holders ++ [h.newHolder a]) rest
    else (holders, a :: rest)

/-- The header with every grant made that its free slots allow (R115). -/
def Header.grantAll (h : Header) : Header :=
  let g := grantLoop h h.holders h.wait
  { h with holders := g.1, wait := g.2 }

/-- The gates of R115: the pressure state is NORMAL and the stop latch is clear. -/
def State.gatesOpen (s : State) : Bool :=
  decide (s.scan.pressure = .normal) && s.stop.latch.isNone

/-- The grants of R115. -/
def State.grants (s : State) : State :=
  if s.gatesOpen then { s with header := s.header.grantAll } else s

/-- An ethanol valve output closes: the load's closed-valve volume is set to 0 (R117, R66). -/
def State.valveCloses (s : State) (a : Arm) : State :=
  s.modRecord a fun r => { r with acc := { r.acc with closedValve := 0 } }

/-- The header without arm `a` in its holder list. -/
def Header.release (h : Header) (a : Arm) : Header :=
  { h with holders := h.holders.filter fun x => x.arm ≠ a }

/-- The header without arm `a` in its wait queue. -/
def Header.unwait (h : Header) (a : Arm) : Header :=
  { h with wait := h.wait.filter fun x => x ≠ a }

/-- The header with arm `a` at the tail of its wait queue. -/
def Header.join (h : Header) (a : Arm) : Header := { h with wait := h.wait ++ [a] }

/-- A holder leaves the holder list: its valve closes and its timers, which its entry holds, stop. No grant yet. -/
def State.releaseHolder (s : State) (a : Arm) : State :=
  State.valveCloses { s with header := s.header.release a } a

/-- An arm leaves the header: as its load leaves FLOWING (R114), and at ETHANOL_SATISFIED (R113). A holder is
released and the grants are made, a waiter leaves the queue, and an arm that stands NONE is not touched. -/
def State.leaveHeader (s : State) (a : Arm) : State :=
  if s.header.holds a then (s.releaseHolder a).grants
  else if s.header.waits a then { s with header := s.header.unwait a }
  else s

/-- An ETHANOL_WANTED result: a FLOWING arm that stands NONE joins the tail and the grants are made (R112). -/
def State.ethanolWanted (s : State) (a : Arm) : State :=
  if s.phase a = some .flowing ∧ s.header.holds a = false ∧ s.header.waits a = false then
    State.grants { s with header := s.header.join a }
  else s

/-- The ethanol result of a delivery (R64, R112, R113). -/
def State.ethanolResult (s : State) (a : Arm) : State :=
  match s.record a with
  | none => s
  | some r =>
    if (r.snap.step : Int) ≤ r.acc.owed then s.ethanolWanted a
    else if r.acc.owed ≤ 0 then s.leaveHeader a
    else s

/-- The ethanol-flow timer retriggered by an ethanol delivery of an arm that holds (R120). -/
def State.retriggerFlow (s : State) (a : Arm) : State :=
  { s with header := { s.header with
      holders := s.header.holders.map fun x =>
        if x.arm = a then { x with flow := s.header.flowTimeout * Config.ticksPerSecond } else x } }

/-- Every arm of a list loses its open valve (R117). -/
def State.closeAll (s : State) (l : List Arm) : State := l.foldl State.valveCloses s

/-- The holders from place `n` on are revoked: their valves close and they go to the head of the wait queue in grant
order (R122, R124). -/
def State.revokeFrom (s : State) (n : Nat) : State :=
  let revoked := (s.header.holders.drop n).map Holder.arm
  State.closeAll
    { s with header := { s.header with holders := s.header.holders.take n, wait := revoked ++ s.header.wait } }
    revoked

/-- The pressure state becomes LOW: every holder is revoked (R122). -/
def State.revokeAll (s : State) : State := s.revokeFrom 0

/-- The hold timer of a holder expires (R118, R119): with arms waiting the holder is released, rejoins the tail if its
owed is at least the ethanol step, and the grants are made; otherwise its hold timer starts again. -/
def State.holdExpires (s : State) (a : Arm) : State :=
  if s.header.wait = [] then
    { s with header := { s.header with
        holders := s.header.holders.map fun x =>
          if x.arm = a then { x with hold := s.header.hold * Config.ticksPerSecond } else x } }
  else
    let t := s.releaseHolder a
    let wants := match s.record a with
      | none => false
      | some r => decide ((r.snap.step : Int) ≤ r.acc.owed)
    (if wants then { t with header := t.header.join a } else t).grants

end Sys2Proof.Machine
end

