-- ==== Sys2Proof/Machine/QueueOps.lean ====
section
/-! DEFINITION. The shot queues of the additive units (spec/07_additive_injection_units.md): joining, leaving, and the
taking of the head that begins a stroke. -/

namespace Sys2Proof.Machine

/-- The unit is operational: in READY, ROUTING or STROKING (R132). -/
def UnitState.operational : UnitState → Bool
  | .ready => true
  | .routing => true
  | .stroking => true
  | _ => false

/-- The unit enters STROKING: fire is asserted and the stroke timer started (R138). -/
def AdditiveUnit.stroke (x : AdditiveUnit) : AdditiveUnit :=
  { x with state := .stroking, settleTimer := .stopped, strokeTimer := Timer.startMs x.strokeTimeout }

/-- The unit takes arm `a` from the head, leaving `rest` queued: the arm is in flight; with the route already naming it
the unit strokes, and otherwise the selector is routed and the settle timer started, which with a settle time of
0 expires at once (R136, R137). -/
def AdditiveUnit.begin (x : AdditiveUnit) (a : Arm) (rest : List Arm) : AdditiveUnit :=
  let y := { x with queue := rest, inFlight := some a }
  if x.route = some a then y.stroke
  else
    let z := { y with route := some a }
    if x.settle = 0 then z.stroke
    else { z with state := .routing, settleTimer := Timer.startMs x.settle }

/-- A unit in READY whose shot queue is not empty takes its head; a final-shot mark of the load for the unit is
cleared (R136, R92). -/
def State.takeHead (s : State) (u : UnitNo) : State :=
  let x := s.units.get u
  match x.queue with
  | [] => s
  | a :: rest =>
    if x.state = .ready then
      State.modRecord { s with units := s.units.put u (x.begin a rest) } a
        fun r => r.modItem u fun i => { i with finalShot := false }
    else s

/-- The unit's shot queue with arm `a` at its tail; an arm already queued does not join again (R133). -/
def AdditiveUnit.join (x : AdditiveUnit) (a : Arm) : AdditiveUnit :=
  if a ∈ x.queue then x else { x with queue := x.queue ++ [a] }

/-- Arm `a` joins the tail of unit `u`'s queue, and a READY unit takes its head at the same event (R133, R135). -/
def State.enqueue (s : State) (u : UnitNo) (a : Arm) : State :=
  (s.modUnit u fun x => x.join a).takeHead u

/-- An ADDITIVE_DUE(u) result of arm `a` (R133). -/
def State.additiveDue (s : State) (u : UnitNo) (a : Arm) : State :=
  let x := s.units.get u
  if x.state.operational ∧ (s.phase a = some .flowing ∨ s.phase a = some .flush) ∧ a ∉ x.queue ∧ x.inFlight ≠ some a then
    s.enqueue u a
  else s

/-- The additive-due test of one item: the short flag is clear, the unit has a shot volume, and a whole shot is owed
(R68). -/
def LoadItem.due (shot : Nat) (i : LoadItem) : Bool :=
  !i.short && decide (0 < shot) && decide ((shot : Int) ≤ i.owed)

/-- The additive-due results of a delivery, item by item (R68). -/
def State.additiveResults (s : State) (a : Arm) : State :=
  match s.record a with
  | none => s
  | some r =>
    r.items.foldl (fun t i => if i.due (t.units.get i.unit).shot then t.additiveDue i.unit a else t) s

/-- Arm `a` leaves the shot queues of all four units (R134). -/
def State.leaveQueues (s : State) (a : Arm) : State :=
  { s with units := Bank.tab fun u =>
      { s.units.get u with queue := (s.units.get u).queue.filter fun x => x ≠ a } }

/-- No additive unit has a stroke in flight for arm `a` (R81). -/
def State.noStroke (s : State) (a : Arm) : Bool :=
  (List.finRange 4).all fun u => decide ((s.units.get u).inFlight ≠ some a)

end Sys2Proof.Machine
end

