-- ==== Sys2Proof/Machine/RecordOps.lean ====
section
/-! DEFINITION. The closing of a load and the Record Queue's operations: entry into COMPLETE (R82), hand-off (R160), the
completion condition (R81), the trigger test (R166) and load numbers (R161). -/

namespace Sys2Proof.Machine

/-- RECORDS_WAITING raised on the supervisor line (R166); its data is live. -/
def State.recordsWaiting (s : State) : State := s.raiseSup .recordsWaiting none

/-- The reference count of a recipe entry lowered by a hand-off; a WITHDRAWN entry whose count reaches 0 becomes
EMPTY (R47). -/
def RecipeEntry.dropReference (e : RecipeEntry) : RecipeEntry :=
  { e with
    refCount := e.refCount - 1
    state := if e.state = .withdrawn ∧ e.refCount - 1 = 0 then .empty else e.state }

/-- The delivery record formed from arm `a`'s load record (R156). -/
def State.deliveryRecord (s : State) (a : Arm) (r : LoadRecord) : DeliveryRecord :=
  { arm := a, baseResidue := (s.meter a .base).residue, ethResidue := (s.meter a .ethanol).residue,
    figures := r.figures }

/-- The trigger test (R166). -/
def State.triggerTest (s : State) : State :=
  if s.records.trigger ≤ s.records.records.length then s.recordsWaiting else s

/-- A hand-off: the record joins the tail of the queue, the arm becomes IDLE, the recipe entry's count falls, the age
timer starts if the queue was empty, and the trigger test is made (R160). -/
def State.handOff (s : State) (a : Arm) : State :=
  match s.record a with
  | none => s
  | some r =>
    State.triggerTest
      { s with
        records := { s.records with
          records := s.records.records ++ [s.deliveryRecord a r]
          ageTimer := if s.records.records = [] then Timer.startSeconds s.records.ageTimeout else s.records.ageTimer }
        arms := s.arms.upd a fun c => { c with occ := .idle }
        recipes := s.recipes.upd r.snap.entry RecipeEntry.dropReference }

/-- The completed load's record is offered to the Record Queue (R159): a hand-off while there is room, and the tail of
the completion wait list otherwise. -/
def State.offer (s : State) (a : Arm) : State :=
  if s.records.records.length < Config.queueCapacity then s.handOff a
  else { s with records := { s.records with wait := s.records.wait ++ [a] } }

/-- Every ADDITIVE_SHORT(u) flag that goes from clear to set raises the arm notice ADDITIVE_SHORT(u) (R75, R106). -/
def raiseShorts (old new : ExceptionFlags) (l : List (ArmNotice × Option Nat)) : List (ArmNotice × Option Nat) :=
  (List.finRange 4).foldl
    (fun t u => if new.additiveShort.get u && !old.additiveShort.get u
      then raiseIn ArmNotice.key (.additiveShort u) (some 0) t else t) l

/-- The load enters COMPLETE: its record is closed, the settle timer set stopped, the last summary replaced,
LOAD_COMPLETE raised, and the record offered (R82, R101). -/
def State.enterComplete (s : State) (a : Arm) : State :=
  match s.record a with
  | none => s
  | some r =>
    let closed := r.close (Bank.tab fun u => (s.units.get u).shot) s.clock
    State.offer
      { s with
        arms := s.arms.upd a fun c =>
          { c with occ := .loaded closed, settle := .stopped, lastSummary := some closed.figures }
        armLines := s.armLines.upd a fun x =>
          { x with notices := raiseIn ArmNotice.key .loadComplete (some r.number) (raiseShorts r.flags closed.flags x.notices) } }
      a

/-- The completion condition of R81: the settle timer has expired, no unit has a stroke in flight for the arm, and no item
holds a set final-shot mark. -/
def State.completes (s : State) (a : Arm) : Bool :=
  match s.record a with
  | none => false
  | some r =>
    decide (r.phase = .finishing) && decide ((s.arms.get a).settle = .expired) && s.noStroke a &&
    r.items.all fun i => !i.finalShot

/-- The completion condition examined: the load enters COMPLETE if it holds (R81). -/
def State.examine (s : State) (a : Arm) : State :=
  if s.completes a then s.enterComplete a else s

/-- The load numbers in use: those of every load record an arm holds and of every record in the queue (R161). -/
def State.numbersInUse (s : State) : List Nat :=
  (List.finRange 8).filterMap (fun a => (s.record a).map LoadRecord.number) ++
  s.records.records.map fun d => d.figures.number

/-- The counter's next value, from 65,535 to 1 (R161). -/
def nextLoadNumber (n : Nat) : Nat := if n < 65535 then n + 1 else 1

/-- The first value from `n` on that is not in use, looked for among so many values (R161: 41 are enough). -/
def freeLoadNumber (used : List Nat) : Nat → Nat → Nat
  | 0, n => n
  | fuel + 1, n => if n ∈ used then freeLoadNumber used fuel (nextLoadNumber n) else n

/-- The number the next accepted AUTHORIZE takes (R161). -/
def State.loadNumber (s : State) : Nat := freeLoadNumber s.numbersInUse 41 s.records.nextNumber

end Sys2Proof.Machine
end

