-- ==== Sys2Proof/Machine/LoadOps.lean ====
section
/-! DEFINITION. The load state machine's entries (spec/05_loads.md 5.3): FLOWING, PAUSED, FLUSH, HALTED and FINISHING, the
restrict state, halt events and final shots. -/

namespace Sys2Proof.Machine

/-- The load's restrict state becomes `on`; a change raises RESTRICT_CHANGED on the arm line (R84). -/
def State.setRestrict (s : State) (a : Arm) (on : Bool) : State :=
  match s.record a with
  | none => s
  | some r =>
    if r.acc.restrictOn = on then s
    else (s.modRecord a fun r => { r with acc := { r.acc with restrictOn := on } }).raiseArm a .restrictChanged none

/-- The load state of arm `a` becomes `p`; the pause cause is part of it (R74). -/
def State.setPhase (s : State) (a : Arm) (p : Phase) : State := s.modRecord a fun r => { r with phase := p }

/-- The load enters FLOWING: the pause cause is dropped, the authorization window stopped and the no-flow timer
started (R76). -/
def State.enterFlowing (s : State) (a : Arm) : State :=
  (s.setPhase a .flowing).modArm a fun c =>
    { c with window := .stopped, noFlow := Timer.startSeconds s.settings.noFlow }

/-- The load enters PAUSED: the cause is recorded, the no-flow timer stopped, and the arm leaves the header and every
shot queue (R77). -/
def State.enterPaused (s : State) (a : Arm) (c : PauseCause) : State :=
  (((s.setPhase a (.paused c)).modArm a fun x => { x with noFlow := .stopped }).leaveHeader a).leaveQueues a

/-- The load enters FLUSH: the no-flow timer stops, the restrict state becomes OFF and the arm leaves the header; it
stays in any shot queue (R78). -/
def State.enterFlush (s : State) (a : Arm) : State :=
  ((((s.setPhase a .flush).modArm a fun x => { x with noFlow := .stopped }).setRestrict a false).leaveHeader a)

/-- The load enters HALTED: the reason is recorded, its timers stop, the restrict state becomes OFF, the arm leaves the
header and every shot queue, and HALTED and ARM_HALTED(a) are raised (R79, R106, R107). -/
def State.enterHalted (s : State) (a : Arm) (reason : HaltReason) : State :=
  let t := s.modRecord a fun r => { r with phase := .halted, haltReason := some (r.haltReason.getD reason) }
  let t := t.modArm a fun x => { x with noFlow := .stopped, linkSilence := .stopped, window := .stopped }
  let t := ((t.setRestrict a false).leaveHeader a).leaveQueues a
  (t.raiseArm a .halted (some (haltCode reason))).raiseSup (.armHalted a) (some (haltCode reason))

/-- A halt event taken at the arm's Arm Controller: it halts a load in AUTHORIZED through FLUSH (R95) and changes
nothing in any other state (R96). -/
def State.halt (s : State) (a : Arm) (reason : HaltReason) : State :=
  match s.record a with
  | none => s
  | some r => if r.phase.haltable then s.enterHalted a reason else s

/-- The load enters FINISHING: its timers stop, the settle timer starts, the restrict state becomes OFF, and the arm
leaves the header and every shot queue (R80). -/
def State.enterFinishing (s : State) (a : Arm) : State :=
  let t := s.setPhase a .finishing
  let t := t.modArm a fun x =>
    { x with noFlow := .stopped, linkSilence := .stopped, window := .stopped,
             settle := Timer.startSeconds s.settings.settle }
  ((t.setRestrict a false).leaveHeader a).leaveQueues a

/-- The item is given a final shot by a unit in this condition (R91). -/
def LoadItem.finalDue (x : AdditiveUnit) (a : Arm) (i : LoadItem) : Bool :=
  let owed : Int := if x.inFlight = some a then i.owed - (x.shot : Int) else i.owed
  !i.short && x.state.operational && decide ((((x.shot + 1) / 2 : Nat) : Int) ≤ owed)

/-- The final shot of one item decided: its mark is set and, with no stroke for the arm in flight on the unit, the arm
joins the unit's queue (R91, R135). -/
def State.finalShot (s : State) (a : Arm) (i : LoadItem) : State :=
  let x := s.units.get i.unit
  if i.finalDue x a then
    let t := s.modRecord a fun r => r.modItem i.unit fun j => { j with finalShot := true }
    if x.inFlight = some a then t else t.enqueue i.unit a
  else s

/-- The final shots decided at an END (R91). -/
def State.finalShots (s : State) (a : Arm) : State :=
  match s.record a with
  | none => s
  | some r => r.items.foldl (fun t i => t.finalShot a i) s

/-- Every final-shot mark of arm `a`'s load cleared (R93). -/
def State.clearMarks (s : State) (a : Arm) : State :=
  s.modRecord a fun r => { r with items := r.items.map fun i => { i with finalShot := false } }

end Sys2Proof.Machine
end

