-- ==== Sys2Proof/Machine/UnitOps.lean ====
section
/-! DEFINITION. The ends of strokes and the loss of a unit (spec/07_additive_injection_units.md 7.4 to 7.6): stroke credit,
rejoining, the low mark, and the entry into FAULTED or EMPTY. -/

namespace Sys2Proof.Machine

/-- A unit counter one higher, saturating at 4,294,967,295 (R131). -/
def countUp32 (n : Nat) : Nat := if n < 4294967295 then n + 1 else n

/-- The low mark evaluated: set while the inventory is below the threshold; going from clear to set it raises
UNIT_LOW(u) with the inventory (R146, R154). -/
def State.evalLow (s : State) (u : UnitNo) : State :=
  let x := s.units.get u
  let low := decide (x.inventory < x.low)
  let t := s.modUnit u fun y => { y with lowMark := low }
  if low && !x.lowMark then t.raiseSup (.unitLow u) (some x.inventory) else t

/-- What a unit's loss does to one load record: a set mark for the unit is cleared; a load in AUTHORIZED through FLUSH that
lists the unit is handed the halt ADDITIVE_LOST(u) if its item is REQUIRED, and is made short if it is OPTIONAL
(R148). -/
def LoadRecord.loseUnit (r : LoadRecord) (u : UnitNo) : LoadRecord :=
  let q := r.modItem u fun i => { i with finalShot := false }
  match r.item u with
  | none => q
  | some i =>
    if r.phase.haltable then
      if i.required then { q with lostHalts := if u ∈ q.lostHalts then q.lostHalts else q.lostHalts ++ [u] }
      else { q.modItem u fun j => { j with short := true } with flags := q.flags.setShort u }
    else q

/-- The arm notices a unit's loss raises on one arm's line: ADDITIVE_SHORT(u) where the load's flag was set by it (R75,
R148). -/
def lossNotices (old new : Option LoadRecord) (l : List (ArmNotice × Option Nat)) : List (ArmNotice × Option Nat) :=
  match old, new with
  | some p, some q => raiseShorts p.flags q.flags l
  | _, _ => l

/-- The part of a unit's loss that comes before loads are examined: the unit enters `st` with its queue emptied, every
load record takes its share, and the notice is raised (R148). -/
def State.loseUnit (s : State) (u : UnitNo) (st : UnitState) (k : SupNotice) (data : Nat) : State :=
  State.raiseSup
    { s with
      units := s.units.upd u fun x => { x with state := st, queue := [] }
      arms := Bank.tab fun a => (s.arms.get a).mapRecord fun r => r.loseUnit u
      armLines := Bank.tab fun a =>
        { s.armLines.get a with
          notices := lossNotices (s.record a) ((s.record a).map fun r => r.loseUnit u) (s.armLines.get a).notices } }
    k (some data)

/-- The arms whose load holds a set final-shot mark for the unit, lowest arm first. -/
def State.markedArms (s : State) (u : UnitNo) : List Arm :=
  (List.finRange 8).filter fun a =>
    match s.record a with
    | none => false
    | some r => r.marked u

/-- A unit enters FAULTED or EMPTY: every effect of R148. The clearing of a mark is an event at which its load's completion
condition is examined (R92, R81); several such loads are examined lowest arm first (DESIGN CHOICE, log entry 6). -/
def State.unitLost (s : State) (u : UnitNo) (st : UnitState) (k : SupNotice) (data : Nat) : State :=
  (s.markedArms u).foldl State.examine (s.loseUnit u st k data)

/-- Unit `u` enters EMPTY; the notice carries the inventory at entry (R147, R154). -/
def State.unitEmpties (s : State) (u : UnitNo) : State :=
  s.unitLost u .empty (.unitEmpty u) (s.units.get u).inventory

/-- Unit `u`, returned to service by a request, enters READY with at least one shot volume in its inventory and takes
the head of its queue, or EMPTY otherwise (R150, R152, R136). -/
def State.unitServes (s : State) (u : UnitNo) : State :=
  if (s.units.get u).shot ≤ (s.units.get u).inventory then
    (s.modUnit u fun x => { x with state := .ready }).takeHead u
  else s.unitEmpties u

/-- The arm of the stroke that has just ended rejoins unit `u`'s queue: a load in FLOWING or FLUSH whose item is due, or a load
in FINISHING whose item holds a set mark (R141, R142). -/
def LoadRecord.rejoins (r : LoadRecord) (u : UnitNo) (shot : Nat) : Bool :=
  match r.item u with
  | none => false
  | some i =>
    match r.phase with
    | .flowing => i.due shot
    | .flush => i.due shot
    | .finishing => i.finalShot
    | _ => false

/-- Unit `u` enters READY at the end of a stroke of arm `a`: the arm rejoins if R141 says so, and the unit then takes the head of
its queue (R140, R142, R136). -/
def State.backToReady (s : State) (u : UnitNo) (a : Arm) : State :=
  let t := s.modUnit u fun x => { x with state := .ready }
  let again := match t.record a with
    | none => false
    | some r => r.rejoins u (t.units.get u).shot
  (if again then t.modUnit u fun x => x.join a else t).takeHead u

/-- The stroke credit at the Arm Controller: whatever the load's state, from FLOWING through FINISHING (R141). -/
def LoadRecord.creditShot (r : LoadRecord) (u : UnitNo) (shot : Nat) : LoadRecord :=
  if r.phase.metered then r.modItem u (LoadItem.credit shot r.acc.totalGross) else r

/-- A stroke ends as confirmed for arm `a` (R140). -/
def State.strokeConfirmed (s : State) (u : UnitNo) (a : Arm) : State :=
  let shot := (s.units.get u).shot
  let t := s.modRecord a fun r => r.creditShot u shot
  let t := t.modUnit u fun x =>
    { x with strokeTimer := .stopped, confirmed := countUp32 x.confirmed, inventory := x.inventory - shot,
             failures := 0, inFlight := none }
  let t := t.evalLow u
  let t := if shot ≤ (t.units.get u).inventory then t.backToReady u a else t.unitEmpties u
  t.examine a

/-- A stroke of arm `a` ends as failed (R142). -/
def State.strokeFailed (s : State) (u : UnitNo) (a : Arm) : State :=
  let t := s.modUnit u fun x =>
    { x with strokeTimer := .stopped, failed := countUp32 x.failed, failures := x.failures + 1, inFlight := none }
  let t := if 3 ≤ (t.units.get u).failures then t.unitLost u .faulted (.unitFaulted u) a.val else t.backToReady u a
  t.examine a

/-- A stroke confirmation taken by the unit: in STROKING it ends the stroke, and in every other state it is stray
(R139, R140, R143). DEDUCED (log entry 22): the state is the one in which it is taken (R139), so after an expiry taken first
whose event has led the unit back into STROKING it confirms the new stroke, though R138 calls such a confirmation stray. -/
def State.confirmation (s : State) (u : UnitNo) : State :=
  let x := s.units.get u
  match x.state, x.inFlight with
  | .stroking, some a => s.strokeConfirmed u a
  | _, _ => s.modUnit u fun y => { y with stray := countUp32 y.stray }

/-- An open load's snapshot lists the unit: a load in any state from AUTHORIZED through COMPLETE (R150). -/
def State.unitListed (s : State) (u : UnitNo) : Bool :=
  (List.finRange 8).any fun a =>
    match s.record a with
    | none => false
    | some r => (r.item u).isSome

end Sys2Proof.Machine
end

