-- ==== Sys2Proof/Machine/StopOps.lean ====
section
/-! DEFINITION. The stop latch (spec/09_terminal_stop_and_lane_outputs.md): the stop condition, the setting and the clearing of
the latch, and the stop notices. -/

namespace Sys2Proof.Machine

/-- The input is active: its accepted level is low (R170). -/
def StopInput.active (x : StopInput) : Bool := !x.accepted

/-- The stop condition: an input is both enabled and active (R171). -/
def StopLatch.condition (l : StopLatch) : Bool :=
  (List.finRange 4).any fun i => (l.inputs.get i).enabled && (l.inputs.get i).active

/-- The lowest-numbered enabled and active input (R172). -/
def StopLatch.firstActive (l : StopLatch) : Option StopNo :=
  (List.finRange 4).find? fun i => (l.inputs.get i).enabled && (l.inputs.get i).active

/-- The stop notices of a setting or a clearing: STOP_CHANGED, and TERMINAL_STOP_CHANGED on the line of every arm in
service (R176). Their data is live. -/
def State.stopNotices (s : State) : State :=
  State.raiseSup
    { s with armLines := Bank.tab fun a =>
        if (s.arms.get a).occ.inService then
          { s.armLines.get a with
            notices := raiseIn ArmNotice.key .terminalStopChanged none (s.armLines.get a).notices }
        else s.armLines.get a }
    .stopChanged none

/-- The setting handed to a load: one in AUTHORIZED through FLUSH is handed the halt TERMINAL_STOP, to be taken at its own
event (R174). -/
def LoadRecord.handStop (r : LoadRecord) : LoadRecord :=
  if r.phase.haltable then { r with stopHalt := true } else r

/-- The latch sets, if it is CLEAR: cause and set time are recorded, the setting is handed on and the stop notices are
raised; a latch already SET stays as it is (R172, R174, R176). -/
def State.setLatch (s : State) (c : StopCause) : State :=
  if s.stop.latch.isSome then s
  else
    State.stopNotices
      { s with
        stop := { s.stop with latch := some { cause := c, time := s.clock } }
        arms := Bank.tab fun a => (s.arms.get a).mapRecord LoadRecord.handStop }

/-- The latch clears: cause and set time become absent, the grants of R115 are made if pressure allows, and the stop
notices are raised (R175, R126, R176). -/
def State.clearLatch (s : State) : State :=
  State.stopNotices (State.grants { s with stop := { s.stop with latch := none } })

end Sys2Proof.Machine
end

