-- ==== Sys2Proof/Machine/DeliveryOps.lean ====
section
/-! DEFINITION. A pulse accepted at a meter input, and a pulse delivery taken by an Arm Controller
(spec/01_meter_inputs.md 1.3 to 1.7, spec/04_blend_arithmetic.md Table 4-2). -/

namespace Sys2Proof.Machine

/-! ### The pulse at its input -/

/-- The pulse's interval in ticks, none where the input holds no last-edge time (R4); 0 counts as 1. A last-edge time more than
1,000,000 ticks old would have been dropped by cap expiry (R5) and gives no interval (DEDUCED, log entry 5). -/
def MeterInput.interval (x : MeterInput) (now : BitVec 32) : Option Nat :=
  match x.lastEdge with
  | none => none
  | some e =>
    let d := (now - e).toNat
    if Config.capTicks < d then none else some (max 1 d)

/-- The flow rate a pulse sets, tenths of a litre per minute (R6). -/
def flowRateOf (k : Nat) : Option Nat → Nat
  | none => 0
  | some i => if i < Config.capTicks then 60 * k / i else 0

/-- The pulse has overspeed (R7). -/
def overspeedOf (minInterval : Nat) : Option Nat → Bool
  | none => false
  | some i => decide (i < 10 * minInterval)

/-- The input after a pulse's capture: accepted level high, last interval, last-edge time and flow rate (R1, R4, R6). -/
def MeterInput.capture (x : MeterInput) (now : BitVec 32) : MeterInput :=
  { x with accepted := true, test := none, lastEdge := some now, lastInterval := x.interval now,
           flowRate := flowRateOf x.k (x.interval now) }

/-- The unassigned counter after a pulse of `k` µL (R12). -/
def unassignedAfter (ml ul k : Nat) : Nat × Nat :=
  if k = 0 then (ml, ul)
  else if Config.maxVolume < ml + (ul + k) / 1000 then (Config.maxVolume, 999)
  else (ml + (ul + k) / 1000, (ul + k) % 1000)

/-- A pulse routed to the arm's unassigned counter: making it non-zero from zero raises UNASSIGNED_FLOW(a) (R12, R13). -/
def State.unassigned (s : State) (a : Arm) (k : Nat) : State :=
  let x := s.meters.get a
  let c := unassignedAfter x.unassignedMl x.unassignedUl k
  let t := s.modMeters a fun y => { y with unassignedMl := c.1, unassignedUl := c.2 }
  if (x.unassignedMl = 0 ∧ x.unassignedUl = 0) ∧ (c.1 ≠ 0 ∨ c.2 ≠ 0) then t.raiseSup (.unassignedFlow a) (some 0) else t

/-! ### The delivery at the Arm Controller -/

/-- What arm `a`'s Arm Controller reads for a delivery (R20, R54, R66). -/
def State.readings (s : State) (a : Arm) : Readings :=
  { base := s.scan.temps.get ⟨a.val, Nat.lt_succ_of_lt a.isLt⟩, ethanol := s.scan.temps.get 8,
    ethAlpha := s.header.alpha, valveOpen := s.valveOpen a }

/-- The delivery is the event that begins FLOWING: a base delivery in AUTHORIZED, or in PAUSED with cause NO_FLOW
(R51, R76). -/
def Phase.begins (p : Phase) (m : Meter) : Bool :=
  decide (m = .base) && (decide (p = .authorized) || decide (p = .paused .noFlow))

/-- The effect of a delivery on the load state before its tests: FLOWING begins (R76), a base delivery in FLOWING
retriggers the no-flow timer (R98), and an ethanol delivery of a holder retriggers its ethanol-flow timer (R120). -/
def State.deliveryTimers (s : State) (a : Arm) (p : Phase) (m : Meter) : State :=
  match m with
  | .ethanol => s.retriggerFlow a
  | .base =>
    if p.begins .base then s.enterFlowing a
    else if p = .flowing then s.modArm a fun c => { c with noFlow := Timer.startSeconds s.settings.noFlow }
    else s

/-- The restrict test of stage 10 (R65). -/
def State.restrictTest (s : State) (a : Arm) : State :=
  match s.record a with
  | none => s
  | some r => s.setRestrict a r.restrictAfter

/-- Stages 9 and 10 of a delivery in FLOWING or PAUSED (R62 to R65, R68). -/
def State.blendTests (s : State) (a : Arm) : State :=
  match s.record a with
  | none => s
  | some r =>
    if (r.snap.hard : Int) ≤ r.acc.owed then s.halt a .underBlend
    else if r.acc.owed ≤ -(r.snap.hard : Int) then s.halt a .overBlend
    else if r.flushDue then (s.enterFlush a).additiveResults a
    else ((s.ethanolResult a).restrictTest a).additiveResults a

/-- Stages 8 to 10 of a delivery that passed stage 7, in load state `p` (Table 4-2). -/
def State.laterStages (s : State) (a : Arm) (p : Phase) (baseVcf : Nat) : State :=
  match p with
  | .authorized => s.modRecord a fun r => r.oweEthanol baseVcf
  | .flowing => (s.modRecord a fun r => r.oweEthanol baseVcf).blendTests a
  | .paused _ => (s.modRecord a fun r => r.oweEthanol baseVcf).blendTests a
  | .flush => s.additiveResults a
  | _ => s

/-- Stages 7 to 10 of a delivery, in load state `p` (Table 4-2, R58, R61). -/
def State.judge (s : State) (a : Arm) (p : Phase) (saturating : Bool) (baseVcf : Nat) : State :=
  match s.record a with
  | none => s
  | some r =>
    if p.haltable then
      if saturating then s.halt a .overCapacity
      else if r.overruns s.settings.allowance then s.halt a .presetOverrun
      else s.laterStages a p baseVcf
    else s

/-- A pulse delivery taken whole by arm `a`'s Arm Controller (R51). -/
def State.deliver (s : State) (a : Arm) (d : Delivery) : State :=
  match s.record a with
  | none => s
  | some r =>
    let x := s.readings a
    let t := s.modRecord a fun r => r.account d x
    let t := t.deliveryTimers a r.phase d.meter
    let p := if r.phase.begins d.meter then .flowing else r.phase
    t.judge a p (r.saturates d x) (r.baseVcf x)

/-- A pulse routed to the load: the residue keeps the micro-litres, the carry goes with the delivery (R9, R11). -/
def State.pulseToLoad (s : State) (a : Arm) (m : Meter) (overspeed : Bool) : State :=
  let x := s.meter a m
  State.deliver (s.modMeter a m fun y => { y with residue := (x.residue + x.k) % 1000 }) a
    { meter := m, k := x.k, carry := (x.residue + x.k) / 1000, overspeed := overspeed }

/-- The arm's load receives its pulses (R8). -/
def State.receives (s : State) (a : Arm) : Bool :=
  match s.record a with
  | none => false
  | some r => r.phase.metered

/-- A pulse accepted at input Bn or En of arm `a` (R4 to R8). -/
def State.pulse (s : State) (a : Arm) (m : Meter) : State :=
  let x := s.meter a m
  let fast := overspeedOf x.minInterval (x.interval s.timebase)
  let t := s.modMeter a m fun y => y.capture s.timebase
  if s.receives a then t.pulseToLoad a m fast else t.unassigned a x.k

end Sys2Proof.Machine
end

