-- ==== Sys2Proof/Machine/Telegram.lean ====
section
/-! DEFINITION. Telegrams: the check value (R180), the frame (Table 10-8), the body of each request and the reading of a
received body into the request handed to its owner, or the line's own refusal (R184, Table 10-1, R193, R194). -/

namespace Sys2Proof.Machine

/-! ### The check value (R180) -/

/-- The check value after the `n` low bits of work left on one character: shift, and take the generator
x^16 + x^12 + x^5 + 1 out where a one leaves. -/
def crcShift : Nat → BitVec 16 → BitVec 16
  | 0, c => c
  | n + 1, c => crcShift n (if c.msb then (c <<< 1) ^^^ 0x1021#16 else c <<< 1)

/-- The check value after one more character, its bits taken most significant first. -/
def crcStep (c : BitVec 16) (b : Byte) : BitVec 16 :=
  crcShift 8 (c ^^^ (b.zeroExtend 16 <<< 8))

/-- The check value of a telegram's head, length and body: it starts from 65,535 and is taken as it stands. -/
def checkValue (chars : List Byte) : BitVec 16 := chars.foldl crcStep 0xFFFF#16

/-- A telegram whole: head, length, body and check characters (Table 10-8). -/
def frame (head : Byte) (body : List Byte) : List Byte :=
  (head :: u8 body.length ++ body) ++ u16 (checkValue (head :: u8 body.length ++ body)).toNat

/-- The parts of a complete telegram: head, body and the check value it carries; none where the characters are no
whole telegram. -/
def splitTelegram : List Byte → Option (Byte × List Byte × Nat)
  | h :: l :: rest =>
    match rest.drop l.toNat with
    | [ch, cl] => some (h, rest.take l.toNat, rd16 ch cl)
    | _ => none
  | _ => none

/-- The check value computed over head, length and body agrees with the one carried (R180, R182). -/
def checkAgrees (h : Byte) (body : List Byte) (carried : Nat) : Bool :=
  (checkValue (h :: u8 body.length ++ body)).toNat == carried

/-! ### Bodies of requests (Table 10-1, R193, Tables 10-9 and 10-11) -/

/-- One additive item of DEFINE RECIPE (Table 10-11). -/
def additiveBody (i : AdditiveField) : List Byte := u8 i.unit ++ u16 i.rate ++ u8 i.required

/-- The fields of DEFINE RECIPE after the type (Table 10-11). -/
def recipeBody (f : RecipeFields) : List Byte :=
  u8 f.entry ++ u16 f.code ++ u16 f.ratio ++ u16 f.tolerance ++ u16 f.alpha ++ u16 f.flush ++ u16 f.step ++
  u32 f.restrict ++ u32 f.hard ++ u8 f.permitted ++ u8 f.items.length ++ f.items.flatMap additiveBody

/-- The body of a request telegram: its type and fields; none for a command that is no request. -/
def requestBody : Instr → Option (List Byte)
  | .setClock c => some (u8 1 ++ u32 c)
  | .readStation => some (u8 2)
  | .readLines => some (u8 3)
  | .readNoticeSupervisor => some (u8 4)
  | .restart f => some (u8 5 ++ u8 f)
  | .setMeters arm kb ke fb fe mb me => some (u8 10 ++ u8 arm ++ u32 kb ++ u32 ke ++ u8 fb ++ u8 fe ++ u16 mb ++ u16 me)
  | .readMeters arm => some (u8 11 ++ u8 arm)
  | .readScan => some (u8 15)
  | .defineRecipe f => some (u8 20 ++ recipeBody f)
  | .withdrawRecipe e => some (u8 21 ++ u8 e)
  | .readRecipe e => some (u8 22 ++ u8 e)
  | .setArmService arm sv => some (u8 30 ++ u8 arm ++ u8 sv)
  | .abortLoad arm n => some (u8 31 ++ u8 arm ++ u16 n)
  | .readLoad arm => some (u8 32 ++ u8 arm)
  | .setStation nf ls w st al => some (u8 33 ++ u16 nf ++ u8 ls ++ u16 w ++ u8 st ++ u16 al)
  | .lastSummarySupervisor arm => some (u8 34 ++ u8 arm)
  | .setHeader sl h ft al th => some (u8 40 ++ u8 sl ++ u16 h ++ u8 ft ++ u16 al ++ u16 th)
  | .readHeader => some (u8 41)
  | .setUnit u sh lo tmo st => some (u8 50 ++ u8 u ++ u8 sh ++ u32 lo ++ u16 tmo ++ u16 st)
  | .setUnitService u sv => some (u8 51 ++ u8 u ++ u8 sv)
  | .refillUnit u v => some (u8 52 ++ u8 u ++ u32 v)
  | .clearUnit u => some (u8 53 ++ u8 u)
  | .readUnit u => some (u8 54 ++ u8 u)
  | .readRecord => some (u8 60)
  | .removeRecord n => some (u8 61 ++ u16 n)
  | .setRecordNotice t a => some (u8 62 ++ u8 t ++ u8 a)
  | .setStopInputs e0 e1 e2 e3 => some (u8 70 ++ u8 e0 ++ u8 e1 ++ u8 e2 ++ u8 e3)
  | .terminalStop => some (u8 71)
  | .terminalResume => some (u8 72)
  | .authorize _ code preset bill => some (u8 1 ++ u16 code ++ u32 preset ++ bill)
  | .pause _ => some (u8 2)
  | .resume _ => some (u8 3)
  | .endLoad _ => some (u8 4)
  | .loadStatus _ => some (u8 5)
  | .lastSummaryArm _ => some (u8 6)
  | .readNoticeArm _ => some (u8 7)
  | _ => none

/-- The line a request comes by; none for a command that is no request (Table 10-1). -/
def requestLine (c : Instr) : Option Line :=
  match c with
  | .authorize n _ _ _ => some (.arm n)
  | .pause n => some (.arm n)
  | .resume n => some (.arm n)
  | .endLoad n => some (.arm n)
  | .loadStatus n => some (.arm n)
  | .lastSummaryArm n => some (.arm n)
  | .readNoticeArm n => some (.arm n)
  | c => (requestBody c).map fun _ => .supervisor

/-! ### Reading a received body (R184) -/

/-- What the line makes of a body: a type that is no request of the line, a length that does not fit the type, or
the request to hand to its owner. -/
inductive Parsed where
  | unknown
  | badLength
  | request (c : Instr)
deriving DecidableEq, Repr

/-- A request with no fields. -/
def parse0 (c : Instr) : List Byte → Parsed
  | [] => .request c
  | _ => .badLength

/-- A request with one field of one character. -/
def parse1 (f : Nat → Instr) : List Byte → Parsed
  | [a] => .request (f a.toNat)
  | _ => .badLength

/-- A request with two fields of one character. -/
def parse11 (f : Nat → Nat → Instr) : List Byte → Parsed
  | [a, b] => .request (f a.toNat b.toNat)
  | _ => .badLength

/-- SET METERS' fields (Table 1-3). -/
def parseSetMeters : List Byte → Parsed
  | [a, k0, k1, k2, k3, e0, e1, e2, e3, fb, fe, mb0, mb1, me0, me1] =>
    .request (.setMeters a.toNat (rd32 k0 k1 k2 k3) (rd32 e0 e1 e2 e3) fb.toNat fe.toNat (rd16 mb0 mb1) (rd16 me0 me1))
  | _ => .badLength

/-- The additive items of DEFINE RECIPE, four characters each. -/
def parseItems : List Byte → List AdditiveField
  | u :: r0 :: r1 :: q :: rest => { unit := u.toNat, rate := rd16 r0 r1, required := q.toNat } :: parseItems rest
  | _ => []

/-- DEFINE RECIPE's fields: the body is 24 characters and four for each additive item (Table 10-11). -/
def parseDefine : List Byte → Parsed
  | e :: c0 :: c1 :: r0 :: r1 :: t0 :: t1 :: a0 :: a1 :: f0 :: f1 :: s0 :: s1 ::
      p0 :: p1 :: p2 :: p3 :: h0 :: h1 :: h2 :: h3 :: pm :: n :: rest =>
    if rest.length = 4 * n.toNat then
      .request (.defineRecipe
        { entry := e.toNat, code := rd16 c0 c1, ratio := rd16 r0 r1, tolerance := rd16 t0 t1, alpha := rd16 a0 a1,
          flush := rd16 f0 f1, step := rd16 s0 s1, restrict := rd32 p0 p1 p2 p3, hard := rd32 h0 h1 h2 h3,
          permitted := pm.toNat, items := parseItems rest })
    else .badLength
  | _ => .badLength

/-- ABORT LOAD's fields. -/
def parseAbort : List Byte → Parsed
  | [a, n0, n1] => .request (.abortLoad a.toNat (rd16 n0 n1))
  | _ => .badLength

/-- SET STATION's fields (R102). -/
def parseSetStation : List Byte → Parsed
  | [n0, n1, l, w0, w1, s, a0, a1] => .request (.setStation (rd16 n0 n1) l.toNat (rd16 w0 w1) s.toNat (rd16 a0 a1))
  | _ => .badLength

/-- SET HEADER's fields (R127). -/
def parseSetHeader : List Byte → Parsed
  | [s, h0, h1, f, a0, a1, t0, t1] => .request (.setHeader s.toNat (rd16 h0 h1) f.toNat (rd16 a0 a1) (rd16 t0 t1))
  | _ => .badLength

/-- SET UNIT's fields (R149). -/
def parseSetUnit : List Byte → Parsed
  | [u, s, l0, l1, l2, l3, t0, t1, e0, e1] =>
    .request (.setUnit u.toNat s.toNat (rd32 l0 l1 l2 l3) (rd16 t0 t1) (rd16 e0 e1))
  | _ => .badLength

/-- REFILL UNIT's fields (R151). -/
def parseRefill : List Byte → Parsed
  | [u, v0, v1, v2, v3] => .request (.refillUnit u.toNat (rd32 v0 v1 v2 v3))
  | _ => .badLength

/-- REMOVE RECORD's field (R163). -/
def parseRemove : List Byte → Parsed
  | [n0, n1] => .request (.removeRecord (rd16 n0 n1))
  | _ => .badLength

/-- SET STOP INPUTS' fields (R171). -/
def parseSetStop : List Byte → Parsed
  | [a, b, c, d] => .request (.setStopInputs a.toNat b.toNat c.toNat d.toNat)
  | _ => .badLength

/-- SET CLOCK's field (R190). -/
def parseSetClock : List Byte → Parsed
  | [c0, c1, c2, c3] => .request (.setClock (rd32 c0 c1 c2 c3))
  | _ => .badLength

/-- AUTHORIZE's fields: a body of 8 to 23 characters, the bill identifier from the 8th to its end (Table 10-9). -/
def parseAuthorize (n : Arm) : List Byte → Parsed
  | c0 :: c1 :: p0 :: p1 :: p2 :: p3 :: bill =>
    if 1 ≤ bill.length ∧ bill.length ≤ 16 then .request (.authorize n (rd16 c0 c1) (rd32 p0 p1 p2 p3) bill)
    else .badLength
  | _ => .badLength

/-- A body received on the supervisor line (Table 10-1). -/
def parseSupervisor : List Byte → Parsed
  | [] => .unknown
  | t :: f =>
    match t.toNat with
    | 1 => parseSetClock f
    | 2 => parse0 .readStation f
    | 3 => parse0 .readLines f
    | 4 => parse0 .readNoticeSupervisor f
    | 5 => parse1 .restart f
    | 10 => parseSetMeters f
    | 11 => parse1 .readMeters f
    | 15 => parse0 .readScan f
    | 20 => parseDefine f
    | 21 => parse1 .withdrawRecipe f
    | 22 => parse1 .readRecipe f
    | 30 => parse11 .setArmService f
    | 31 => parseAbort f
    | 32 => parse1 .readLoad f
    | 33 => parseSetStation f
    | 34 => parse1 .lastSummarySupervisor f
    | 40 => parseSetHeader f
    | 41 => parse0 .readHeader f
    | 50 => parseSetUnit f
    | 51 => parse11 .setUnitService f
    | 52 => parseRefill f
    | 53 => parse1 .clearUnit f
    | 54 => parse1 .readUnit f
    | 60 => parse0 .readRecord f
    | 61 => parseRemove f
    | 62 => parse11 .setRecordNotice f
    | 70 => parseSetStop f
    | 71 => parse0 .terminalStop f
    | 72 => parse0 .terminalResume f
    | _ => .unknown

/-- A body received on arm line `n` (Table 10-1). -/
def parseArm (n : Arm) : List Byte → Parsed
  | [] => .unknown
  | t :: f =>
    match t.toNat with
    | 1 => parseAuthorize n f
    | 2 => parse0 (.pause n) f
    | 3 => parse0 (.resume n) f
    | 4 => parse0 (.endLoad n) f
    | 5 => parse0 (.loadStatus n) f
    | 6 => parse0 (.lastSummaryArm n) f
    | 7 => parse0 (.readNoticeArm n) f
    | _ => .unknown

/-- A body received on a line. -/
def parseRequest : Line → List Byte → Parsed
  | .supervisor, b => parseSupervisor b
  | .arm n, b => parseArm n b

/-- The requests that a station executes when they come as broadcast (Table 10-1). -/
def executedOnBroadcast : Instr → Bool
  | .setClock _ => true
  | .setStation _ _ _ _ _ => true
  | .setRecordNotice _ _ => true
  | .terminalStop => true
  | _ => false

end Sys2Proof.Machine
end

