-- ==== Sys2Proof/Machine/Requests.lean ====
section
/-! DEFINITION. How a request is taken by its owner and answered (R184, R185): the pending-request slot of its line holds
it, its owner takes it as one event, and the slot then holds the reply until the reply has been sent. -/

namespace Sys2Proof.Machine

/-- What the owner of a request decides at its event: the state after it, the reply code and the reply fields, and whether
it is an accepted RESTART, whose reset follows the reply (R184, R185, R192). -/
structure Answer where
  state : State
  code : ReplyCode
  fields : List Byte
  restart : Bool := false
deriving DecidableEq, Repr

/-- The owner's event for request `c` can be taken: the slot of its line holds exactly this request, unanswered; or the slot is
empty, and the request is one that has just come on the line (DESIGN CHOICE, log entry 3). A station whose address is 0 gets
no request on the supervisor line (R183). -/
def State.takes (s : State) (l : Line) (c : Instr) : Bool :=
  match (s.line l).slot with
  | none => decide (l ≠ .supervisor) || decide (s.address ≠ 0)
  | some p => p.reply.isNone && decide (p.handed = some c)

/-- The slot after the owner's event: a request that came as broadcast gets no reply and leaves the slot empty, any other
leaves it holding the reply body: type, code and fields (R184, R185). -/
def answeredSlot (old : Option Slot) (c : Instr) (type : Nat) (x : Answer) : Option Slot :=
  match old with
  | some { handed := _, broadcast := true, reply := _, restart := _ } => none
  | _ =>
    some { handed := some c, broadcast := false,
           reply := some (u8 type ++ u8 (replyCodeNumber x.code) ++ x.fields), restart := x.restart }

/-- A request taken by its owner, which decides `x`, and answered on its line; no effect where the request cannot be
taken. `type` is the request's type in Table 10-1. -/
def State.serve (s : State) (l : Line) (c : Instr) (type : Nat) (x : Answer) : State :=
  if s.takes l c then
    x.state.modLine l fun y => { y with slot := answeredSlot (s.line l).slot c type x }
  else s

/-- A request refused, or answered, with nothing changed. -/
def State.reply (s : State) (code : ReplyCode) (fields : List Byte) : Answer :=
  { state := s, code := code, fields := fields }

end Sys2Proof.Machine
end

