-- ==== Sys2Proof/Machine/Outputs.lean ====
section
/-! DEFINITION. The output pins, as functions of the state they follow (R83, R84, R117, R132, R177, R179, R189), and the
telegram a line is sending (R185). Each changes at the event that changes that state, and only then (R177). -/

namespace Sys2Proof.Machine

/-- Flow permissive of arm `a`, asserted (R83). -/
def State.permissive (s : State) (a : Arm) : Bool :=
  match s.record a with
  | none => false
  | some r => r.phase.haltable && s.stop.latch.isNone && !r.stopHalt

/-- Restrict output of arm `a`, asserted (R84). -/
def State.restrictOut (s : State) (a : Arm) : Bool :=
  match s.record a with
  | none => false
  | some r => (decide (r.phase = .flowing) || r.phase.isPaused) && r.acc.restrictOn

/-- Fire output of unit `u`, asserted (R132). -/
def State.fire (s : State) (u : UnitNo) : Bool := decide ((s.units.get u).state = .stroking)

/-- The three route lines of unit `u`: the arm number in binary, low while the route is none (R132). -/
def State.routeLines (s : State) (u : UnitNo) : BitVec 3 :=
  match (s.units.get u).route with
  | none => 0
  | some a => BitVec.ofNat 3 a.val

/-- Route-enable output of unit `u`, asserted while a route is held (R132). -/
def State.routeEnable (s : State) (u : UnitNo) : Bool := (s.units.get u).route.isSome

/-- The level at the pin of a lane output: open-drain, its active level low, so an asserted output is low (R177). -/
def lanePinHigh (asserted : Bool) : Bool := !asserted

/-- SATN conducts: the supervisor set holds a notice, and the station's address is not 0 (R189, R183). -/
def State.satn (s : State) : Bool := !s.supervisor.notices.isEmpty && decide (s.address ≠ 0)

/-- AATNn conducts: the arm line's set holds a notice (R189). -/
def State.aatn (s : State) (n : Arm) : Bool := !(s.armLines.get n).notices.isEmpty

/-- The direction-control output of the supervisor line, asserted while a reply is being sent (R179). -/
def State.directionControl (s : State) : Bool := s.supervisor.transmitting

/-- The head character of a reply: 128 + station address, or 160 + arm (R185, Table 10-8). -/
def State.replyHead (s : State) : Line → Byte
  | .supervisor => BitVec.ofNat 8 (128 + s.address.toNat)
  | .arm n => BitVec.ofNat 8 (160 + n.val)

/-- The reply telegram of a line, whole, while its slot holds a reply (R185). -/
def State.replyTelegram (s : State) (l : Line) : Option (List Byte) :=
  match (s.line l).slot with
  | none => none
  | some p => p.reply.map fun body => frame (s.replyHead l) body

/-- A character on a line as the station sends it (R179): its data, and its marker bit. -/
structure LineCharacter where
  data : Byte
  marker : Bool
deriving DecidableEq, Repr

/-- The eleven bits of a character in the order in which they are sent: the start bit, low; the data bits, least significant first;
the marker bit; and the stop bit, high (R179). DEDUCED (log entry 21): the start bit's level, from the stop bit's. -/
def LineCharacter.bits (c : LineCharacter) : List Bool :=
  false :: ((List.finRange 8).map fun i => c.data.getLsbD i.val) ++ [c.marker, true]

/-- A telegram's characters: the marker bit is set in the head and clear in every other (R179). -/
def lineCharacters : List Byte → List LineCharacter
  | [] => []
  | head :: rest => { data := head, marker := true } :: rest.map fun b => { data := b, marker := false }

/-- The characters of the reply on a line, while its slot holds one (R179, R185). -/
def State.replyCharacters (s : State) (l : Line) : Option (List LineCharacter) := (s.replyTelegram l).map lineCharacters

/-- Header standing of an arm (R111): 0 NONE, 1 WAITING, 2 HOLDING (Table 10-10). -/
def State.standingCode (s : State) (a : Arm) : Nat :=
  if s.header.holds a then 2 else if s.header.waits a then 1 else 0

end Sys2Proof.Machine
end

