-- ==== Sys2Proof/Machine/Arbiter.lean ====
section
/-! DEFINITION. The Header Arbiter's commands (spec/06_ethanol_header_arbiter.md): hold-timer and ethanol-flow expiry, SET
HEADER and READ HEADER. -/

namespace Sys2Proof.Machine

/-- HOLD_TIMER_EXPIRY (R118, R119). Only a holder has a hold timer, and it expires when its remaining time has reached 0 (R97); no
effect otherwise. -/
def execHoldTimerExpiry (a : Arm) (s : State) : Host.Outcome State Fault Refusal :=
  if s.header.holdDue a then .next (s.holdExpires a) else .next s

/-- ETHANOL_FLOW_TIMER_EXPIRY (R121): the load halts with ETHANOL_NO_FLOW, and with it leaves the header. Only a holder
has the timer, and it expires when its remaining time has reached 0 (R97); no effect otherwise. -/
def execEthanolFlowTimerExpiry (a : Arm) (s : State) : Host.Outcome State Fault Refusal :=
  if s.header.flowDue a then .next (s.halt a .ethanolNoFlow) else .next s

/-- The header with the five settings of SET HEADER, clamped (R127); the collections and their timers are kept (R128). -/
def Header.configure (h : Header) (slots hold flowTimeout alpha threshold : Nat) : Header :=
  { h with slots := clamp 1 8 slots, hold := clamp 5 600 hold, flowTimeout := clamp 1 60 flowTimeout,
           alpha := clamp 0 2000 alpha, threshold := clamp 0 4095 threshold }

/-- The five header settings in a reply (R127, R129). -/
def Header.report (h : Header) : List Byte :=
  u8 h.slots ++ u16 h.hold ++ u8 h.flowTimeout ++ u16 h.alpha ++ u16 h.threshold

/-- The effect of a changed slot count (R128): lowered, it revokes the newest holders beyond it (R124), and raised, it
grants (R125). `old` is the count before. -/
def State.slotsChanged (s : State) (old : Nat) : State :=
  if s.header.slots < old then s.revokeFrom s.header.slots
  else if old < s.header.slots then s.grants
  else s

/-- SET HEADER decided by the Header Arbiter (R127, R128). -/
def State.setHeader (s : State) (slots hold flowTimeout alpha threshold : Nat) : Answer :=
  let h := s.header.configure slots hold flowTimeout alpha threshold
  let changed := decide (h.slots ≠ slots) || decide (h.hold ≠ hold) || decide (h.flowTimeout ≠ flowTimeout) ||
    decide (h.alpha ≠ alpha) || decide (h.threshold ≠ threshold)
  { state := State.slotsChanged { s with header := h } s.header.slots, code := adjustedIf changed, fields := h.report }

/-- SET HEADER (R127, R128). -/
def execSetHeader (slots hold flowTimeout alpha threshold : Nat) (s : State) : Host.Outcome State Fault Refusal :=
  .next (s.serve .supervisor (.setHeader slots hold flowTimeout alpha threshold) 40
    (s.setHeader slots hold flowTimeout alpha threshold))

/-- One holder in READ HEADER's reply: arm, remaining hold time and remaining ethanol-flow time (R129). -/
def Holder.report (x : Holder) : List Byte := u8 x.arm.val ++ u16 (secondsUp x.hold) ++ u8 (secondsUp x.flow)

/-- READ HEADER's reply fields (R129). DEDUCED (log entry 9): the latch, 'set or clear' in R129, is sent CLEAR 0, SET 1. -/
def State.headerReport (s : State) : List Byte :=
  s.header.report ++ u8 (pressureCode s.scan.pressure) ++ u8 (latchCode s.stop.latch) ++
  listField Holder.report s.header.holders ++ armList s.header.wait ++
  (List.finRange 8).flatMap fun a => u8 (openClosedCode (s.valveOpen a))

/-- READ HEADER (R129). -/
def execReadHeader (s : State) : Host.Outcome State Fault Refusal :=
  .next (s.serve .supervisor .readHeader 41 (s.reply .accepted s.headerReport))

end Sys2Proof.Machine
end

