-- ==== Sys2Proof/Machine/Injection.lean ====
section
/-! DEFINITION. The Additive Units' commands (spec/07_additive_injection_units.md): the ends of routing and of strokes, the
stroke-confirm input, and the unit requests. -/

namespace Sys2Proof.Machine

/-- UNIT_SETTLE_EXPIRY (R137): a unit in ROUTING whose settle timer's remaining time has reached 0 enters STROKING. No effect
otherwise. -/
def execUnitSettleExpiry (u : UnitNo) (s : State) : Host.Outcome State Fault Refusal :=
  let x := s.units.get u
  if x.state = .routing ∧ x.settleTimer.due = true then .next (s.modUnit u AdditiveUnit.stroke) else .next s

/-- The level a stroke-confirm input presents changes, starting or abandoning its 200 µs filter test (R139, R1). DESIGN
CHOICE (log entry 24): also at the instant at which the 200 µs have run out. -/
def AdditiveUnit.present (x : AdditiveUnit) (high : Bool) : AdditiveUnit :=
  if high = x.accepted then { x with presented := high, test := none }
  else { x with presented := high, test := some (x.test.getD Config.confirmFilterTicks) }

/-- STROKE_CONFIRM_LEVEL_CHANGE (R139). -/
def execStrokeConfirmLevelChange (u : UnitNo) (high : Bool) (s : State) : Host.Outcome State Fault Refusal :=
  .next (s.modUnit u fun x => x.present high)

/-- STROKE_CONFIRMATION (R139, R140, R143): a filter test on a rising level succeeds, its 200 µs run out, and the
confirmation is taken. No effect without such a test. -/
def execStrokeConfirmation (u : UnitNo) (s : State) : Host.Outcome State Fault Refusal :=
  let x := s.units.get u
  if x.test = some 0 ∧ x.presented = true ∧ x.accepted = false then
    .next ((s.modUnit u fun y => { y with accepted := true, test := none }).confirmation u)
  else .next s

/-- CONFIRM_ACCEPTED_FALLING_EDGE (R139): a filter test on a falling level succeeds, its 200 µs run out, and the
accepted level becomes low. No effect without such a test. -/
def execConfirmAcceptedFallingEdge (u : UnitNo) (s : State) : Host.Outcome State Fault Refusal :=
  let x := s.units.get u
  if x.test = some 0 ∧ x.presented = false ∧ x.accepted = true then
    .next (s.modUnit u fun y => { y with accepted := false, test := none })
  else .next s

/-- STROKE_TIMEOUT (R142): the stroke of a unit in STROKING whose stroke timer's remaining time has reached 0 fails. Where a
confirmation has been taken first, the timer is stopped, or started again for a later stroke, and the expiry does not occur
(R138). -/
def execStrokeTimeout (u : UnitNo) (s : State) : Host.Outcome State Fault Refusal :=
  let x := s.units.get u
  match x.state, x.inFlight with
  | .stroking, some a => if x.strokeTimer.due then .next (s.strokeFailed u a) else .next s
  | _, _ => .next s

/-! ### Requests -/

/-- The unit with SET UNIT's settings, the last three clamped (R149). -/
def AdditiveUnit.configure (x : AdditiveUnit) (shot low strokeTimeout settle : Nat) : AdditiveUnit :=
  { x with shot := shot, low := clamp 0 Config.maxInventory low, strokeTimeout := clamp 100 5000 strokeTimeout,
           settle := clamp 0 2000 settle }

/-- The four settings of a unit in a reply (R149, R153). -/
def AdditiveUnit.settingsReport (x : AdditiveUnit) : List Byte :=
  u8 x.shot ++ u32 x.low ++ u16 x.strokeTimeout ++ u16 x.settle

/-- SET UNIT decided by the unit (R149). -/
def State.setUnit (s : State) (unit shot low strokeTimeout settle : Nat) : Answer :=
  if h : unit < 4 then
    let u : UnitNo := ⟨unit, h⟩
    if (s.units.get u).state ≠ .offline then s.reply .inUse []
    else if shot < 1 ∨ 200 < shot then s.reply .refusedRange []
    else
      let x := (s.units.get u).configure shot low strokeTimeout settle
      let changed := decide (x.low ≠ low) || decide (x.strokeTimeout ≠ strokeTimeout) || decide (x.settle ≠ settle)
      { state := State.evalLow (s.modUnit u fun y => y.configure shot low strokeTimeout settle) u,
        code := adjustedIf changed, fields := x.settingsReport }
  else s.reply .refusedRange []

/-- SET UNIT (R149). -/
def execSetUnit (unit shot low strokeTimeout settle : Nat) (s : State) : Host.Outcome State Fault Refusal :=
  .next (s.serve .supervisor (.setUnit unit shot low strokeTimeout settle) 50
    (s.setUnit unit shot low strokeTimeout settle))

/-- A unit request's reply with the unit number and the unit's state after it (R150, R152). -/
def State.unitReply (s : State) (u : UnitNo) (code : ReplyCode) : Answer :=
  { state := s, code := code, fields := u8 u.val ++ u8 (unitStateCode (s.units.get u).state) }

/-- The unit taken OFFLINE: the route becomes none (R150). -/
def AdditiveUnit.goOffline (x : AdditiveUnit) : AdditiveUnit := { x with state := .offline, route := none }

/-- SET UNIT SERVICE decided by the unit (Table 7-3). `service` is ON (0) or OFF (1). -/
def State.setUnitService (s : State) (unit service : Nat) : Answer :=
  if h : unit < 4 then
    let u : UnitNo := ⟨unit, h⟩
    let x := s.units.get u
    if 1 < service then s.reply .refusedRange []
    else if service = 0 then
      if x.state = .offline then
        if x.shot = 0 then s.unitReply u .notConfigured
        else State.unitReply (State.unitServes (s.modUnit u fun y => { y with failures := 0 }) u) u .accepted
      else s.unitReply u .accepted
    else
      match x.state with
      | .offline => s.unitReply u .accepted
      | .routing => s.unitReply u .inUse
      | .stroking => s.unitReply u .inUse
      | .ready | .faulted | .empty =>
        if s.unitListed u then s.unitReply u .inUse
        else State.unitReply (s.modUnit u AdditiveUnit.goOffline) u .accepted
  else s.reply .refusedRange []

/-- SET UNIT SERVICE (R150). -/
def execSetUnitService (unit service : Nat) (s : State) : Host.Outcome State Fault Refusal :=
  .next (s.serve .supervisor (.setUnitService unit service) 51 (s.setUnitService unit service))

/-- A unit's inventory after a refill: it is held at 100,000,000 mL (R151). -/
def refilled (inventory volume : Nat) : Nat := min Config.maxInventory (inventory + volume)

/-- The state a refill leaves: the inventory, the low mark evaluated, and an EMPTY unit with a whole shot again READY, which
then takes the head of its queue (R151, R136). -/
def State.refill (s : State) (u : UnitNo) (volume : Nat) : State :=
  let t := State.evalLow (s.modUnit u fun x => { x with inventory := refilled x.inventory volume }) u
  let x := t.units.get u
  if x.state = .empty ∧ x.shot ≤ x.inventory then (t.modUnit u fun y => { y with state := .ready }).takeHead u else t

/-- REFILL UNIT decided by the unit (R151). -/
def State.refillUnit (s : State) (unit volume : Nat) : Answer :=
  if h : unit < 4 then
    let u : UnitNo := ⟨unit, h⟩
    if volume < 1 ∨ Config.maxInventory < volume then s.reply .refusedRange []
    else
      let t := s.refill u volume
      { state := t, code := adjustedIf (decide (Config.maxInventory < (s.units.get u).inventory + volume)),
        fields := u8 unit ++ u32 (t.units.get u).inventory ++ u8 (unitStateCode (t.units.get u).state) }
  else s.reply .refusedRange []

/-- REFILL UNIT (R151). -/
def execRefillUnit (unit volume : Nat) (s : State) : Host.Outcome State Fault Refusal :=
  .next (s.serve .supervisor (.refillUnit unit volume) 52 (s.refillUnit unit volume))

/-- CLEAR UNIT decided by the unit (R152). -/
def State.clearUnit (s : State) (unit : Nat) : Answer :=
  if h : unit < 4 then
    let u : UnitNo := ⟨unit, h⟩
    if (s.units.get u).state = .faulted then
      State.unitReply (State.unitServes (s.modUnit u fun y => { y with failures := 0 }) u) u .accepted
    else s.unitReply u .refusedState
  else s.reply .refusedRange []

/-- CLEAR UNIT (R152). -/
def execClearUnit (unit : Nat) (s : State) : Host.Outcome State Fault Refusal :=
  .next (s.serve .supervisor (.clearUnit unit) 53 (s.clearUnit unit))

/-- READ UNIT's reply fields (R153). -/
def AdditiveUnit.report (x : AdditiveUnit) : List Byte :=
  u8 (unitStateCode x.state) ++ x.settingsReport ++ u32 x.inventory ++ u8 (setClearCode x.lowMark) ++ u8 x.failures ++
  opt8 (x.route.map Fin.val) ++ opt8 (x.inFlight.map Fin.val) ++ armList x.queue ++
  u32 x.confirmed ++ u32 x.failed ++ u32 x.stray

/-- READ UNIT decided by the unit (R153). -/
def State.readUnit (s : State) (unit : Nat) : Answer :=
  if h : unit < 4 then s.reply .accepted (s.units.get ⟨unit, h⟩).report else s.reply .refusedRange []

/-- READ UNIT (R153). -/
def execReadUnit (unit : Nat) (s : State) : Host.Outcome State Fault Refusal :=
  .next (s.serve .supervisor (.readUnit unit) 54 (s.readUnit unit))

end Sys2Proof.Machine
end

