-- ==== Sys2Proof/Machine/Lines.lean ====
section
/-! DEFINITION. The Line Interfaces' commands (spec/10_lines_telegrams_and_notices.md): characters and gaps, complete
telegrams, the start and the end of a reply, reset, READ LINES, READ NOTICE and RESTART. -/

namespace Sys2Proof.Machine

/-! ### Reception (R180, R181, R183) -/

/-- A line with the partial telegram dropped. -/
def LineState.dropPartial (y : LineState) : LineState := { y with assembly := none }

/-- The head-abort counter one higher where a partial telegram is cut off by a head (R181, R183). -/
def LineState.abortPartial (y : LineState) : LineState :=
  if y.assembly.isSome then
    { y with counters := { y.counters with headAbort := countUp y.counters.headAbort } }
  else y

/-- A head that the line takes: assembling begins with it; with a framing error it is poisoned from its first
character (R181). -/
def LineState.takeHead (y : LineState) (data : Byte) (stopHigh : Bool) : LineState :=
  { y.abortPartial with assembly := some { chars := [data], poisoned := !stopHigh, gap := 0 } }

/-- The telegram is complete: 4 + L characters for a length of L (R180). -/
def completeChars : List Byte → Bool
  | h :: l :: rest => decide ((h :: l :: rest).length = 4 + l.toNat)
  | _ => false

/-- A character that is no head, added to the telegram being assembled; one that completes it hands the telegram on and
leaves the buffer waiting (R180, R181). -/
def LineState.extend (y : LineState) (b : Assembly) (data : Byte) (stopHigh : Bool) : LineState :=
  let chars := b.chars ++ [data]
  let poisoned := b.poisoned || !stopHigh
  if completeChars chars then
    { y with assembly := none, received := y.received ++ [{ chars := chars, poisoned := poisoned }] }
  else { y with assembly := some { chars := chars, poisoned := poisoned, gap := 0 } }

/-- The poisoned counter one higher (R181). -/
def LineState.countPoisoned (y : LineState) : LineState :=
  { y with counters := { y.counters with poisoned := countUp y.counters.poisoned } }

/-- A character that is no head, taken by the buffer: a length character outside 1 to 255 discards the telegram
(R181). -/
def LineState.takeOther (y : LineState) (data : Byte) (stopHigh : Bool) : LineState :=
  match y.assembly with
  | none => y
  | some b =>
    if b.chars.length = 1 ∧ data = 0 then y.dropPartial.countPoisoned else y.extend b data stopHigh

/-- A character taken by the assembly buffer (R181). `mine` says of a head whether the line takes heads of its value: an
arm line takes every head, the supervisor line only the station address and 0 (R183). -/
def LineState.receive (y : LineState) (data : Byte) (marker stopHigh mine : Bool) : LineState :=
  if marker then
    if mine then y.takeHead data stopHigh else y.abortPartial.dropPartial
  else y.takeOther data stopHigh

/-- A character received while the station sends a reply on the supervisor line: discarded, and the first of each reply raises
the collision counter (R183; DEDUCED, log entry 13: it rises at that first character). -/
def SupLine.collide (x : SupLine) : SupLine :=
  if x.collided then x
  else
    { x with collided := true, line := { x.line with counters :=
        { x.line.counters with collision := countUp x.line.counters.collision } } }

/-- The supervisor line takes a head of this value: the station address or 0 (R183). -/
def State.headForStation (s : State) (data : Byte) : Bool :=
  decide (data.toNat = s.address.toNat) || decide (data = 0)

/-- A character received on the supervisor line (R181, R183). -/
def State.receiveSupervisor (s : State) (data : Byte) (marker stopHigh : Bool) : State :=
  if s.address = 0 then s
  else if s.supervisor.transmitting then { s with supervisor := s.supervisor.collide }
  else s.modLine .supervisor fun y => y.receive data marker stopHigh (s.headForStation data)

/-- CHARACTER_RECEIVED (R181, R183). -/
def execCharacterReceived (l : Line) (data : Byte) (marker stopHigh : Bool) (s : State) :
    Host.Outcome State Fault Refusal :=
  match l with
  | .supervisor => .next (s.receiveSupervisor data marker stopHigh)
  | .arm n => .next (s.modLine (.arm n) fun y => y.receive data marker stopHigh true)

/-- The line is assembling, and 20 ms have passed since its last character (R181). -/
def LineState.gapDue (y : LineState) : Bool := y.assembly.any fun b => decide (Config.gapTicks ≤ b.gap)

/-- CHARACTER_GAP_TIMEOUT (R181). No effect on a line that is not assembling, or whose last character came within the 20 ms. -/
def execCharacterGapTimeout (l : Line) (s : State) : Host.Outcome State Fault Refusal :=
  if (s.line l).gapDue then
    .next (s.modLine l fun y =>
      { y.dropPartial with counters := { y.counters with timeout := countUp y.counters.timeout } })
  else .next s

/-! ### A complete telegram (R180 to R184) -/

/-- The slot a request addressed to the station leaves (R184): answered at once where the line refuses it, and handed to its
owner otherwise. -/
def slotOfRequest (type : Nat) : Parsed → Slot
  | .unknown =>
    { handed := none, broadcast := false, reply := some (u8 type ++ u8 (replyCodeNumber .unknownRequest)), restart := false }
  | .badLength =>
    { handed := none, broadcast := false, reply := some (u8 type ++ u8 (replyCodeNumber .refusedRange)), restart := false }
  | .request c => { handed := some c, broadcast := false, reply := none, restart := false }

/-- The slot a broadcast leaves (R184): one that is unknown, of the wrong length or ignored leaves it empty. -/
def slotOfBroadcast : Parsed → Option Slot
  | .request c =>
    if executedOnBroadcast c then some { handed := some c, broadcast := true, reply := none, restart := false } else none
  | _ => none

/-- The slot that a telegram with head `head` and body `body` leaves on line `l` (R183, R184). -/
def slotOfTelegram (l : Line) (head : Byte) (body : List Byte) : Option Slot :=
  if l = .supervisor ∧ head = 0 then slotOfBroadcast (parseRequest l body)
  else some (slotOfRequest ((body.headD 0).toNat) (parseRequest l body))

/-- The head a telegram of line `l` must have; the supervisor line has taken no other in (R182, R183). -/
def headAgrees (l : Line) (head : Byte) : Bool :=
  match l with
  | .supervisor => true
  | .arm n => decide (head.toNat = 32 + n.val)

/-- A valid telegram retriggers the link-silence timer of its arm (R182, R99). -/
def State.heard (s : State) (l : Line) : State :=
  match l with
  | .supervisor => s
  | .arm n => s.modArm n fun c => { c with linkSilence := c.linkSilence.retrigger s.settings.linkSilence }

/-- The third check of R182, and the entry into the slot (R184). -/
def LineState.enter (y : LineState) (slot : Option Slot) : LineState :=
  if y.slot.isSome then { y with counters := { y.counters with overlap := countUp y.counters.overlap } }
  else { y with slot := slot }

/-- A telegram that is not poisoned, checked (R182). -/
def State.checkTelegram (s : State) (l : Line) (chars : List Byte) : State :=
  match splitTelegram chars with
  | none => s
  | some (head, body, carried) =>
    if !checkAgrees head body carried then
      s.modLine l fun y => { y with counters := { y.counters with crc := countUp y.counters.crc } }
    else if !headAgrees l head then
      s.modLine l fun y => { y with counters := { y.counters with misdirected := countUp y.counters.misdirected } }
    else (s.heard l).modLine l fun y => y.enter (slotOfTelegram l head body)

/-- TELEGRAM_RECEIVED (R181 to R184): the oldest telegram received whole on the line is taken. No effect where there is
none. -/
def execTelegramReceived (l : Line) (s : State) : Host.Outcome State Fault Refusal :=
  match (s.line l).received with
  | [] => .next s
  | t :: rest =>
    let u := s.modLine l fun y => { y with received := rest }
    if t.poisoned then .next (u.modLine l LineState.countPoisoned) else .next (u.checkTelegram l t.chars)

/-! ### Replies (R183, R185, R192) -/

/-- The slot of line `l` holds a reply to send. -/
def State.hasReply (s : State) (l : Line) : Bool :=
  match (s.line l).slot with
  | none => false
  | some p => p.reply.isSome

/-- The station begins to send on the supervisor line: a partial telegram is discarded, and counted as a collision
(R183). -/
def SupLine.begin (x : SupLine) : SupLine :=
  { x with
    transmitting := true, collided := false
    line :=
      if x.line.assembly.isSome then
        { x.line.dropPartial with counters :=
            { x.line.counters with collision := countUp x.line.counters.collision } }
      else x.line }

/-- A reply starts on the supervisor line, if one is held and none is being sent. -/
def State.replyStart (s : State) : State :=
  if s.hasReply .supervisor ∧ s.supervisor.transmitting = false then { s with supervisor := s.supervisor.begin } else s

/-- REPLY_START (R183, R185). No effect without a reply to start. -/
def execReplyStart (s : State) : Host.Outcome State Fault Refusal := .next s.replyStart

/-- The levels the pins present at the end of a station restart: the inputs' as the last commands left them, and the address pins'
as they come from outside (R183; log entries 17 and 19). -/
def State.presentedPins (s : State) : Pins :=
  { base := BitVec.ofFnLE fun a => (s.meter a .base).presented
    ethanol := BitVec.ofFnLE fun a => (s.meter a .ethanol).presented
    confirm := BitVec.ofFnLE fun u => (s.units.get u).presented
    stop := BitVec.ofFnLE fun i => (s.stop.inputs.get i).presented
    address := s.addressInputs.headD s.addressPins }

/-- A reset, which leaves alone only what is outside the part: the commands that wait, and what its address pins will present. -/
def State.resetTo (s : State) (p : Pins) : State :=
  { State.resetWith p with pending := s.pending, addressInputs := s.addressInputs }

/-- A station restart (R192): a reset at whose end the station reads its address pins anew (R183). -/
def State.restarted (s : State) : State :=
  State.resetTo { s with addressInputs := s.addressInputs.tail } s.presentedPins

/-- A reply has been sent: the slot is empty, the transmitter released, and an accepted RESTART resets the station
(R184, R192). -/
def State.replySent (s : State) (l : Line) : State :=
  match (s.line l).slot with
  | none => s
  | some p =>
    if p.restart then s.restarted
    else
      let t := s.modLine l fun y => { y with slot := none }
      match l with
      | .supervisor => { t with supervisor := { t.supervisor with transmitting := false, collided := false } }
      | .arm _ => t

/-- REPLY_SENT (R184, R192). No effect where the line holds no reply. A supervisor reply whose start no REPLY_START told of
starts here (DESIGN CHOICE, log entry 14). -/
def execReplySent (l : Line) (s : State) : Host.Outcome State Fault Refusal :=
  if s.hasReply l then
    match l with
    | .supervisor => .next (s.replyStart.replySent .supervisor)
    | .arm n => .next (s.replySent (.arm n))
  else .next s

/-- POWER_ON_RESET (R17, R33, R49, R108, R130, R155, R169, R178, R195): every block takes its after-reset values, with the
levels the pins present at the end of the reset. -/
def execPowerOnReset (p : Pins) (s : State) : Host.Outcome State Fault Refusal := .next (s.resetTo p)

/-! ### READ LINES (R186) -/

/-- A line's counters in READ LINES' reply, in R186's order. -/
def LineCounters.report (c : LineCounters) : List Byte :=
  u16 c.poisoned ++ u16 c.crc ++ u16 c.timeout ++ u16 c.headAbort ++ u16 c.overlap ++ u16 c.misdirected ++ u16 c.collision

/-- Every counter of every line set to 0 (R186). -/
def State.clearCounters (s : State) : State :=
  { s with
    supervisor := { s.supervisor with line := { s.supervisor.line with counters := LineCounters.zero } }
    armLines := Bank.tab fun n =>
      { s.armLines.get n with line := { (s.armLines.get n).line with counters := LineCounters.zero } } }

/-- READ LINES decided by the Line Interfaces (R186). -/
def State.readLines (s : State) : Answer :=
  { state := s.clearCounters, code := .accepted,
    fields := s.supervisor.line.counters.report ++
      (List.finRange 8).flatMap fun n => (s.armLines.get n).line.counters.report }

/-- READ LINES (R186). -/
def execReadLines (s : State) : Host.Outcome State Fault Refusal :=
  .next (s.serve .supervisor .readLines 3 s.readLines)

/-! ### READ NOTICE (R187, R188) -/

/-- The data of a live supervisor notice, read from the state in force (Table 10-4). -/
def State.liveSup (s : State) : SupNotice → Nat
  | .stopChanged => latchCode s.stop.latch * 256 + (latchCause s.stop.latch).getD 255
  | .referenceChanged => refStateCode s.scan.reference
  | .pressureChanged => pressureCode s.scan.pressure
  | .recordsWaiting => s.records.records.length
  | _ => 0

/-- The data of a live notice of arm line `n`, read from the state in force (Table 10-3); an arm without a load has its
restrict state OFF (R84). -/
def State.liveArm (s : State) (n : Arm) : ArmNotice → Nat
  | .terminalStopChanged => latchCode s.stop.latch
  | .restrictChanged => (s.record n).elim 0 fun r => bitCode r.acc.restrictOn
  | _ => 0

/-- The three fields of a notice in READ NOTICE's reply (R188). -/
def noticeFields (priority : Nat) (index : Option Nat) (data : Nat) : List Byte := u8 priority ++ opt8 index ++ u32 data

/-- READ NOTICE of the supervisor line, decided: the first notice of the set leaves it (R188). -/
def State.readNoticeSupervisor (s : State) : Answer :=
  match s.supervisor.notices with
  | [] => s.reply .noNotice []
  | (k, d) :: rest =>
    { state := { s with supervisor := { s.supervisor with notices := rest } }, code := .accepted,
      fields := noticeFields k.priority k.index (d.getD (s.liveSup k)) }

/-- READ NOTICE on the supervisor line (R188). -/
def execReadNoticeSupervisor (s : State) : Host.Outcome State Fault Refusal :=
  .next (s.serve .supervisor .readNoticeSupervisor 4 s.readNoticeSupervisor)

/-- READ NOTICE of arm line `n`, decided: the first notice of the set leaves it (R188). -/
def State.readNoticeArm (s : State) (n : Arm) : Answer :=
  match (s.armLines.get n).notices with
  | [] => s.reply .noNotice []
  | (k, d) :: rest =>
    { state := { s with armLines := s.armLines.upd n fun x => { x with notices := rest } }, code := .accepted,
      fields := noticeFields k.priority k.index (d.getD (s.liveArm n k)) }

/-- READ NOTICE on an arm line (R188). -/
def execReadNoticeArm (n : Arm) (s : State) : Host.Outcome State Fault Refusal :=
  .next (s.serve (.arm n) (.readNoticeArm n) 7 (s.readNoticeArm n))

/-! ### RESTART (R192) -/

/-- An arm is in a load state, AUTHORIZED through COMPLETE (R192). -/
def State.anyLoad (s : State) : Bool := (List.finRange 8).any fun a => (s.record a).isSome

/-- RESTART decided (R192): an accepted one resets the station once its reply has been sent. -/
def State.restartAnswer (s : State) (force : Nat) : Answer :=
  if 1 < force then s.reply .refusedRange []
  else if force = 0 ∧ s.anyLoad = true then s.reply .inUse []
  else { state := s, code := .accepted, fields := [], restart := true }

/-- RESTART (R192). -/
def execRestart (force : Nat) (s : State) : Host.Outcome State Fault Refusal :=
  .next (s.serve .supervisor (.restart force) 5 (s.restartAnswer force))

end Sys2Proof.Machine
end

