-- ==== Sys2Proof/Machine/Recipes.lean ====
section
/-! DEFINITION. The Recipe Table's commands (spec/03_recipe_table.md): the product-code lookup, DEFINE RECIPE, WITHDRAW RECIPE
and READ RECIPE. -/

namespace Sys2Proof.Machine

/-- The product-code map: the ACTIVE entry that carries the code (R37, R44). -/
def State.lookup (s : State) (code : Nat) : Option EntryNo :=
  (List.finRange 32).find? fun e =>
    decide ((s.recipes.get e).state = .active) && decide ((s.recipes.get e).code = code)

/-- An additive item of DEFINE RECIPE lies in its ranges (Table 3-3). -/
def additiveInRange (i : AdditiveField) : Bool :=
  decide (i.unit ≤ 3) && decide (1 ≤ i.rate) && decide (i.rate ≤ 5000) && decide (i.required ≤ 1)

/-- The recipe fields pass the range checks of R39. -/
def recipeInRange (f : RecipeFields) : Bool :=
  decide (1 ≤ f.code) && decide (f.code ≤ 65535) && decide (f.ratio ≤ 8500) &&
  decide (5 ≤ f.tolerance) && decide (f.tolerance ≤ 500) && decide (f.alpha ≤ 2000) && decide (f.flush ≤ 500) &&
  decide (100 ≤ f.step) && decide (f.step ≤ 20000) && decide (1000 ≤ f.restrict) && decide (f.restrict ≤ 100000) &&
  decide (2000 ≤ f.hard) && decide (f.hard ≤ 200000) && decide (f.items.length ≤ 4) &&
  f.items.all additiveInRange && decide (1 ≤ f.permitted) && decide (f.permitted ≤ 255) &&
  decide (f.items.map AdditiveField.unit).Nodup && decide (f.step < f.restrict) && decide (f.restrict < f.hard)

/-- The revision of the next definition: one higher, wrapping from 255 to 1 (R36). -/
def nextRevision (n : Nat) : Nat := if n < 255 then n + 1 else 1

/-- An item of a definition as the entry keeps it (R34). -/
def additiveItemOf (i : AdditiveField) : AdditiveItem :=
  { unit := Fin.ofNat 4 i.unit, rate := i.rate, required := decide (i.required = 1) }

/-- The entry as an accepted DEFINE RECIPE leaves it (R40). -/
def RecipeEntry.define (e : RecipeEntry) (f : RecipeFields) : RecipeEntry :=
  { state := .active, revision := nextRevision e.revision, refCount := 0, code := f.code, ratio := f.ratio,
    tolerance := f.tolerance, alpha := f.alpha, flush := f.flush, step := f.step, restrict := f.restrict, hard := f.hard,
    items := f.items.map additiveItemOf, permitted := BitVec.ofNat 8 f.permitted }

/-- Another entry that is ACTIVE carries the code (R38 check 4). -/
def State.codeTaken (s : State) (e : EntryNo) (code : Nat) : Bool :=
  (List.finRange 32).any fun j =>
    decide (j ≠ e) && decide ((s.recipes.get j).state = .active) && decide ((s.recipes.get j).code = code)

/-- DEFINE RECIPE decided by the Recipe Table (R38, R40). -/
def State.defineRecipe (s : State) (f : RecipeFields) : Answer :=
  if h : f.entry < 32 then
    let e : EntryNo := ⟨f.entry, h⟩
    if (s.recipes.get e).state ≠ .empty then s.reply .inUse (u8 f.entry)
    else if !recipeInRange f then s.reply .refusedRange (u8 f.entry)
    else if s.codeTaken e f.code then s.reply .duplicateCode (u8 f.entry)
    else
      { state := { s with recipes := s.recipes.upd e fun x => x.define f },
        code := .accepted, fields := u8 f.entry ++ u8 (nextRevision (s.recipes.get e).revision) }
  else s.reply .refusedRange (u8 f.entry)

/-- DEFINE RECIPE (R38 to R40). -/
def execDefineRecipe (f : RecipeFields) (s : State) : Host.Outcome State Fault Refusal :=
  .next (s.serve .supervisor (.defineRecipe f) 20 (s.defineRecipe f))

/-- An ACTIVE entry withdrawn (R42). -/
def RecipeEntry.withdraw (e : RecipeEntry) : RecipeEntry :=
  { e with state := if e.refCount = 0 then .empty else .withdrawn }

/-- WITHDRAW RECIPE decided by the Recipe Table (R42). -/
def State.withdrawRecipe (s : State) (entry : Nat) : Answer :=
  if h : entry < 32 then
    let e : EntryNo := ⟨entry, h⟩
    if (s.recipes.get e).state ≠ .active then s.reply .refusedState []
    else
      let x := (s.recipes.get e).withdraw
      { state := { s with recipes := s.recipes.put e x },
        code := .accepted, fields := u8 entry ++ u8 (entryStateCode x.state) ++ u8 x.refCount }
  else s.reply .refusedRange []

/-- WITHDRAW RECIPE (R42, R43). -/
def execWithdrawRecipe (entry : Nat) (s : State) : Host.Outcome State Fault Refusal :=
  .next (s.serve .supervisor (.withdrawRecipe entry) 21 (s.withdrawRecipe entry))

/-- One additive item of a recipe in a reply: unit, rate, required flag. DEDUCED (log entry 9): 1 REQUIRED, 0 OPTIONAL, as Table
10-11 has it for DEFINE RECIPE. -/
def AdditiveItem.report (i : AdditiveItem) : List Byte := u8 i.unit.val ++ u16 i.rate ++ u8 (bitCode i.required)

/-- READ RECIPE's reply fields after the entry number (R48). DEDUCED (log entry 9): in the order of Table 3-1. -/
def RecipeEntry.report (e : RecipeEntry) : List Byte :=
  u8 (entryStateCode e.state) ++ u8 e.revision ++ u8 e.refCount ++ u16 e.code ++ u16 e.ratio ++ u16 e.tolerance ++
  u16 e.alpha ++ u16 e.flush ++ u16 e.step ++ u32 e.restrict ++ u32 e.hard ++ listField AdditiveItem.report e.items ++
  u8 e.permitted.toNat

/-- READ RECIPE decided by the Recipe Table (R48). -/
def State.readRecipe (s : State) (entry : Nat) : Answer :=
  if h : entry < 32 then s.reply .accepted (u8 entry ++ (s.recipes.get ⟨entry, h⟩).report)
  else s.reply .refusedRange []

/-- READ RECIPE (R48). -/
def execReadRecipe (entry : Nat) (s : State) : Host.Outcome State Fault Refusal :=
  .next (s.serve .supervisor (.readRecipe entry) 22 (s.readRecipe entry))

end Sys2Proof.Machine
end

