-- ==== Sys2Proof/Machine/Loads.lean ====
section
/-! DEFINITION. The Arm Controllers' commands (spec/05_loads.md): arm service, AUTHORIZE, PAUSE, RESUME, END, ABORT LOAD, the
arm timers' expiries, the halts handed to a load, SET STATION and the load reports. -/

namespace Sys2Proof.Machine

/-! ### Arm service (R73) -/

/-- SET ARM SERVICE decided by the Arm Controller (Table 5-2). `service` is IN (0) or OUT (1). -/
def State.setArmService (s : State) (arm service : Nat) : Answer :=
  if h : arm < 8 then
    let a : Arm := ⟨arm, h⟩
    let here (t : State) (code : ReplyCode) : Answer :=
      { state := t, code := code, fields := u8 arm ++ u8 (occupancyCode (t.arms.get a).occ) }
    if 1 < service then s.reply .refusedRange []
    else if service = 0 then
      match (s.arms.get a).occ with
      | .outOfService =>
        if (s.meter a .base).k ≠ 0 ∧ (s.meter a .ethanol).k ≠ 0 then
          here (s.modArm a fun c => { c with occ := .idle }) .accepted
        else here s .notConfigured
      | .idle => here s .accepted
      | .loaded _ => here s .accepted
    else
      match (s.arms.get a).occ with
      | .outOfService => here s .accepted
      | .idle => here (s.modArm a fun c => { c with occ := .outOfService }) .accepted
      | .loaded _ => here s .inUse
  else s.reply .refusedRange []

/-- SET ARM SERVICE (R73). -/
def execSetArmService (arm service : Nat) (s : State) : Host.Outcome State Fault Refusal :=
  .next (s.serve .supervisor (.setArmService arm service) 30 (s.setArmService arm service))

/-! ### AUTHORIZE (R85, R86) -/

/-- A REQUIRED item of the entry names a unit that is OFFLINE, FAULTED or EMPTY (R85 check 8). -/
def State.requiredUnavailable (s : State) (e : RecipeEntry) : Bool :=
  e.items.any fun i => i.required && !(s.units.get i.unit).state.operational

/-- The preset and the bill identifier pass check 7 of R85. -/
def presetValid (e : RecipeEntry) (preset : Nat) (bill : List Byte) : Bool :=
  decide (1 ≤ preset) && decide (preset ≤ 99000) && decide (2 * e.flush ≤ preset) &&
  bill.all fun c => decide (32 ≤ c.toNat) && decide (c.toNat ≤ 126)

/-- The snapshot of an entry (R45). -/
def RecipeEntry.snapshot (e : RecipeEntry) (n : EntryNo) : Snapshot :=
  { entry := n, revision := e.revision, code := e.code, ratio := e.ratio, tolerance := e.tolerance, alpha := e.alpha,
    flush := e.flush, step := e.step, restrict := e.restrict, hard := e.hard }

/-- The blend accounts at AUTHORIZE (Table 4-1). -/
def Accounts.zero : Accounts :=
  { baseGross := 0, ethGross := 0, totalGross := 0, baseStd := 0, baseStdRes := 0, ethStd := 0, ethStdRes := 0,
    totalStd := 0, owed := 0, restrictOn := false, closedValve := 0 }

/-- A snapshot item with its accounts at AUTHORIZE (Table 4-1). -/
def AdditiveItem.open (i : AdditiveItem) : LoadItem :=
  { unit := i.unit, rate := i.rate, required := i.required, delivered := 0, shots := 0, owed := 0, short := false,
    finalShot := false }

/-- The load record an accepted AUTHORIZE creates (R86). -/
def State.newRecord (s : State) (n : EntryNo) (preset : Nat) (bill : List Byte) : LoadRecord :=
  let e := s.recipes.get n
  { number := s.loadNumber, bill := bill, preset := preset, authTime := s.clock, snap := e.snapshot n,
    phase := .authorized, haltReason := none, acc := Accounts.zero, items := e.items.map AdditiveItem.open,
    flags := ExceptionFlags.clear, finalRatio := none, endTime := none, stopHalt := false, lostHalts := [] }

/-- The state an accepted AUTHORIZE on entry `n` leaves (R86): the load number taken and the counter advanced, the load
record created, the entry's reference count raised, both gross residues at 0, and the two timers started. -/
def State.authorized (s : State) (a : Arm) (n : EntryNo) (preset : Nat) (bill : List Byte) : State :=
  { s with
    records := { s.records with nextNumber := nextLoadNumber s.loadNumber }
    recipes := s.recipes.upd n fun e => { e with refCount := e.refCount + 1 }
    meters := s.meters.upd a fun x =>
      { x with base := { x.base with residue := 0 }, ethanol := { x.ethanol with residue := 0 } }
    arms := s.arms.upd a fun c =>
      { c with occ := .loaded (s.newRecord n preset bill), window := Timer.startSeconds s.settings.window,
               linkSilence := Timer.startSeconds s.settings.linkSilence } }

/-- AUTHORIZE decided by the Arm Controller: the eight checks of R85 in order, and the acceptance of R86. -/
def State.authorize (s : State) (a : Arm) (code preset : Nat) (bill : List Byte) : Answer :=
  if s.stop.latch.isSome then s.reply .terminalStopped []
  else
    match (s.arms.get a).occ with
    | .outOfService => s.reply .notConfigured []
    | .loaded r => if r.phase = .complete then s.reply .recordPending [] else s.reply .refusedState []
    | .idle =>
      match s.lookup code with
      | none => s.reply .noRecipe []
      | some n =>
        let e := s.recipes.get n
        if e.permitted.getLsbD a.val = false then s.reply .notPermitted []
        else if !presetValid e preset bill then s.reply .refusedRange []
        else if s.requiredUnavailable e then s.reply .additiveUnavailable []
        else
          { state := s.authorized a n preset bill, code := .accepted,
            fields := u16 s.loadNumber ++ u8 n.val ++ u8 e.revision }

/-- AUTHORIZE (R85 to R87). -/
def execAuthorize (a : Arm) (code preset : Nat) (bill : List Byte) (s : State) : Host.Outcome State Fault Refusal :=
  .next (s.serve (.arm a) (.authorize a code preset bill) 1 (s.authorize a code preset bill))

/-! ### PAUSE, RESUME, END (R88 to R90) -/

/-- PAUSE's reply fields: arm state and pause cause after the request (R88). DEDUCED (log entry 9): the cause has the codes that
Table 10-10 gives it in LOAD STATUS, 0 where there is none. -/
def State.pauseReply (s : State) (a : Arm) (code : ReplyCode) : Answer :=
  { state := s, code := code,
    fields := u8 (occupancyCode (s.arms.get a).occ) ++ u8 ((s.phase a).elim 0 pauseCode) }

/-- PAUSE decided from the arm state (R88). -/
def State.pause (s : State) (a : Arm) : Answer :=
  match s.phase a with
  | none => s.pauseReply a .noLoad
  | some .flowing => (s.enterPaused a .driver).pauseReply a .accepted
  | some (.paused .noFlow) => (s.setPhase a (.paused .driver)).pauseReply a .accepted
  | some (.paused .driver) => s.pauseReply a .accepted
  | some _ => s.pauseReply a .refusedState

/-- PAUSE (R88). -/
def execPause (a : Arm) (s : State) : Host.Outcome State Fault Refusal :=
  .next (s.serve (.arm a) (.pause a) 2 (s.pause a))

/-- RESUME's reply field: the arm state after the request (R89). -/
def State.resumeReply (s : State) (a : Arm) (code : ReplyCode) : Answer :=
  { state := s, code := code, fields := u8 (occupancyCode (s.arms.get a).occ) }

/-- RESUME decided from the arm state (R89). -/
def State.resume (s : State) (a : Arm) : Answer :=
  match s.phase a with
  | none => s.resumeReply a .noLoad
  | some (.paused _) => (s.enterFlowing a).resumeReply a .accepted
  | some .flowing => s.resumeReply a .accepted
  | some _ => s.resumeReply a .refusedState

/-- RESUME (R89). -/
def execResume (a : Arm) (s : State) : Host.Outcome State Fault Refusal :=
  .next (s.serve (.arm a) (.resume a) 3 (s.resume a))

/-- END's reply fields: the load number, absent without a load, and the arm state after the request (R90). -/
def State.endReply (s : State) (a : Arm) (code : ReplyCode) : Answer :=
  { state := s, code := code,
    fields := opt16 ((s.record a).map LoadRecord.number) ++ u8 (occupancyCode (s.arms.get a).occ) }

/-- END decided from the arm state (R90): final shots are decided from FLOWING, PAUSED and FLUSH (R91). -/
def State.endLoad (s : State) (a : Arm) : Answer :=
  match s.phase a with
  | none => s.endReply a .noLoad
  | some .authorized => (s.enterFinishing a).endReply a .accepted
  | some .halted => (s.enterFinishing a).endReply a .accepted
  | some .flowing => ((s.enterFinishing a).finalShots a).endReply a .accepted
  | some (.paused _) => ((s.enterFinishing a).finalShots a).endReply a .accepted
  | some .flush => ((s.enterFinishing a).finalShots a).endReply a .accepted
  | some .finishing => s.endReply a .refusedState
  | some .complete => s.endReply a .refusedState

/-- END (R90, R91). -/
def execEndLoad (a : Arm) (s : State) : Host.Outcome State Fault Refusal :=
  .next (s.serve (.arm a) (.endLoad a) 4 (s.endLoad a))

/-! ### ABORT LOAD (R93) -/

/-- The state an accepted ABORT LOAD leaves: ABORTED is set; the load enters FINISHING with no final shot, or, in FINISHING, its
marks are cleared, the arm leaves every shot queue, and a cleared mark has the completion condition examined. -/
def State.aborted (s : State) (a : Arm) (r : LoadRecord) : State :=
  let t := s.modRecord a fun r => { r with flags := { r.flags with aborted := true } }
  if r.phase = .finishing then
    let c := (t.clearMarks a).leaveQueues a
    if r.items.any LoadItem.finalShot then c.examine a else c
  else t.enterFinishing a

/-- ABORT LOAD decided by the Arm Controller (R93). -/
def State.abortLoad (s : State) (arm number : Nat) : Answer :=
  if h : arm < 8 then
    let a : Arm := ⟨arm, h⟩
    match s.record a with
    | none => s.reply .refusedState []
    | some r =>
      if r.phase = .complete then s.reply .refusedState []
      else if number ≠ r.number then s.reply .mismatch []
      else
        let t := s.aborted a r
        { state := t, code := .accepted,
          fields := u8 arm ++ u16 number ++ u8 (occupancyCode (t.arms.get a).occ) }
  else s.reply .refusedRange []

/-- ABORT LOAD (R93, R94). -/
def execAbortLoad (arm number : Nat) (s : State) : Host.Outcome State Fault Refusal :=
  .next (s.serve .supervisor (.abortLoad arm number) 31 (s.abortLoad arm number))

/-! ### Timer expiries (R98 to R101)

An expiry occurs when the remaining time of a running timer reaches 0. Where a stop or a retrigger of the same timer has been
taken first, it does not occur (R97). -/

/-- NO_FLOW_EXPIRY (R98): the load enters PAUSED with cause NO_FLOW. -/
def execNoFlowExpiry (a : Arm) (s : State) : Host.Outcome State Fault Refusal :=
  if (s.arms.get a).noFlow.due then
    let t := s.modArm a fun c => { c with noFlow := .stopped }
    if s.phase a = some .flowing then .next (t.enterPaused a .noFlow) else .next t
  else .next s

/-- LINK_SILENCE_EXPIRY (R99): the load halts with LINK_SILENT. -/
def execLinkSilenceExpiry (a : Arm) (s : State) : Host.Outcome State Fault Refusal :=
  if (s.arms.get a).linkSilence.due then
    .next ((s.modArm a fun c => { c with linkSilence := .stopped }).halt a .linkSilent)
  else .next s

/-- AUTHORIZATION_WINDOW_EXPIRY (R100): in AUTHORIZED the load sets EXPIRED and enters FINISHING with no final shot. -/
def execAuthorizationWindowExpiry (a : Arm) (s : State) : Host.Outcome State Fault Refusal :=
  if (s.arms.get a).window.due then
    let t := s.modArm a fun c => { c with window := .stopped }
    if s.phase a = some .authorized then
      .next ((t.modRecord a fun r => { r with flags := { r.flags with expired := true } }).enterFinishing a)
    else .next t
  else .next s

/-- SETTLE_EXPIRY (R101): the timer is expired, and the completion condition is examined. -/
def execSettleExpiry (a : Arm) (s : State) : Host.Outcome State Fault Refusal :=
  if (s.arms.get a).settle.due then
    .next ((s.modArm a fun c => { c with settle := .expired }).examine a)
  else .next s

/-! ### Halts taken at the load's own event -/

/-- TERMINAL_STOP_HALT (R174): the halt that a setting of the latch handed to the load is taken. No effect where none is
to be taken. -/
def execTerminalStopHalt (a : Arm) (s : State) : Host.Outcome State Fault Refusal :=
  match s.record a with
  | none => .next s
  | some r =>
    if r.stopHalt then
      .next ((s.modRecord a fun r => { r with stopHalt := false }).halt a .terminalStop)
    else .next s

/-- ADDITIVE_LOST_HALT (R148): the halt that the loss of unit `u` handed to the load is taken. No effect where none is to
be taken. -/
def execAdditiveLostHalt (a : Arm) (u : UnitNo) (s : State) : Host.Outcome State Fault Refusal :=
  match s.record a with
  | none => .next s
  | some r =>
    if u ∈ r.lostHalts then
      .next ((s.modRecord a fun r => { r with lostHalts := r.lostHalts.filter fun v => v ≠ u }).halt a (.additiveLost u))
    else .next s

/-! ### SET STATION (R102) -/

/-- The station settings as SET STATION takes them, clamped (R102). -/
def stationTaken (noFlow linkSilence window settle allowance : Nat) : StationSettings :=
  { noFlow := clamp 5 600 noFlow, linkSilence := clamp 2 60 linkSilence, window := clamp 30 3600 window,
    settle := clamp 1 30 settle, allowance := clamp 0 1000 allowance }

/-- The five station settings in a reply (R102, R104). -/
def StationSettings.report (x : StationSettings) : List Byte :=
  u16 x.noFlow ++ u8 x.linkSilence ++ u16 x.window ++ u8 x.settle ++ u16 x.allowance

/-- SET STATION decided by the Arm Controllers (R102). -/
def State.setStation (s : State) (noFlow linkSilence window settle allowance : Nat) : Answer :=
  let sent : StationSettings := ⟨noFlow, linkSilence, window, settle, allowance⟩
  let x := stationTaken noFlow linkSilence window settle allowance
  { state := { s with settings := x }, code := adjustedIf (decide (x ≠ sent)), fields := x.report }

/-- SET STATION (R102). -/
def execSetStation (nf ls w st al : Nat) (s : State) : Host.Outcome State Fault Refusal :=
  .next (s.serve .supervisor (.setStation nf ls w st al) 33 (s.setStation nf ls w st al))

/-! ### Reports (R103 to R105) -/

/-- One additive item of LOAD STATUS (Table 10-10). -/
def LoadItem.report (i : LoadItem) : List Byte :=
  u8 i.unit.val ++ u32 i.delivered ++ u16 i.shots ++ i32 i.owed ++ u8 (bitCode i.short) ++ u8 (bitCode i.finalShot)

/-- The fields of Table 10-10 from its position 2 on, for an arm that holds a load. -/
def State.loadReport (s : State) (a : Arm) (r : LoadRecord) : List Byte :=
  u8 (occupancyCode (s.arms.get a).occ) ++ u8 (pauseCode r.phase) ++ u8 (haltCodeOf r.haltReason) ++ u16 r.number ++
  u8 r.snap.entry.val ++ u8 r.snap.revision ++ u16 r.snap.code ++ u32 r.preset ++
  u32 r.acc.baseGross ++ u16 (s.meter a .base).residue ++ u32 r.acc.ethGross ++ u16 (s.meter a .ethanol).residue ++
  u32 r.acc.totalGross ++ u32 r.acc.baseStd ++ u32 r.acc.ethStd ++ u32 r.acc.totalStd ++ i32 r.acc.owed ++
  u8 (bitCode r.acc.restrictOn) ++ u8 (s.standingCode a) ++ u32 (s.meter a .base).flowRate ++
  u32 (s.meter a .ethanol).flowRate ++ u16 r.flags.word ++ u16 (r.finalRatio.getD 0) ++ listField LoadItem.report r.items

/-- LOAD STATUS decided by the Arm Controller (R103). -/
def State.loadStatus (s : State) (a : Arm) : Answer :=
  match s.record a with
  | none => s.reply .noLoad (u8 (occupancyCode (s.arms.get a).occ))
  | some r => s.reply .accepted (s.loadReport a r)

/-- LOAD STATUS (R103). -/
def execLoadStatus (a : Arm) (s : State) : Host.Outcome State Fault Refusal :=
  .next (s.serve (.arm a) (.loadStatus a) 5 (s.loadStatus a))

/-- One snapshot item in a reply: unit, rate, required flag (R45). DEDUCED (log entry 9): 1 REQUIRED, 0 OPTIONAL. -/
def LoadItem.snapshotReport (i : LoadItem) : List Byte := u8 i.unit.val ++ u16 i.rate ++ u8 (bitCode i.required)

/-- The snapshot of R45 in a reply. -/
def LoadRecord.snapshotReport (r : LoadRecord) : List Byte :=
  u8 r.snap.entry.val ++ u8 r.snap.revision ++ u16 r.snap.code ++ u16 r.snap.ratio ++ u16 r.snap.tolerance ++
  u16 r.snap.alpha ++ u16 r.snap.flush ++ u16 r.snap.step ++ u32 r.snap.restrict ++ u32 r.snap.hard ++
  listField LoadItem.snapshotReport r.items

/-- The four arm timers in a reply: each its state and its remaining time, in the width of its setting (R104, R193). -/
def ArmCtl.timersReport (c : ArmCtl) : List Byte :=
  u8 (timerCode c.noFlow) ++ opt16 (timerSeconds c.noFlow) ++
  u8 (timerCode c.linkSilence) ++ opt8 (timerSeconds c.linkSilence) ++
  u8 (timerCode c.window) ++ opt16 (timerSeconds c.window) ++
  u8 (timerCode c.settle) ++ opt8 (timerSeconds c.settle)

/-- READ LOAD decided by the Arm Controller (R104). DEDUCED (log entry 10): outside COMPLETE the end time is sent absent. -/
def State.readLoad (s : State) (arm : Nat) : Answer :=
  if h : arm < 8 then
    let a : Arm := ⟨arm, h⟩
    match s.record a with
    | none => s.reply .noLoad (u8 (occupancyCode (s.arms.get a).occ) ++ s.settings.report)
    | some r =>
      s.reply .accepted
        (s.loadReport a r ++ stringField r.bill ++ u32 r.authTime.toNat ++ r.snapshotReport ++
         u32 r.acc.baseStdRes ++ u32 r.acc.ethStdRes ++ u32 r.acc.closedValve ++
         opt32 (r.endTime.map BitVec.toNat) ++ (s.arms.get a).timersReport ++ s.settings.report)
  else s.reply .refusedRange []

/-- READ LOAD (R104). -/
def execReadLoad (arm : Nat) (s : State) : Host.Outcome State Fault Refusal :=
  .next (s.serve .supervisor (.readLoad arm) 32 (s.readLoad arm))

/-- One additive item of a summary or delivery record (R105, READ RECORD's layout). -/
def SummaryItem.report (i : SummaryItem) : List Byte := u8 i.unit.val ++ u32 i.delivered ++ u16 i.shots

/-- The last summary's fields in a reply (R105). -/
def FinalFigures.report (f : FinalFigures) : List Byte :=
  u16 f.number ++ stringField f.bill ++ u8 f.entry.val ++ u8 f.revision ++ u16 f.code ++ u32 f.preset ++
  u32 f.baseGross ++ u32 f.ethGross ++ u32 f.totalGross ++ u32 f.baseStd ++ u32 f.ethStd ++ u32 f.totalStd ++
  u16 f.finalRatio ++ listField SummaryItem.report f.items ++ u16 f.flags.word ++ u8 (haltCodeOf f.haltReason) ++
  u32 f.authTime.toNat ++ u32 f.endTime.toNat

/-- LAST SUMMARY of one arm (R105). -/
def State.lastSummary (s : State) (a : Arm) : Answer :=
  match (s.arms.get a).lastSummary with
  | none => s.reply .noLoad []
  | some f => s.reply .accepted f.report

/-- LAST SUMMARY on an arm line (R105). -/
def execLastSummaryArm (a : Arm) (s : State) : Host.Outcome State Fault Refusal :=
  .next (s.serve (.arm a) (.lastSummaryArm a) 6 (s.lastSummary a))

/-- LAST SUMMARY on the supervisor line, decided (R105). -/
def State.lastSummaryOf (s : State) (arm : Nat) : Answer :=
  if h : arm < 8 then s.lastSummary ⟨arm, h⟩ else s.reply .refusedRange []

/-- LAST SUMMARY on the supervisor line (R105). -/
def execLastSummarySupervisor (arm : Nat) (s : State) : Host.Outcome State Fault Refusal :=
  .next (s.serve .supervisor (.lastSummarySupervisor arm) 34 (s.lastSummaryOf arm))

end Sys2Proof.Machine
end

