-- ==== Sys2Proof/Machine/Meters.lean ====
section
/-! DEFINITION. The Meter Front End's commands (spec/01_meter_inputs.md): level changes and accepted edges of the meter
inputs, cap and idle expiry, SET METERS and READ METERS. -/

namespace Sys2Proof.Machine

/-- The filter time of a filter code in ticks (Table 1-2). -/
def filterTicks : Nat → Nat
  | 0 => 0
  | 1 => 2
  | 2 => 5
  | _ => 20

/-- The level an input presents changes (R1): back at the accepted level it abandons the filter test; away from it, a test
starts with the filter time in force, unless one is under way. DESIGN CHOICE (log entry 24): a level that returns at the
instant at which the filter time has run out abandons the test, if its change is taken before the command for the edge. -/
def MeterInput.present (x : MeterInput) (high : Bool) : MeterInput :=
  if high = x.accepted then { x with presented := high, test := none }
  else { x with presented := high, test := some (x.test.getD (filterTicks x.filterCode)) }

/-- An accepted edge from high to low: the accepted level becomes low (R1). -/
def MeterInput.fall (x : MeterInput) : MeterInput := { x with accepted := false, test := none }

/-- METER_LEVEL_CHANGE (R1). With filter code 0 a test that starts succeeds at once. -/
def execMeterLevelChange (a : Arm) (m : Meter) (high : Bool) (s : State) : Host.Outcome State Fault Refusal :=
  let x := s.meter a m
  let t := s.modMeter a m fun y => y.present high
  if x.test = none ∧ high ≠ x.accepted ∧ filterTicks x.filterCode = 0 then
    if high then .next (t.pulse a m) else .next (t.modMeter a m MeterInput.fall)
  else .next t

/-- METER_PULSE_ACCEPTANCE (R4 to R8): a filter test on a rising level succeeds, its filter time run out. No effect without
such a test. -/
def execMeterPulseAcceptance (a : Arm) (m : Meter) (s : State) : Host.Outcome State Fault Refusal :=
  let x := s.meter a m
  if x.test = some 0 ∧ x.presented = true ∧ x.accepted = false then .next (s.pulse a m) else .next s

/-- METER_ACCEPTED_FALLING_EDGE (R1): a filter test on a falling level succeeds, its filter time run out. No effect without
such a test. -/
def execMeterAcceptedFallingEdge (a : Arm) (m : Meter) (s : State) : Host.Outcome State Fault Refusal :=
  let x := s.meter a m
  if x.test = some 0 ∧ x.presented = false ∧ x.accepted = true then .next (s.modMeter a m MeterInput.fall) else .next s

/-- So many ticks have passed since the input's last-edge time, with no further pulse accepted (R5, R6). -/
def MeterInput.quietFor (x : MeterInput) (now : BitVec 32) (ticks : Nat) : Bool :=
  match x.lastEdge with
  | none => false
  | some e => decide (ticks ≤ (now - e).toNat)

/-- CAP_EXPIRY (R5). It occurs 1,000,000 ticks after the last-edge time; where a pulse has been taken first the last-edge time
is that pulse's, and the expiry does not occur. -/
def execCapExpiry (a : Arm) (m : Meter) (s : State) : Host.Outcome State Fault Refusal :=
  if (s.meter a m).quietFor s.timebase Config.capTicks then
    .next (s.modMeter a m fun x => { x with lastInterval := some Config.capTicks, lastEdge := none, flowRate := 0 })
  else .next s

/-- IDLE_EXPIRY (R6). It occurs 200,000 ticks after the last-edge time; where a pulse has been taken first it does not occur,
and the flow rate stays that pulse's. -/
def execIdleExpiry (a : Arm) (m : Meter) (s : State) : Host.Outcome State Fault Refusal :=
  if (s.meter a m).quietFor s.timebase Config.idleTicks then .next (s.modMeter a m fun x => { x with flowRate := 0 })
  else .next s

/-- SET METERS' settings in an input (R14, R15). -/
def MeterInput.configure (x : MeterInput) (k filter minInterval : Nat) : MeterInput :=
  { x with k := k, filterCode := filter, minInterval := minInterval }

/-- A K-factor SET METERS takes (Table 1-3). -/
def kFactorValid (k : Nat) : Bool := decide (100 ≤ k) && decide (k ≤ 500000)

/-- SET METERS decided by the Meter Front End (R14). -/
def State.setMeters (s : State) (arm kb ke fb fe mb me : Nat) : Answer :=
  if h : arm < 8 then
    let a : Arm := ⟨arm, h⟩
    if (s.arms.get a).occ ≠ .outOfService then s.reply .inUse []
    else if !(kFactorValid kb && kFactorValid ke) || decide (3 < fb) || decide (3 < fe) then s.reply .refusedRange []
    else
      let nb := clamp 1 1000 mb
      let ne := clamp 1 1000 me
      { state := s.modMeters a fun x =>
          { x with base := x.base.configure kb fb nb, ethanol := x.ethanol.configure ke fe ne },
        code := adjustedIf (decide (nb ≠ mb) || decide (ne ≠ me)),
        fields := u8 arm ++ u32 kb ++ u32 ke ++ u8 fb ++ u8 fe ++ u16 nb ++ u16 ne }
  else s.reply .refusedRange []

/-- SET METERS (R14, R15). -/
def execSetMeters (arm kb ke fb fe mb me : Nat) (s : State) : Host.Outcome State Fault Refusal :=
  .next (s.serve .supervisor (.setMeters arm kb ke fb fe mb me) 10 (s.setMeters arm kb ke fb fe mb me))

/-- READ METERS' reply fields (R16). -/
def ArmMeters.report (x : ArmMeters) (arm : Nat) : List Byte :=
  u8 arm ++ u32 x.base.k ++ u32 x.ethanol.k ++ u8 x.base.filterCode ++ u8 x.ethanol.filterCode ++
  u16 x.base.minInterval ++ u16 x.ethanol.minInterval ++ u32 x.base.flowRate ++ u32 x.ethanol.flowRate ++
  u32 (x.base.lastInterval.getD 0) ++ u32 (x.ethanol.lastInterval.getD 0) ++
  u32 x.unassignedMl ++ u16 x.unassignedUl

/-- READ METERS decided by the Meter Front End: the reply is formed, and the unassigned counter then set to 0 (R16). -/
def State.readMeters (s : State) (arm : Nat) : Answer :=
  if h : arm < 8 then
    { state := s.modMeters ⟨arm, h⟩ fun x => { x with unassignedMl := 0, unassignedUl := 0 },
      code := .accepted, fields := (s.meters.get ⟨arm, h⟩).report arm }
  else s.reply .refusedRange []

/-- READ METERS (R16). -/
def execReadMeters (arm : Nat) (s : State) : Host.Outcome State Fault Refusal :=
  .next (s.serve .supervisor (.readMeters arm) 11 (s.readMeters arm))

end Sys2Proof.Machine
end

