-- ==== Sys2Proof/Machine/Records.lean ====
section
/-! DEFINITION. The Record Queue's commands (spec/08_delivery_records.md): READ RECORD, REMOVE RECORD, the hand-off from the
completion wait list, the age timer, and SET RECORD NOTICE. -/

namespace Sys2Proof.Machine

/-- The bill identifier in READ RECORD's reply: its length, and 16 places of which the unused are 0 (the layout of READ
RECORD, 10.9). -/
def billField (bill : List Byte) : List Byte := u8 bill.length ++ bill ++ List.replicate (16 - bill.length) 0

/-- The record at the head in READ RECORD's reply, from position 4 on (the layout of READ RECORD, 10.9). -/
def DeliveryRecord.report (d : DeliveryRecord) : List Byte :=
  let f := d.figures
  u16 f.number ++ u8 d.arm.val ++ u8 f.entry.val ++ u8 f.revision ++ u16 f.code ++ billField f.bill ++ u32 f.preset ++
  u32 f.baseGross ++ u16 d.baseResidue ++ u32 f.ethGross ++ u16 d.ethResidue ++ u32 f.totalGross ++
  u32 f.baseStd ++ u32 f.ethStd ++ u32 f.totalStd ++ u16 f.finalRatio ++ u16 f.flags.word ++
  u8 (haltCodeOf f.haltReason) ++ u32 f.authTime.toNat ++ u32 f.endTime.toNat ++ listField SummaryItem.report f.items

/-- READ RECORD decided by the Record Queue (R162). -/
def State.readRecord (s : State) : Answer :=
  let counts := u8 s.records.records.length ++ u8 s.records.wait.length
  match s.records.records with
  | [] => s.reply .queueEmpty counts
  | d :: _ => s.reply .accepted (counts ++ d.report)

/-- READ RECORD (R162). -/
def execReadRecord (s : State) : Host.Outcome State Fault Refusal :=
  .next (s.serve .supervisor .readRecord 60 s.readRecord)

/-- The head of the completion wait list leaves it and is handed off (R164); nothing where no arm waits or the queue has
no place. -/
def State.waitHandOff (s : State) : State :=
  match s.records.wait with
  | [] => s
  | a :: rest =>
    if s.records.records.length < Config.queueCapacity then
      State.handOff { s with records := { s.records with wait := rest } } a
    else s

/-- A removal's third step: the age timer stops with the queue empty and starts again otherwise (R163, R167). -/
def RecordQueue.afterRemoval (q : RecordQueue) : RecordQueue :=
  { q with ageTimer := if q.records = [] then .stopped else Timer.startSeconds q.ageTimeout }

/-- The state an accepted REMOVE RECORD leaves (R163); `rest` is the queue without its head. -/
def State.removed (s : State) (rest : List DeliveryRecord) : State :=
  let t := State.waitHandOff { s with records := { s.records with records := rest } }
  { t with records := t.records.afterRemoval }

/-- REMOVE RECORD decided by the Record Queue (R163). -/
def State.removeRecord (s : State) (number : Nat) : Answer :=
  match s.records.records with
  | [] => s.reply .queueEmpty []
  | d :: rest =>
    if number ≠ d.figures.number then s.reply .mismatch []
    else
      let t := s.removed rest
      { state := t, code := .accepted,
        fields := u16 number ++ u8 t.records.records.length ++ opt8 (s.records.wait.head?.map Fin.val) }

/-- REMOVE RECORD (R163, R164). -/
def execRemoveRecord (number : Nat) (s : State) : Host.Outcome State Fault Refusal :=
  .next (s.serve .supervisor (.removeRecord number) 61 (s.removeRecord number))

/-- WAIT_LIST_HAND_OFF (R164): the wait list's head takes a place that is free. The removal that frees the place makes the
hand-off within its own event (R163), so as a command of its own this finds work only where a place stands free while
an arm waits; otherwise it has no effect (DEDUCED, log entry 12). -/
def execWaitListHandOff (s : State) : Host.Outcome State Fault Refusal := .next s.waitHandOff

/-- AGE_TIMER_EXPIRY (R167): RECORDS_WAITING is raised and the timer started again. It occurs when the running timer's remaining
time has reached 0 (R97); where a removal taken first has stopped the timer or started it again, it does not occur. -/
def execAgeTimerExpiry (s : State) : Host.Outcome State Fault Refusal :=
  if s.records.ageTimer.due then
    .next (State.recordsWaiting
      { s with records := { s.records with ageTimer := Timer.startSeconds s.records.ageTimeout } })
  else .next s

/-- The trigger level a request's value is rounded down to (R168). -/
def triggerTaken (n : Nat) : Nat := if n < 4 then 1 else if n < 8 then 4 else if n < 16 then 8 else 16

/-- SET RECORD NOTICE decided by the Record Queue (R168). -/
def State.setRecordNotice (s : State) (trigger age : Nat) : Answer :=
  let t := triggerTaken trigger
  let g := clamp 1 255 age
  { state := { s with records := { s.records with trigger := t, ageTimeout := g } },
    code := adjustedIf (decide (t ≠ trigger) || decide (g ≠ age)), fields := u8 t ++ u8 g }

/-- SET RECORD NOTICE (R168). -/
def execSetRecordNotice (trigger age : Nat) (s : State) : Host.Outcome State Fault Refusal :=
  .next (s.serve .supervisor (.setRecordNotice trigger age) 62 (s.setRecordNotice trigger age))

end Sys2Proof.Machine
end

