-- ==== Sys2Proof/Machine/Scanning.lean ====
section
/-! DEFINITION. The Scan Converter's commands (spec/02_temperature_and_header_pressure_scan.md): the completion of a
conversion, and READ SCAN. -/

namespace Sys2Proof.Machine

/-- The code lies in the valid window of a temperature channel, 40 to 4,056 (R21). -/
def codeValid (code : Nat) : Bool := decide (40 ≤ code) && decide (code ≤ 4056)

/-- The temperature of a code in tenths of a degree (R21 step 2). -/
def temperatureOf (code : Nat) : Int := ((code / 4 : Nat) : Int) - 400

/-- A temperature entry after a valid conversion (R21). -/
def TempEntry.convert (_e : TempEntry) (code : Nat) : TempEntry :=
  let t := temperatureOf code
  if t < -400 then { code := some code, value := -400, status := .clamped }
  else if 600 < t then { code := some code, value := 600, status := .clamped }
  else { code := some code, value := t, status := .good }

/-- A temperature entry after a probe fault (R22). -/
def TempEntry.probeFault (e : TempEntry) (code : Nat) : TempEntry := { e with code := some code, status := .held }

/-- The entry's code before a probe fault makes the fault one to announce: none, or in the window (R23). -/
def TempEntry.announces (e : TempEntry) : Bool :=
  match e.code with
  | none => true
  | some c => codeValid c

/-- A conversion of channel 0 to 8 taken (R21 to R23); discarded while the reference state is FAULT (R27). -/
def State.convertTemperature (s : State) (c : Fin 9) (code : Nat) : State :=
  let e := s.scan.temps.get c
  if s.scan.reference = .fault then s
  else if codeValid code then { s with scan := { s.scan with temps := s.scan.temps.put c (e.convert code) } }
  else
    let t := { s with scan := { s.scan with temps := s.scan.temps.put c (e.probeFault code) } }
    if e.announces then t.raiseSup (.probeFault c) (some 0) else t

/-- The channel 9 runs and the pressure state after a reading (R29). -/
def Scan.comparePressure (x : Scan) (code threshold : Nat) : Scan :=
  if code < threshold then
    let run := min 2 (x.belowRun + 1)
    { x with pressureCode := some code, belowRun := run, clearRun := 0,
             pressure := if run = 2 then .low else x.pressure }
  else
    let run := min 2 (x.clearRun + 1)
    { x with pressureCode := some code, belowRun := 0, clearRun := run,
             pressure := if run = 2 then .normal else x.pressure }

/-- A conversion of channel 9 taken (R29): a change of the pressure state reaches the Header Arbiter, which revokes every
holder at LOW and grants at NORMAL, and raises PRESSURE_CHANGED (R31, R122, R123); discarded while the reference
state is FAULT (R27). -/
def State.convertPressure (s : State) (code : Nat) : State :=
  if s.scan.reference = .fault then s
  else
    let t := { s with scan := s.scan.comparePressure code s.header.threshold }
    if t.scan.pressure = s.scan.pressure then t
    else if t.scan.pressure = .low then t.revokeAll.raiseSup .pressureChanged none
    else t.grants.raiseSup .pressureChanged none

/-- The window of reference channel 10, 11 or 12 (Table 2-3), and the code's place in it (R25). -/
def inWindow (r : Fin 3) (code : Nat) : Bool :=
  match r with
  | 0 => decide (370 ≤ code) && decide (code ≤ 450)
  | 1 => decide (2008 ≤ code) && decide (code ≤ 2088)
  | 2 => decide (3646 ≤ code) && decide (code ≤ 3726)

/-- The change from OK to FAULT: every temperature entry HELD, the runs of channel 9 at 0 (R26). -/
def Scan.enterFault (x : Scan) : Scan :=
  { x with reference := .fault, belowRun := 0, clearRun := 0,
           temps := Bank.tab fun c => { x.temps.get c with status := .held } }

/-- All three references are IN (R28). -/
def Scan.allIn (x : Scan) : Bool := (List.finRange 3).all fun i => decide ((x.refs.get i).inWindow = some true)

/-- A conversion of channel 10, 11 or 12 taken (R25): OUT sets FAULT (R26), and channel 12 ends a fault when all three
references are IN (R28); each change raises REFERENCE_CHANGED. -/
def State.convertReference (s : State) (r : Fin 3) (code : Nat) : State :=
  let x := { s.scan with refs := s.scan.refs.put r { code := some code, inWindow := some (inWindow r code) } }
  if s.scan.reference = .ok then
    if inWindow r code then { s with scan := x }
    else State.raiseSup { s with scan := x.enterFault } .referenceChanged none
  else if r = 2 ∧ x.allIn = true then State.raiseSup { s with scan := { x with reference := .ok } } .referenceChanged none
  else { s with scan := x }

/-- The scan goes on to the conversion of the next channel in order, after 12 to 0 (R18). -/
def State.nextChannel (s : State) : State :=
  { s with scan := { s.scan with position := s.scan.position + 1, remaining := Config.conversionTicks } }

/-- The code of the conversion under way taken into its channel's entry (R18). -/
def State.takeCode (s : State) (code : Nat) : State :=
  let p := s.scan.position.val
  if h : p < 9 then s.convertTemperature ⟨p, h⟩ code
  else if p = 9 then s.convertPressure code
  else if p = 10 then s.convertReference 0 code
  else if p = 11 then s.convertReference 1 code
  else s.convertReference 2 code

/-- SCAN_CONVERSION_COMPLETE (R18): the conversion under way has had its 2 ms, the channel at the scan position takes the code, and
the next conversion begins. No effect before: a reset taken first has abandoned the conversion that would have ended (R33). -/
def execScanConversionComplete (code : BitVec 12) (s : State) : Host.Outcome State Fault Refusal :=
  if s.scan.remaining = 0 then .next (s.takeCode code.toNat).nextChannel else .next s

/-- READ SCAN's reply fields (R32). -/
def State.scanReport (s : State) : List Byte :=
  u8 (refStateCode s.scan.reference) ++ u8 (pressureCode s.scan.pressure) ++ u16 s.header.threshold ++
  (List.finRange 9).flatMap (fun c =>
    let e := s.scan.temps.get c
    opt16 e.code ++ i16 e.value ++ u8 (tempStatusCode e.status)) ++
  opt16 s.scan.pressureCode ++ u8 s.scan.belowRun ++ u8 s.scan.clearRun ++
  (List.finRange 3).flatMap (fun r =>
    let e := s.scan.refs.get r
    opt16 e.code ++ opt8 (windowResult e.inWindow))

/-- READ SCAN (R32). -/
def execReadScan (s : State) : Host.Outcome State Fault Refusal :=
  .next (s.serve .supervisor .readScan 15 (s.reply .accepted s.scanReport))

end Sys2Proof.Machine
end

