-- ==== Sys2Proof/Machine/Stop.lean ====
section
/-! DEFINITION. The Stop Latch's commands (spec/09_terminal_stop_and_lane_outputs.md): level changes and accepted edges of the
stop inputs, SET STOP INPUTS, TERMINAL STOP and TERMINAL RESUME. -/

namespace Sys2Proof.Machine

/-- Stop input `i` changed. -/
def State.modStop (s : State) (i : StopNo) (f : StopInput → StopInput) : State :=
  { s with stop := { s.stop with inputs := s.stop.inputs.upd i f } }

/-- The level a stop input presents changes, starting or abandoning its 5 ms filter test (R170, R1). DESIGN CHOICE (log
entry 24): also at the instant at which the 5 ms have run out. -/
def StopInput.present (x : StopInput) (high : Bool) : StopInput :=
  if high = x.accepted then { x with presented := high, test := none }
  else { x with presented := high, test := some (x.test.getD Config.stopFilterTicks) }

/-- STOP_INPUT_LEVEL_CHANGE (R170). -/
def execStopInputLevelChange (i : StopNo) (high : Bool) (s : State) : Host.Outcome State Fault Refusal :=
  .next (s.modStop i fun x => x.present high)

/-- STOP_INPUT_ACCEPTED_EDGE (R170, R172): the input's filter test succeeds, its 5 ms run out, and its accepted level becomes
the level presented; an enabled input becoming active sets a clear latch. No effect without such a test. -/
def execStopInputAcceptedEdge (i : StopNo) (s : State) : Host.Outcome State Fault Refusal :=
  let x := s.stop.inputs.get i
  if x.test = some 0 ∧ x.presented ≠ x.accepted then
    let t := s.modStop i fun y => { y with accepted := y.presented, test := none }
    if x.presented = false ∧ x.enabled = true then .next (t.setLatch (.input i)) else .next t
  else .next s

/-- The four enables of a SET STOP INPUTS (R171): ENABLED is 0. -/
def enablesTaken (e0 e1 e2 e3 : Nat) (i : StopNo) : Bool :=
  match i with
  | 0 => decide (e0 = 0)
  | 1 => decide (e1 = 0)
  | 2 => decide (e2 = 0)
  | 3 => decide (e3 = 0)

/-- The inputs with their enables taken together (R171). -/
def StopLatch.enable (l : StopLatch) (e : StopNo → Bool) : StopLatch :=
  { l with inputs := Bank.tab fun i => { l.inputs.get i with enabled := e i } }

/-- A request that leaves an input enabled and active sets a clear latch with the lowest such input as cause (R171,
R172). With the latch CLEAR no enabled input was active before the request, so the inputs found are those it enabled. -/
def State.stopByEnable (s : State) : State :=
  match s.stop.firstActive with
  | none => s
  | some i => s.setLatch (.input i)

/-- The accepted levels of the four inputs in a reply. -/
def StopLatch.levels (l : StopLatch) : List Byte :=
  (List.finRange 4).flatMap fun i => u8 (bitCode (l.inputs.get i).accepted)

/-- The enables of the four inputs in a reply. -/
def StopLatch.enables (l : StopLatch) : List Byte :=
  (List.finRange 4).flatMap fun i => u8 (enableCode (l.inputs.get i).enabled)

/-- The accepted level and the enable of each input in a reply (R175, Table 10-6). -/
def StopLatch.inputsReport (l : StopLatch) : List Byte :=
  (List.finRange 4).flatMap fun i =>
    u8 (bitCode (l.inputs.get i).accepted) ++ u8 (enableCode (l.inputs.get i).enabled)

/-- SET STOP INPUTS decided by the Stop Latch (R171). DEDUCED (log entry 23): the latch state and cause in the reply are those
after the request, so they show a setting that the request itself brings. -/
def State.setStopInputs (s : State) (e0 e1 e2 e3 : Nat) : Answer :=
  if 1 < e0 ∨ 1 < e1 ∨ 1 < e2 ∨ 1 < e3 then s.reply .refusedRange []
  else
    let t := State.stopByEnable { s with stop := s.stop.enable (enablesTaken e0 e1 e2 e3) }
    { state := t, code := .accepted,
      fields := t.stop.enables ++ t.stop.levels ++ u8 (latchCode t.stop.latch) ++ opt8 (latchCause t.stop.latch) }

/-- SET STOP INPUTS (R171). -/
def execSetStopInputs (e0 e1 e2 e3 : Nat) (s : State) : Host.Outcome State Fault Refusal :=
  .next (s.serve .supervisor (.setStopInputs e0 e1 e2 e3) 70 (s.setStopInputs e0 e1 e2 e3))

/-- The set time in a reply, absent while CLEAR (R173). -/
def latchTime (l : Option LatchHold) : Option Nat := l.map fun h => h.time.toNat

/-- TERMINAL STOP decided by the Stop Latch (R173). -/
def State.terminalStop (s : State) : Answer :=
  let t := s.setLatch .supervisor
  { state := t, code := .accepted,
    fields := u8 (latchCode t.stop.latch) ++ opt8 (latchCause t.stop.latch) ++ opt32 (latchTime t.stop.latch) }

/-- TERMINAL STOP (R173). -/
def execTerminalStop (s : State) : Host.Outcome State Fault Refusal :=
  .next (s.serve .supervisor .terminalStop 71 s.terminalStop)

/-- TERMINAL RESUME decided by the Stop Latch (R175). -/
def State.terminalResume (s : State) : Answer :=
  let here (t : State) (code : ReplyCode) : Answer :=
    { state := t, code := code,
      fields := u8 (latchCode t.stop.latch) ++ opt8 (latchCause s.stop.latch) ++ t.stop.inputsReport }
  if s.stop.latch.isNone then here s .accepted
  else if s.stop.condition then here s .stopActive
  else here s.clearLatch .accepted

/-- TERMINAL RESUME (R175). -/
def execTerminalResume (s : State) : Host.Outcome State Fault Refusal :=
  .next (s.serve .supervisor .terminalResume 72 s.terminalResume)

end Sys2Proof.Machine
end

