-- ==== Sys2Proof/Machine/Station.lean ====
section
/-! DEFINITION. The Station Clock's commands and READ STATION (spec/10_lines_telegrams_and_notices.md 10.7). -/

namespace Sys2Proof.Machine

/-- STATION_CLOCK_ADVANCE (R190): the count rises by one, wrapping, and the next advance is a second away. No effect before its
time: a SET CLOCK taken first has put the advance a second off. -/
def execStationClockAdvance (s : State) : Host.Outcome State Fault Refusal :=
  if s.clockRemaining = 0 then .next { s with clock := s.clock + 1, clockRemaining := Config.ticksPerSecond }
  else .next s

/-- SET CLOCK decided by the Station Clock (R190). -/
def State.setClock (s : State) (count : Nat) : Answer :=
  { state := { s with clock := BitVec.ofNat 32 count, clockRemaining := Config.ticksPerSecond },
    code := .accepted, fields := u32 count }

/-- SET CLOCK (R190). -/
def execSetClock (count : Nat) (s : State) : Host.Outcome State Fault Refusal :=
  .next (s.serve .supervisor (.setClock count) 1 (s.setClock count))

/-- READ STATION's reply fields (Table 10-6). -/
def State.stationReport (s : State) : List Byte :=
  u8 s.address.toNat ++ u32 s.clock.toNat ++
  u8 (latchCode s.stop.latch) ++ opt8 (latchCause s.stop.latch) ++ u32 ((latchTime s.stop.latch).getD 0) ++
  s.stop.inputsReport ++ u8 (refStateCode s.scan.reference) ++ u8 (pressureCode s.scan.pressure) ++
  armList s.header.armsHolding ++ armList s.header.wait ++
  (List.finRange 4).flatMap (fun u => u8 (unitStateCode (s.units.get u).state) ++ u32 (s.units.get u).inventory) ++
  u8 s.records.records.length ++ armList s.records.wait ++
  (List.finRange 8).flatMap fun a => u8 (occupancyCode (s.arms.get a).occ)

/-- READ STATION (R191). -/
def execReadStation (s : State) : Host.Outcome State Fault Refusal :=
  .next (s.serve .supervisor .readStation 2 (s.reply .accepted s.stationReport))

end Sys2Proof.Machine
end

