-- ==== Sys2Proof/Machine/Dispatch.lean ====
section
/-! DEFINITION. Which meaning each command has: one arm for each constructor of `Instr`. -/

namespace Sys2Proof.Machine

def exec (i : Instr) (s : State) : Host.Outcome State Fault Refusal :=
  match i with
  | .meterLevelChange a m high => Sys2Proof.Machine.execMeterLevelChange a m high s
  | .meterPulseAcceptance a m => Sys2Proof.Machine.execMeterPulseAcceptance a m s
  | .capExpiry a m => Sys2Proof.Machine.execCapExpiry a m s
  | .idleExpiry a m => Sys2Proof.Machine.execIdleExpiry a m s
  | .setMeters arm kBase kEth filterBase filterEth minBase minEth => Sys2Proof.Machine.execSetMeters arm kBase kEth filterBase filterEth minBase minEth s
  | .readMeters arm => Sys2Proof.Machine.execReadMeters arm s
  | .scanConversionComplete code => Sys2Proof.Machine.execScanConversionComplete code s
  | .readScan => Sys2Proof.Machine.execReadScan s
  | .defineRecipe f => Sys2Proof.Machine.execDefineRecipe f s
  | .withdrawRecipe entry => Sys2Proof.Machine.execWithdrawRecipe entry s
  | .readRecipe entry => Sys2Proof.Machine.execReadRecipe entry s
  | .setArmService arm service => Sys2Proof.Machine.execSetArmService arm service s
  | .authorize n code preset bill => Sys2Proof.Machine.execAuthorize n code preset bill s
  | .pause n => Sys2Proof.Machine.execPause n s
  | .resume n => Sys2Proof.Machine.execResume n s
  | .endLoad n => Sys2Proof.Machine.execEndLoad n s
  | .abortLoad arm number => Sys2Proof.Machine.execAbortLoad arm number s
  | .noFlowExpiry n => Sys2Proof.Machine.execNoFlowExpiry n s
  | .linkSilenceExpiry n => Sys2Proof.Machine.execLinkSilenceExpiry n s
  | .authorizationWindowExpiry n => Sys2Proof.Machine.execAuthorizationWindowExpiry n s
  | .settleExpiry n => Sys2Proof.Machine.execSettleExpiry n s
  | .setStation noFlow linkSilence window settle allowance => Sys2Proof.Machine.execSetStation noFlow linkSilence window settle allowance s
  | .loadStatus n => Sys2Proof.Machine.execLoadStatus n s
  | .readLoad arm => Sys2Proof.Machine.execReadLoad arm s
  | .lastSummaryArm n => Sys2Proof.Machine.execLastSummaryArm n s
  | .lastSummarySupervisor arm => Sys2Proof.Machine.execLastSummarySupervisor arm s
  | .holdTimerExpiry n => Sys2Proof.Machine.execHoldTimerExpiry n s
  | .ethanolFlowTimerExpiry n => Sys2Proof.Machine.execEthanolFlowTimerExpiry n s
  | .setHeader slots hold flowTimeout alpha threshold => Sys2Proof.Machine.execSetHeader slots hold flowTimeout alpha threshold s
  | .readHeader => Sys2Proof.Machine.execReadHeader s
  | .unitSettleExpiry u => Sys2Proof.Machine.execUnitSettleExpiry u s
  | .strokeConfirmLevelChange u high => Sys2Proof.Machine.execStrokeConfirmLevelChange u high s
  | .strokeConfirmation u => Sys2Proof.Machine.execStrokeConfirmation u s
  | .strokeTimeout u => Sys2Proof.Machine.execStrokeTimeout u s
  | .additiveLostHalt n u => Sys2Proof.Machine.execAdditiveLostHalt n u s
  | .setUnit unit shot low timeout settle => Sys2Proof.Machine.execSetUnit unit shot low timeout settle s
  | .setUnitService unit service => Sys2Proof.Machine.execSetUnitService unit service s
  | .refillUnit unit volume => Sys2Proof.Machine.execRefillUnit unit volume s
  | .clearUnit unit => Sys2Proof.Machine.execClearUnit unit s
  | .readUnit unit => Sys2Proof.Machine.execReadUnit unit s
  | .readRecord => Sys2Proof.Machine.execReadRecord s
  | .removeRecord number => Sys2Proof.Machine.execRemoveRecord number s
  | .waitListHandOff => Sys2Proof.Machine.execWaitListHandOff s
  | .ageTimerExpiry => Sys2Proof.Machine.execAgeTimerExpiry s
  | .setRecordNotice trigger age => Sys2Proof.Machine.execSetRecordNotice trigger age s
  | .stopInputLevelChange p high => Sys2Proof.Machine.execStopInputLevelChange p high s
  | .stopInputAcceptedEdge p => Sys2Proof.Machine.execStopInputAcceptedEdge p s
  | .terminalStopHalt n => Sys2Proof.Machine.execTerminalStopHalt n s
  | .setStopInputs e0 e1 e2 e3 => Sys2Proof.Machine.execSetStopInputs e0 e1 e2 e3 s
  | .terminalStop => Sys2Proof.Machine.execTerminalStop s
  | .terminalResume => Sys2Proof.Machine.execTerminalResume s
  | .characterReceived l data marker stopHigh => Sys2Proof.Machine.execCharacterReceived l data marker stopHigh s
  | .characterGapTimeout l => Sys2Proof.Machine.execCharacterGapTimeout l s
  | .telegramReceived l => Sys2Proof.Machine.execTelegramReceived l s
  | .replySent l => Sys2Proof.Machine.execReplySent l s
  | .powerOnReset pins => Sys2Proof.Machine.execPowerOnReset pins s
  | .readLines => Sys2Proof.Machine.execReadLines s
  | .readNoticeSupervisor => Sys2Proof.Machine.execReadNoticeSupervisor s
  | .readNoticeArm n => Sys2Proof.Machine.execReadNoticeArm n s
  | .stationClockAdvance => Sys2Proof.Machine.execStationClockAdvance s
  | .setClock count => Sys2Proof.Machine.execSetClock count s
  | .readStation => Sys2Proof.Machine.execReadStation s
  | .restart force => Sys2Proof.Machine.execRestart force s
  | .meterAcceptedFallingEdge a m => Sys2Proof.Machine.execMeterAcceptedFallingEdge a m s
  | .confirmAcceptedFallingEdge u => Sys2Proof.Machine.execConfirmAcceptedFallingEdge u s
  | .replyStart => Sys2Proof.Machine.execReplyStart s

end Sys2Proof.Machine
end

