-- ==== Sys2Proof/Machine/Time.lean ====
section
/-! DEFINITION. One tick of 10 µs (R3): what the station's own clocks do while no command is taken. A tick only counts; what
happens when a count runs out is a command of its own (DESIGN CHOICE, log entry 7). -/

namespace Sys2Proof.Machine

/-- A timer one tick on. -/
def Timer.tick : Timer → Timer
  | .running t => .running (t - 1)
  | t => t

/-- A filter test one tick on. -/
def tickTest (t : Option Nat) : Option Nat := t.map fun n => n - 1

/-- A meter input one tick on. -/
def MeterInput.tick (x : MeterInput) : MeterInput := { x with test := tickTest x.test }

/-- An Arm Controller one tick on. -/
def ArmCtl.tick (c : ArmCtl) : ArmCtl :=
  { c with noFlow := c.noFlow.tick, linkSilence := c.linkSilence.tick, window := c.window.tick, settle := c.settle.tick }

/-- A holder's two timers one tick on. -/
def Holder.tick (x : Holder) : Holder := { x with hold := x.hold - 1, flow := x.flow - 1 }

/-- An additive unit one tick on. -/
def AdditiveUnit.tick (x : AdditiveUnit) : AdditiveUnit :=
  { x with settleTimer := x.settleTimer.tick, strokeTimer := x.strokeTimer.tick, test := tickTest x.test }

/-- A stop input one tick on. -/
def StopInput.tick (x : StopInput) : StopInput := { x with test := tickTest x.test }

/-- A line one tick on: the time since the last character grows while a telegram is being assembled (R180). -/
def LineState.tick (y : LineState) : LineState :=
  { y with assembly := y.assembly.map fun b => { b with gap := b.gap + 1 } }

/-- The station one tick on: the timebase rises by one, wrapping (R3), and every time that runs is one tick shorter. -/
def State.tick (s : State) : State :=
  { s with
    timebase := s.timebase + 1
    meters := Bank.tab fun a =>
      { s.meters.get a with base := (s.meters.get a).base.tick, ethanol := (s.meters.get a).ethanol.tick }
    scan := { s.scan with remaining := s.scan.remaining - 1 }
    arms := Bank.tab fun a => (s.arms.get a).tick
    header := { s.header with holders := s.header.holders.map Holder.tick }
    units := Bank.tab fun u => (s.units.get u).tick
    records := { s.records with ageTimer := s.records.ageTimer.tick }
    stop := { s.stop with inputs := Bank.tab fun i => (s.stop.inputs.get i).tick }
    supervisor := { s.supervisor with line := s.supervisor.line.tick }
    armLines := Bank.tab fun n => { s.armLines.get n with line := (s.armLines.get n).line.tick }
    clockRemaining := s.clockRemaining - 1 }

end Sys2Proof.Machine
end

