-- ==== Sys2Proof/Safety.lean ====
section
/-! DEFINITION. What the statements speak of: a request that waits for its owner, a request answered, what a pause, a halt, an
entry into FINISHING, a taken head, a unit's loss, a completion and a hand-off leave, and the laws of the station that every
step keeps. -/

namespace Sys2Proof.Machine

/-! ### Requests and answers (R184, R185) -/

/-- Line `l` holds request `c`, handed to its owner and not yet answered (R184). -/
def State.awaits (s : State) (l : Line) (c : Instr) : Prop :=
  (s.line l).slot = some { handed := some c, broadcast := false, reply := none, restart := false }

/-- The supervisor line holds the broadcast request `c`, handed to its owner (R184). -/
def State.awaitsBroadcast (s : State) (c : Instr) : Prop :=
  s.supervisor.line.slot = some { handed := some c, broadcast := true, reply := none, restart := false }

/-- The state with request `c` of line `l` answered: the slot holds the reply, whose body is the request's type, the
reply code and the reply fields, and nothing else is changed (R185). -/
def State.answered (s : State) (l : Line) (c : Instr) (type : Nat) (code : ReplyCode) (fields : List Byte) : State :=
  s.modLine l fun y =>
    { y with slot := some { handed := some c, broadcast := false,
                            reply := some (u8 type ++ u8 (replyCodeNumber code) ++ fields), restart := false } }

/-- The state with the slot of line `l` emptied: what a broadcast leaves (R184). -/
def State.emptied (s : State) (l : Line) : State := s.modLine l fun y => { y with slot := none }

/-! ### Shot queues and strokes (R133 to R141) -/

/-- The unit `x` in READY with the head of its shot queue taken, if an arm is queued: the arm is in flight; with the route
naming it, or with a settle time of 0, the unit strokes, and otherwise it routes (R136 to R138). -/
def AdditiveUnit.headTaken (x : AdditiveUnit) : AdditiveUnit :=
  match x.queue with
  | [] => { x with state := .ready }
  | a :: rest =>
    if x.route = some a ∨ x.settle = 0 then
      { x with queue := rest, inFlight := some a, route := some a, state := .stroking, settleTimer := .stopped,
               strokeTimer := .running (x.strokeTimeout * 100) }
    else
      { x with queue := rest, inFlight := some a, route := some a, state := .routing,
               settleTimer := .running (x.settle * 100) }

/-- The load record with its final-shot mark for unit `u` clear: what the unit's taking of the arm leaves (R92, R136). -/
def LoadRecord.markTaken (r : LoadRecord) (u : UnitNo) : LoadRecord :=
  { r with items := r.items.map fun i => if i.unit = u then { i with finalShot := false } else i }

/-- At the end of a stroke of unit `u` the load's arm rejoins its queue: in FLOWING or FLUSH with an item, not short, that
owes a whole shot of `shot` mL, and in FINISHING with a set final-shot mark (R68, R141, R142). -/
def LoadRecord.wantsShot (r : LoadRecord) (u : UnitNo) (shot : Nat) : Bool :=
  r.items.any fun i => decide (i.unit = u) &&
    ((decide (r.phase = .flowing) || decide (r.phase = .flush)) &&
        !i.short && decide (1 ≤ shot) && decide ((shot : Int) ≤ i.owed) ||
      decide (r.phase = .finishing) && i.finalShot)

/-- The load record after a stroke of unit `u` confirmed for it: the shot of `shot` mL is credited, one more confirmed shot is
counted, and owed is worked out again; a load in COMPLETE is not credited (R67, R141). -/
def LoadRecord.credited (r : LoadRecord) (u : UnitNo) (shot : Nat) : LoadRecord :=
  if r.phase = .complete then r
  else
    { r with items := r.items.map fun i =>
      if i.unit = u then
        { i with
          delivered := min 99999999 (i.delivered + shot), shots := min 65535 (i.shots + 1)
          owed := ((i.rate * r.acc.totalGross / 1000000 : Nat) : Int) -
            ((min 99999999 (i.delivered + shot) : Nat) : Int) }
      else i }

/-- Arm `a` out of every shot queue (R134). -/
def State.queuesLeft (s : State) (a : Arm) : Bank 4 AdditiveUnit :=
  Bank.tab fun u => { s.units.get u with queue := (s.units.get u).queue.filter fun b => b ≠ a }

/-! ### Leaving the header, and PAUSED, HALTED and FINISHING (R77, R79, R80, R84, R106, R107, R113 to R117, R134) -/

/-- The header after arm `a` has left it: a holder leaves the holder list, and the grants follow if the pressure state is
NORMAL and the latch CLEAR; a waiter leaves the wait queue; and an arm that stands NONE is not touched (R113 to R115). -/
def State.headerLeft (s : State) (a : Arm) : Header :=
  if s.header.holds a = true then
    let h : Header := { s.header with holders := s.header.holders.filter fun x => x.arm ≠ a }
    if s.scan.pressure = .normal ∧ s.stop.latch = none then h.grantAll else h
  else if s.header.waits a = true then { s.header with wait := s.header.wait.filter fun b => b ≠ a }
  else s.header

/-- The closed-valve volume of arm `a`'s load once the arm has left the header: 0 if it held a slot, whose valve output
closes, and as it was otherwise (R117). -/
def State.closedLeft (s : State) (a : Arm) (r : LoadRecord) : Nat :=
  if s.header.holds a = true then 0 else r.acc.closedValve

/-- A notice set after the restrict state went from `old` to `new`: RESTRICT_CHANGED is raised at a change (R84, R106). -/
def restrictRaised (old new : Bool) (l : List (ArmNotice × Option Nat)) : List (ArmNotice × Option Nat) :=
  if old = new then l else raiseIn ArmNotice.key .restrictChanged none l

/-- The state after the load `r` of arm `a` has entered PAUSED from FLOWING with cause `c` (R77): the no-flow timer stops and
the arm leaves the header and every shot queue; the restrict state stays. -/
def State.pausedBy (s : State) (a : Arm) (r : LoadRecord) (c : PauseCause) : State :=
  { s with
    arms := s.arms.upd a fun x => { x with
      occ := .loaded { r with phase := .paused c, acc := { r.acc with closedValve := s.closedLeft a r } }
      noFlow := .stopped }
    header := s.headerLeft a, units := s.queuesLeft a }

/-- The state after the load `r` of arm `a` has entered HALTED with reason `x` (R79): the reason stands, the three timers
stop, restrict is OFF, the arm leaves the header and every shot queue, and RESTRICT_CHANGED, if restrict was ON, HALTED and
ARM_HALTED are raised, the last two with the reason (R84, R106, R107). -/
def State.haltedBy (s : State) (a : Arm) (r : LoadRecord) (x : HaltReason) : State :=
  { s with
    arms := s.arms.upd a fun c => { c with
      occ := .loaded { r with
        phase := .halted, haltReason := some x
        acc := { r.acc with restrictOn := false, closedValve := s.closedLeft a r } }
      noFlow := .stopped, linkSilence := .stopped, window := .stopped }
    armLines := s.armLines.upd a fun y => { y with
      notices := raiseIn ArmNotice.key .halted (some (haltCode x)) (restrictRaised r.acc.restrictOn false y.notices) }
    header := s.headerLeft a, units := s.queuesLeft a
    supervisor := { s.supervisor with
      notices := raiseIn SupNotice.key (.armHalted a) (some (haltCode x)) s.supervisor.notices } }

/-- The state after the load `r` of arm `a` has entered FINISHING (R80): the three timers stop and the settle timer starts,
restrict is OFF, with RESTRICT_CHANGED raised if it was ON (R84, R106), and the arm leaves the header and every shot queue. -/
def State.finishing (s : State) (a : Arm) (r : LoadRecord) : State :=
  { s with
    arms := s.arms.upd a fun c => { c with
      occ := .loaded { r with
        phase := .finishing, acc := { r.acc with restrictOn := false, closedValve := s.closedLeft a r } }
      noFlow := .stopped, linkSilence := .stopped, window := .stopped
      settle := .running (s.settings.settle * 100000) }
    armLines := s.armLines.upd a fun y => { y with notices := restrictRaised r.acc.restrictOn false y.notices }
    header := s.headerLeft a, units := s.queuesLeft a }

/-! ### Completion and hand-off (R69 to R71, R81, R82, R105, R106, R156, R159, R160, R166, R167) -/

/-- The item owes a shot or more at completion, with the unit's shot volume taken as 1 mL if it is 0 (R71). -/
def LoadItem.endsShort (i : LoadItem) (shot totalGross : Nat) : Bool :=
  decide (((max 1 shot : Nat) : Int) ≤ ((i.rate * totalGross / 1000000 : Nat) : Int) - (i.delivered : Int))

/-- The exception flags of a completed load: OFF_RATIO by the final ratio, and ADDITIVE_SHORT(u) for each item that ends
short; a flag set before stays set (R70, R71, R75). `shots` gives each unit's shot volume. -/
def LoadRecord.finalFlags (r : LoadRecord) (ratio : Nat) (shots : UnitNo → Nat) : ExceptionFlags :=
  { r.flags with
    offRatio := r.flags.offRatio ||
      (decide (r.acc.totalStd ≠ 0) && decide (r.snap.tolerance < ((ratio : Int) - (r.snap.ratio : Int)).natAbs))
    additiveShort := Bank.tab fun u => r.flags.additiveShort.get u ||
      r.items.any fun i => decide (i.unit = u) && i.endsShort (shots u) r.acc.totalGross }

/-- The final fields of a load, which the last summary holds and the delivery record carries (R105, Table 8-1), with this
final ratio, these exception flags and this end time. -/
def LoadRecord.finals (r : LoadRecord) (ratio : Nat) (flags : ExceptionFlags) (endTime : BitVec 32) : FinalFigures :=
  { number := r.number, bill := r.bill, entry := r.snap.entry, revision := r.snap.revision, code := r.snap.code,
    preset := r.preset, baseGross := r.acc.baseGross, ethGross := r.acc.ethGross, totalGross := r.acc.totalGross,
    baseStd := r.acc.baseStd, ethStd := r.acc.ethStd, totalStd := r.acc.totalStd, finalRatio := ratio,
    items := r.items.map fun i => { unit := i.unit, delivered := i.delivered, shots := i.shots },
    flags := flags, haltReason := r.haltReason, authTime := r.authTime, endTime := endTime }

/-- A notice set with ADDITIVE_SHORT(u) raised for each unit whose flag goes from clear to set (R75, R106, Table 10-3). -/
def shortsRaised (old new : ExceptionFlags) (l : List (ArmNotice × Option Nat)) : List (ArmNotice × Option Nat) :=
  (List.finRange 4).foldl
    (fun t u => if old.additiveShort.get u = false ∧ new.additiveShort.get u = true
      then raiseIn ArmNotice.key (.additiveShort u) (some 0) t else t) l

/-- The state after arm `a` has handed off its load with these final fields (R160): the record, with the two gross residues,
joins the queue's tail (Table 8-1), the arm is IDLE, its recipe entry's count falls, a WITHDRAWN entry whose count reaches 0
becomes EMPTY (R47), the age timer starts if the queue held no record (R167), and RECORDS_WAITING is raised at the trigger
level (R166). `wait` is the completion wait list after it. -/
def State.handedOff (s : State) (a : Arm) (f : FinalFigures) (wait : List Arm) : State :=
  { s with
    records := { s.records with
      records := s.records.records ++ [{ arm := a, baseResidue := (s.meter a .base).residue,
                                         ethResidue := (s.meter a .ethanol).residue, figures := f }]
      wait := wait
      ageTimer := if s.records.records = [] then .running (s.records.ageTimeout * 100000) else s.records.ageTimer }
    arms := s.arms.upd a fun c => { c with occ := .idle }
    recipes := s.recipes.upd f.entry fun x => { x with
      refCount := x.refCount - 1
      state := if x.state = .withdrawn ∧ x.refCount ≤ 1 then .empty else x.state }
    supervisor := { s.supervisor with
      notices := if s.records.trigger ≤ s.records.records.length + 1
        then raiseIn SupNotice.key .recordsWaiting none s.supervisor.notices else s.supervisor.notices } }

/-- The state after the load `r` of arm `a` has entered COMPLETE (R82): the completion figures stand, the settle timer is
stopped, the last summary is this load's, its notices are raised, and the record is handed off with fewer than 32 in the queue
and waits otherwise (R159). -/
def State.completed (s : State) (a : Arm) (r : LoadRecord) : State :=
  let ratio := if r.acc.totalStd = 0 then 0 else 10000 * r.acc.ethStd / r.acc.totalStd
  let flags := r.finalFlags ratio fun u => (s.units.get u).shot
  let f := r.finals ratio flags s.clock
  let closed : LoadRecord := { r with
    phase := .complete, flags := flags, finalRatio := some ratio, endTime := some s.clock
    items := r.items.map fun i => { i with
      owed := ((i.rate * r.acc.totalGross / 1000000 : Nat) : Int) - (i.delivered : Int)
      short := i.short || i.endsShort (s.units.get i.unit).shot r.acc.totalGross } }
  let t : State := { s with
    arms := s.arms.upd a fun c => { c with occ := .loaded closed, settle := .stopped, lastSummary := some f }
    armLines := s.armLines.upd a fun y => { y with
      notices := raiseIn ArmNotice.key .loadComplete (some r.number) (shortsRaised r.flags flags y.notices) } }
  if s.records.records.length < 32 then t.handedOff a f s.records.wait
  else { t with records := { s.records with wait := s.records.wait ++ [a] } }

/-- The completion condition of arm `a`'s load examined: in FINISHING, with the settle timer expired, no stroke in flight and
no mark set, the load enters COMPLETE (R81). -/
def State.examined (s : State) (a : Arm) : State :=
  match s.record a with
  | none => s
  | some r =>
    if r.phase = .finishing ∧ (s.arms.get a).settle = .expired ∧ (∀ u : UnitNo, (s.units.get u).inFlight ≠ some a) ∧
        ∀ i ∈ r.items, i.finalShot = false
    then s.completed a r else s

/-! ### The loss of a unit (R75, R81, R92, R106, R148) -/

/-- The load record after unit `u` has entered FAULTED or EMPTY: its mark for the unit is clear, and in AUTHORIZED through
FLUSH it is handed the halt ADDITIVE_LOST(u) if it lists the unit REQUIRED, and is made short if it lists it OPTIONAL (R148).
-/
def LoadRecord.lossOf (r : LoadRecord) (u : UnitNo) : LoadRecord :=
  let lists (required : Bool) : Bool := r.phase.haltable && (r.item u).any fun i => decide (i.required = required)
  { r with
    lostHalts := if lists true = true ∧ u ∉ r.lostHalts then r.lostHalts ++ [u] else r.lostHalts
    items := r.items.map fun i => if i.unit = u then { i with finalShot := false, short := i.short || lists false } else i
    flags := if lists false = true then { r.flags with additiveShort := r.flags.additiveShort.put u true } else r.flags }

/-- The state after unit `u` has entered FAULTED or EMPTY as `x`, before completion conditions are examined: every load takes
its share, ADDITIVE_SHORT(u) is raised on the line of each load that it makes short, and the unit's notice is raised (R148).
-/
def State.lost (s : State) (u : UnitNo) (x : AdditiveUnit) (k : SupNotice) (data : Nat) : State :=
  { s with
    units := s.units.put u x
    arms := Bank.tab fun b => (s.arms.get b).mapRecord fun r => r.lossOf u
    armLines := Bank.tab fun b => { s.armLines.get b with
      notices := (s.record b).elim (s.armLines.get b).notices fun r =>
        shortsRaised r.flags (r.lossOf u).flags (s.armLines.get b).notices }
    supervisor := { s.supervisor with notices := raiseIn SupNotice.key k (some data) s.supervisor.notices } }

/-- The arms whose load holds a set final-shot mark for unit `u`, lowest first: the order in which the completion conditions
of the loads that lose their mark are examined (log entry 6). -/
def State.markedFor (s : State) (u : UnitNo) : List Arm :=
  (List.finRange 8).filter fun b => (s.record b).any fun r => r.items.any fun i => decide (i.unit = u) && i.finalShot

/-- The state after unit `u` has entered FAULTED or EMPTY as `x` and the loads that lost a mark have been examined (R92,
R148). -/
def State.losesUnit (s : State) (u : UnitNo) (x : AdditiveUnit) (k : SupNotice) (data : Nat) : State :=
  (s.markedFor u).foldl State.examined (s.lost u x k data)

/-! ### The laws of the station -/

/-- The Header Arbiter's law (R110), with what the arms of its two collections have in common: a load in FLOWING. -/
def State.headerLaw (s : State) : Prop :=
  s.header.holders.length ≤ s.header.slots ∧ s.header.armsHolding.Nodup ∧ s.header.wait.Nodup ∧
  (∀ a : Arm, ¬ (s.header.holds a = true ∧ s.header.waits a = true)) ∧
  ∀ a : Arm, s.header.holds a = true ∨ s.header.waits a = true → s.phase a = some .flowing

/-- The Record Queue's law (R157, R158): at most 32 records; arms wait only behind 32 records; and the arms that wait are,
each once, the arms in COMPLETE. -/
def State.recordLaw (s : State) : Prop :=
  s.records.records.length ≤ 32 ∧ (s.records.wait ≠ [] → s.records.records.length = 32) ∧ s.records.wait.Nodup ∧
  ∀ a : Arm, a ∈ s.records.wait ↔ s.phase a = some .complete

/-- The age timer runs exactly while the queue holds a record (R167). -/
def State.ageLaw (s : State) : Prop := s.records.ageTimer.runs = true ↔ s.records.records ≠ []

/-- The load numbers in use are all different, and they and the counter lie within 1 to 65,535 (R157, R161). -/
def State.numberLaw (s : State) : Prop :=
  s.numbersInUse.Nodup ∧ (∀ n ∈ s.numbersInUse, 1 ≤ n ∧ n ≤ 65535) ∧
  1 ≤ s.records.nextNumber ∧ s.records.nextNumber ≤ 65535

/-- The law of a shot queue (R133, R135): each arm at most once, never the arm in flight, and only arms whose load is in
FLOWING or FLUSH, or in FINISHING with a set final-shot mark for the unit. -/
def State.shotQueueLaw (s : State) : Prop :=
  ∀ u : UnitNo, (s.units.get u).queue.Nodup ∧
    ∀ a ∈ (s.units.get u).queue, (s.units.get u).inFlight ≠ some a ∧
      (s.phase a = some .flowing ∨ s.phase a = some .flush ∨
        (s.phase a = some .finishing ∧ (s.record a).elim False fun r => r.marked u = true))

/-- The law of an additive unit's state (R131, R132, R136 to R138, R142, R145 to R147). -/
def AdditiveUnit.lawful (x : AdditiveUnit) : Prop :=
  x.inventory ≤ 100000000 ∧ x.failures ≤ 3 ∧ x.lowMark = decide (x.inventory < x.low) ∧
  (x.inFlight ≠ none ↔ x.state = .routing ∨ x.state = .stroking) ∧
  (x.inFlight ≠ none → x.route = x.inFlight) ∧
  (x.settleTimer.runs = true ↔ x.state = .routing) ∧ (x.strokeTimer.runs = true ↔ x.state = .stroking) ∧
  (x.state ≠ .offline → 1 ≤ x.shot) ∧
  (x.state = .ready ∨ x.state = .routing ∨ x.state = .stroking → x.shot ≤ x.inventory ∧ x.failures ≤ 2) ∧
  (x.state = .empty → x.inventory < x.shot ∧ x.failures = 0) ∧ (x.state = .faulted → x.failures = 3) ∧
  (x.state = .offline → x.route = none) ∧ (x.queue ≠ [] → x.state = .routing ∨ x.state = .stroking)

/-- Every unit keeps its law. -/
def State.unitLaw (s : State) : Prop := ∀ u : UnitNo, (s.units.get u).lawful

/-- While the latch is CLEAR no stop input is both enabled and active (R171, R172). -/
def State.stopLaw (s : State) : Prop := s.stop.latch = none → s.stop.condition = false

/-- Every notice set holds each kind and index at most once, in the order in which READ NOTICE returns them (R187,
R188). -/
def State.noticeLaw (s : State) : Prop :=
  (s.supervisor.notices.map fun p => p.1.key).Pairwise (· < ·) ∧
  ∀ n : Arm, ((s.armLines.get n).notices.map fun p => p.1.key).Pairwise (· < ·)

/-- The law of a load's accounts (R55 to R57, Table 4-1). -/
def Accounts.lawful (x : Accounts) : Prop :=
  x.totalGross = x.baseGross + x.ethGross ∧ x.totalGross ≤ 99999999 ∧
  x.totalStd = x.baseStd + x.ethStd ∧ x.totalStd ≤ 99999999 ∧
  x.baseStdRes < 10000000 ∧ x.ethStdRes < 10000000 ∧ x.closedValve ≤ 99999999

/-- The accounts of every load keep their law, and every gross residue is below a millilitre (R9). -/
def State.accountLaw (s : State) : Prop :=
  (∀ a : Arm, (s.record a).elim True fun r =>
    r.acc.lawful ∧ ∀ i ∈ r.items, i.delivered ≤ 99999999 ∧ i.shots ≤ 65535) ∧
  ∀ (a : Arm) (m : Meter), (s.meter a m).residue < 1000

/-- No two ACTIVE entries carry one product code (R37). -/
def State.codeLaw (s : State) : Prop :=
  ∀ i j : EntryNo, (s.recipes.get i).state = .active → (s.recipes.get j).state = .active →
    (s.recipes.get i).code = (s.recipes.get j).code → i = j

/-- The arms whose load record names entry `e`. -/
def State.armsOn (s : State) (e : EntryNo) : List Arm :=
  (List.finRange 8).filter fun a => (s.record a).any fun r => decide (r.snap.entry = e)

/-- Each entry's reference count is the number of arms whose load record names it; an EMPTY entry is named by none, and a
WITHDRAWN one by some (R35, R46, R47). -/
def State.referenceLaw (s : State) : Prop :=
  ∀ e : EntryNo, (s.recipes.get e).refCount = (s.armsOn e).length ∧
    ((s.recipes.get e).state = .empty → (s.recipes.get e).refCount = 0) ∧
    ((s.recipes.get e).state = .withdrawn → 1 ≤ (s.recipes.get e).refCount)

/-- The additive items of a recipe entry, and of a load record, name different units (R39, R45). -/
def State.itemLaw (s : State) : Prop :=
  (∀ e : EntryNo, ((s.recipes.get e).items.map AdditiveItem.unit).Nodup) ∧
  ∀ a : Arm, (s.record a).elim True fun r => (r.items.map LoadItem.unit).Nodup

/-- The arm timers run in the load states in which their rules have them run, and in no other (R97 to R101). -/
def State.timerLaw (s : State) : Prop :=
  ∀ a : Arm,
    ((s.arms.get a).noFlow.runs = true ↔ s.phase a = some .flowing) ∧
    ((s.arms.get a).window.runs = true ↔ s.phase a = some .authorized) ∧
    ((s.arms.get a).linkSilence.runs = true ↔ (s.phase a).any Phase.haltable = true) ∧
    ((s.arms.get a).settle ≠ .stopped ↔ s.phase a = some .finishing)

/-- A load's restrict state is ON only in FLOWING and PAUSED (R84). -/
def State.restrictLaw (s : State) : Prop :=
  ∀ a : Arm, (s.record a).elim True fun r =>
    r.acc.restrictOn = true → r.phase = .flowing ∨ r.phase.isPaused = true

/-- A load in AUTHORIZED through FLUSH has no halt reason, and one in HALTED has one (R74, R79, R95). -/
def State.reasonLaw (s : State) : Prop :=
  ∀ a : Arm, (s.record a).elim True fun r =>
    (r.phase.haltable = true → r.haltReason = none) ∧ (r.phase = .halted → r.haltReason ≠ none)

/-- The two kinds of line counter that have no cause stay 0 (R186). -/
def State.counterLaw (s : State) : Prop :=
  s.supervisor.line.counters.misdirected = 0 ∧ ∀ n : Arm, (s.armLines.get n).line.counters.collision = 0

end Sys2Proof.Machine
end

