-- ==== Sys2Proof/WellFormed.lean ====
section
/-! DEFINITION. Which commands are well formed: a request's fields fit the widths that R193 and Table 10-1 give
them, so that a telegram can carry them. Arm, unit, input and line numbers of the other commands are in range by
their types. Whether a field lies in the range its owner accepts is the owner's to decide (R14, R39, R85 ...). -/

namespace Sys2Proof

/-- The number fits one character. -/
def fits1 (n : Nat) : Bool := n < 256
/-- The number fits two characters. -/
def fits2 (n : Nat) : Bool := n < 65536
/-- The number fits four characters. -/
def fits4 (n : Nat) : Bool := n < 4294967296

/-- An additive item fits its four characters (Table 10-11). -/
def AdditiveField.wf (i : AdditiveField) : Bool :=
  fits1 i.unit && fits2 i.rate && fits1 i.required

/-- DEFINE RECIPE's fields fit the layout of Table 10-11 and the body its 255 characters (R180). -/
def RecipeFields.wf (f : RecipeFields) : Bool :=
  fits1 f.entry && fits2 f.code && fits2 f.ratio && fits2 f.tolerance && fits2 f.alpha && fits2 f.flush &&
  fits2 f.step && fits4 f.restrict && fits4 f.hard && fits1 f.permitted && decide (f.items.length ≤ 57) &&
  f.items.all AdditiveField.wf

/-- The command can be sent: its request's fields fit the telegram (R193, R194, Table 10-1). -/
def Instr.wf : Instr → Bool
  | .setMeters arm kb ke fb fe mb me =>
    fits1 arm && fits4 kb && fits4 ke && fits1 fb && fits1 fe && fits2 mb && fits2 me
  | .readMeters arm => fits1 arm
  | .defineRecipe f => f.wf
  | .withdrawRecipe e => fits1 e
  | .readRecipe e => fits1 e
  | .setArmService arm sv => fits1 arm && fits1 sv
  | .authorize _ code preset bill =>
    fits2 code && fits4 preset && decide (1 ≤ bill.length) && decide (bill.length ≤ 16)
  | .abortLoad arm number => fits1 arm && fits2 number
  | .setStation nf ls w st al => fits2 nf && fits1 ls && fits2 w && fits1 st && fits2 al
  | .readLoad arm => fits1 arm
  | .lastSummarySupervisor arm => fits1 arm
  | .setHeader sl h ft al th => fits1 sl && fits2 h && fits1 ft && fits2 al && fits2 th
  | .setUnit u sh lo tmo st => fits1 u && fits1 sh && fits4 lo && fits2 tmo && fits2 st
  | .setUnitService u sv => fits1 u && fits1 sv
  | .refillUnit u v => fits1 u && fits4 v
  | .clearUnit u => fits1 u
  | .readUnit u => fits1 u
  | .removeRecord n => fits2 n
  | .setRecordNotice t a => fits1 t && fits1 a
  | .setStopInputs a b c d => fits1 a && fits1 b && fits1 c && fits1 d
  | .setClock c => fits4 c
  | .restart f => fits1 f
  | .meterLevelChange _ _ _ => true
  | .meterPulseAcceptance _ _ => true
  | .capExpiry _ _ => true
  | .idleExpiry _ _ => true
  | .scanConversionComplete _ => true
  | .readScan => true
  | .pause _ => true
  | .resume _ => true
  | .endLoad _ => true
  | .noFlowExpiry _ => true
  | .linkSilenceExpiry _ => true
  | .authorizationWindowExpiry _ => true
  | .settleExpiry _ => true
  | .loadStatus _ => true
  | .lastSummaryArm _ => true
  | .holdTimerExpiry _ => true
  | .ethanolFlowTimerExpiry _ => true
  | .readHeader => true
  | .unitSettleExpiry _ => true
  | .strokeConfirmLevelChange _ _ => true
  | .strokeConfirmation _ => true
  | .strokeTimeout _ => true
  | .additiveLostHalt _ _ => true
  | .readRecord => true
  | .waitListHandOff => true
  | .ageTimerExpiry => true
  | .stopInputLevelChange _ _ => true
  | .stopInputAcceptedEdge _ => true
  | .terminalStopHalt _ => true
  | .terminalStop => true
  | .terminalResume => true
  | .characterReceived _ _ _ _ => true
  | .characterGapTimeout _ => true
  | .telegramReceived _ => true
  | .replySent _ => true
  | .powerOnReset _ => true
  | .readLines => true
  | .readNoticeSupervisor => true
  | .readNoticeArm _ => true
  | .stationClockAdvance => true
  | .readStation => true
  | .meterAcceptedFallingEdge _ _ => true
  | .confirmAcceptedFallingEdge _ => true
  | .replyStart => true

end Sys2Proof
end

