-- ==== Sys2Proof/Certificates/Slice0/Obligations.lean ====
section
/-! DEFINITION. The statements about the model, each a proposition for the provers. Where a statement speaks of a request, the
request waits in its line's slot (`State.awaits`), and `State.answered` is the state with the reply in the slot and nothing
else changed, so that an equation with it is the result and the frame in one. -/

open Sys2Proof Sys2Proof.Machine

/-! ### The machine -/

/-- The block's step: with a command at the front of the queue, step is exec of it with the queue's rest. -/
def Obligations.StepTakesTheFrontCommand : Prop :=
  ∀ (c : Instr) (rest : List Instr) (s : State),
    step { s with pending := c :: rest } = exec c { s with pending := rest }

/-- Every command is answered with a next state in every state (log entry 2): a fault or a refusal is no outcome. -/
def Obligations.EveryCommandAnswersNext : Prop :=
  ∀ (c : Instr) (s : State), ∃ t : State, exec c s = .next t

/-- Whatever the pins present, the state at the end of a reset meets every law of the station. -/
def Obligations.LawsHoldAfterReset : Prop :=
  ∀ p : Pins, let s := State.resetWith p
    s.headerLaw ∧ s.recordLaw ∧ s.ageLaw ∧ s.numberLaw ∧ s.shotQueueLaw ∧ s.unitLaw ∧ s.stopLaw ∧ s.noticeLaw ∧
    s.accountLaw ∧ s.codeLaw ∧ s.referenceLaw ∧ s.itemLaw ∧ s.timerLaw ∧ s.restrictLaw ∧ s.reasonLaw ∧
    s.counterLaw

/-! ### Laws that every step keeps -/

/-- The Header Arbiter's law (R110) is kept by every step, beside the Record Queue's. -/
def Obligations.HeaderLawKept : Prop :=
  ∀ s t : State, s.headerLaw → s.recordLaw → step s = .next t → t.headerLaw

/-- The Record Queue's law (R157, R158), the age timer's (R167), and the load numbers' (R161: no two open loads or queued
records carry one number) are kept by every step. -/
def Obligations.RecordLawsKept : Prop :=
  ∀ s t : State, s.recordLaw → s.ageLaw → s.numberLaw → step s = .next t → t.recordLaw ∧ t.ageLaw ∧ t.numberLaw

/-- The law of the shot queues (R133, R135) is kept by every step. -/
def Obligations.ShotQueueLawKept : Prop :=
  ∀ s t : State, s.shotQueueLaw → s.recordLaw → step s = .next t → t.shotQueueLaw

/-- The law of the additive units' states, inventories, failures, routes and timers is kept by every step. -/
def Obligations.UnitLawKept : Prop :=
  ∀ s t : State, s.unitLaw → step s = .next t → t.unitLaw

/-- While the latch is CLEAR no enabled stop input is active: kept by every step (R171, R172, R175). -/
def Obligations.StopLawKept : Prop :=
  ∀ s t : State, s.stopLaw → step s = .next t → t.stopLaw

/-- Every notice set holds each kind and index once, in READ NOTICE's order (R187, R188), and the two kinds of line counter
that have no cause stay 0 (R186): kept by every step. -/
def Obligations.LineLawsKept : Prop :=
  ∀ s t : State, s.noticeLaw → s.counterLaw → step s = .next t → t.noticeLaw ∧ t.counterLaw

/-- Total gross is base gross plus ethanol gross, the same for standard, and no volume account passes 99,999,999 mL: kept by
every step (R55, R57). -/
def Obligations.AccountLawKept : Prop :=
  ∀ s t : State, s.accountLaw → step s = .next t → t.accountLaw

/-- No two ACTIVE entries carry one product code (R37), each reference count is the number of arms whose load names the entry
(R46), and the additive items of an entry and of a load name different units (R39, R45): kept by every step. -/
def Obligations.RecipeLawKept : Prop :=
  ∀ s t : State, s.codeLaw → s.referenceLaw → s.itemLaw → s.recordLaw → step s = .next t →
    t.codeLaw ∧ t.referenceLaw ∧ t.itemLaw

/-- The arm timers run exactly in the load states of R98 to R101, and restrict is ON only in FLOWING and PAUSED (R84), and a
load has no halt reason in AUTHORIZED through FLUSH and has one in HALTED (R74, R79): kept by every step. -/
def Obligations.LoadStateLawKept : Prop :=
  ∀ s t : State, s.timerLaw → s.restrictLaw → s.reasonLaw → s.recordLaw → step s = .next t →
    t.timerLaw ∧ t.restrictLaw ∧ t.reasonLaw

/-! ### Telegrams -/

/-- The body of every well-formed request reads back, on the request's own line, as that request with every field (Table 10-1,
R193). -/
def Obligations.RequestBodiesReadBack : Prop :=
  ∀ (c : Instr) (l : Line) (body : List Byte),
    c.wf = true → requestLine c = some l → requestBody c = some body → parseRequest l body = .request c

/-- A whole telegram reaches its owner: a station that takes, one by one, the characters of a well-formed request framed with
the head of its line, and then the completed telegram, holds the request in the line's slot (R180 to R184). With head 0 on the
supervisor line it holds it as a broadcast where Table 10-1 has it executed as one, and holds nothing otherwise. -/
def Obligations.WholeTelegramReachesItsOwner : Prop :=
  ∀ (s : State) (c : Instr) (l : Line) (body : List Byte) (head : Byte),
    c.wf = true → requestLine c = some l → requestBody c = some body →
    (match l with
      | .supervisor => s.address ≠ 0 ∧ s.supervisor.transmitting = false ∧ (head.toNat = s.address.toNat ∨ head = 0)
      | .arm n => head.toNat = 32 + n.val) →
    (s.line l).received = [] → (s.line l).slot = none →
    let executed := (∃ n, c = .setClock n) ∨ (∃ nf ls w st al, c = .setStation nf ls w st al) ∨
      (∃ trigger age, c = .setRecordNotice trigger age) ∨ c = .terminalStop
    ∃ t : State,
      Host.Core.run Sys2Proof.core (body.length + 5)
        { s with pending :=
            .characterReceived l head true true ::
            ((frame head body).tail.map fun b => .characterReceived l b false true) ++ [.telegramReceived l] } = .next t ∧
      (head ≠ 0 → t.awaits l c) ∧
      (head = 0 → executed → t.awaitsBroadcast c) ∧ (head = 0 → ¬ executed → (t.line l).slot = none)

/-! ### Meter inputs -/

/-- Filter tests start, are abandoned, and with filter code 0 succeed at once; no edge is accepted before its filter time has
run out, and a falling edge only lowers the accepted level (R1, R139, R170). That a command for an edge before its time has no
effect is the model's choice, log entry 4, and that a level which returns at the instant its filter time has run out abandons
the test where the level change is taken first is log entry 24. -/
def Obligations.FilterTestsRunTheirTime : Prop :=
  ∀ s : State,
    (∀ (a : Arm) (m : Meter) (high : Bool), (s.meter a m).filterCode ≠ 0 →
      exec (.meterLevelChange a m high) s = .next (s.modMeter a m fun x =>
        { x with
          presented := high
          test := if high = x.accepted then none
            else some (x.test.getD (if x.filterCode = 1 then 2 else if x.filterCode = 2 then 5 else 20)) })) ∧
    (∀ (a : Arm) (m : Meter) (high : Bool), (s.meter a m).filterCode = 0 → high = (s.meter a m).accepted →
      exec (.meterLevelChange a m high) s = .next (s.modMeter a m fun x => { x with presented := high, test := none })) ∧
    (∀ (a : Arm) (m : Meter) (high : Bool), (s.meter a m).filterCode = 0 → high ≠ (s.meter a m).accepted →
      (s.meter a m).test = none →
      exec (.meterLevelChange a m high) s =
        exec (if high = true then .meterPulseAcceptance a m else .meterAcceptedFallingEdge a m)
          (s.modMeter a m fun x => { x with presented := high, test := some 0 })) ∧
    (∀ (u : UnitNo) (high : Bool),
      exec (.strokeConfirmLevelChange u high) s = .next (s.modUnit u fun x =>
        { x with presented := high, test := if high = x.accepted then none else some (x.test.getD 20) })) ∧
    (∀ (i : StopNo) (high : Bool),
      exec (.stopInputLevelChange i high) s = .next (s.modStop i fun x =>
        { x with presented := high, test := if high = x.accepted then none else some (x.test.getD 500) })) ∧
    (∀ (a : Arm) (m : Meter), (s.meter a m).test = some 0 → (s.meter a m).presented = false →
      (s.meter a m).accepted = true →
      exec (.meterAcceptedFallingEdge a m) s = .next (s.modMeter a m fun x => { x with accepted := false, test := none })) ∧
    (∀ u : UnitNo, (s.units.get u).test = some 0 → (s.units.get u).presented = false → (s.units.get u).accepted = true →
      exec (.confirmAcceptedFallingEdge u) s =
        .next (s.modUnit u fun x => { x with accepted := false, test := none })) ∧
    (∀ (a : Arm) (m : Meter), (s.meter a m).test ≠ some 0 →
      exec (.meterPulseAcceptance a m) s = .next s ∧ exec (.meterAcceptedFallingEdge a m) s = .next s) ∧
    (∀ u : UnitNo, (s.units.get u).test ≠ some 0 →
      exec (.strokeConfirmation u) s = .next s ∧ exec (.confirmAcceptedFallingEdge u) s = .next s) ∧
    (∀ i : StopNo, (s.stop.inputs.get i).test ≠ some 0 → exec (.stopInputAcceptedEdge i) s = .next s)

/-- A pulse's capture, interval and flow rate, its residue where the load receives it, and the unassigned counter where no
load does (R4, R6, R8, R9, R12, R13). -/
def Obligations.PulseIsCapturedAndRouted : Prop :=
  ∀ (s : State) (a : Arm) (m : Meter),
    (s.meter a m).test = some 0 → (s.meter a m).presented = true → (s.meter a m).accepted = false →
    (∀ e, (s.meter a m).lastEdge = some e → (s.timebase - e).toNat ≤ 1000000) →
    ∃ t : State, exec (.meterPulseAcceptance a m) s = .next t ∧
      (let x := s.meter a m
       let y := t.meter a m
       y.accepted = true ∧ y.test = none ∧ y.lastEdge = some s.timebase ∧
       y.lastInterval = x.lastEdge.map (fun e => max 1 (s.timebase - e).toNat) ∧
       y.flowRate = (match y.lastInterval with
         | none => 0
         | some i => if i < 1000000 then 60 * x.k / i else 0) ∧
       y.k = x.k ∧ y.filterCode = x.filterCode ∧ y.minInterval = x.minInterval ∧ y.presented = x.presented) ∧
      (∀ n : Meter, n ≠ m → t.meter a n = s.meter a n) ∧ (∀ b : Arm, b ≠ a → t.meters.get b = s.meters.get b) ∧
      ((∃ p, s.phase a = some p ∧ p ≠ .complete) →
        (t.meter a m).residue = ((s.meter a m).residue + (s.meter a m).k) % 1000 ∧
        (t.meters.get a).unassignedMl = (s.meters.get a).unassignedMl ∧
        (t.meters.get a).unassignedUl = (s.meters.get a).unassignedUl) ∧
      ((s.phase a = none ∨ s.phase a = some .complete) →
        let k := (s.meter a m).k
        let ml := (s.meters.get a).unassignedMl
        let ul := (s.meters.get a).unassignedUl
        let full := decide (99999999 < ml + (ul + k) / 1000)
        let ml' := if k = 0 then ml else if full then 99999999 else ml + (ul + k) / 1000
        let ul' := if k = 0 then ul else if full then 999 else (ul + k) % 1000
        (t.meter a m).residue = (s.meter a m).residue ∧
        (t.meters.get a).unassignedMl = ml' ∧ (t.meters.get a).unassignedUl = ul' ∧
        t = { s with
          meters := t.meters
          supervisor := { s.supervisor with
            notices := if (ml = 0 ∧ ul = 0) ∧ (ml' ≠ 0 ∨ ul' ≠ 0)
              then raiseIn SupNotice.key (.unassignedFlow a) (some 0) s.supervisor.notices
              else s.supervisor.notices } })

/-- The accounts of a load after a pulse routed to it: gross and standard with saturation, additive owed, TEMP_HELD, the
overspeed flags, the closed-valve volume and ETH_WHILE_CLOSED (R7, R9, R52, R55 to R57, R66, R67). -/
def Obligations.PulseIsAccounted : Prop :=
  ∀ (s : State) (a : Arm) (m : Meter) (r : LoadRecord), s.headerLaw →
    (s.meter a m).test = some 0 → (s.meter a m).presented = true → (s.meter a m).accepted = false →
    s.record a = some r → r.phase ≠ .complete →
    ∃ (t : State) (q : LoadRecord), exec (.meterPulseAcceptance a m) s = .next t ∧ t.record a = some q ∧
      (let k := (s.meter a m).k
       let carry := ((s.meter a m).residue + k) / 1000
       let gross := min carry (99999999 - r.acc.totalGross)
       let base := s.scan.temps.get ⟨a.val, Nat.lt_succ_of_lt a.isLt⟩
       let header := s.scan.temps.get 8
       let owes := r.phase = .authorized ∨ r.phase = .flowing ∨ r.phase.isPaused = true
       let fast := ∃ e, (s.meter a m).lastEdge = some e ∧ (s.timebase - e).toNat ≤ 1000000 ∧
         max 1 (s.timebase - e).toNat < 10 * (s.meter a m).minInterval
       q.acc.totalGross = r.acc.totalGross + gross ∧
       (q.flags.overspeedBase = true ↔ r.flags.overspeedBase = true ∨ (m = .base ∧ fast)) ∧
       (q.flags.overspeedEth = true ↔ r.flags.overspeedEth = true ∨ (m = .ethanol ∧ fast)) ∧
       q.acc.closedValve =
         (if s.valveOpen a = true ∧ t.valveOpen a = false then 0
          else if m = .ethanol ∧ s.valveOpen a = false then min 99999999 (r.acc.closedValve + gross)
          else r.acc.closedValve) ∧
       (m = .base →
         let sum := r.acc.baseStdRes + k * vcf r.snap.alpha base.value
         let std := min (sum / 10000000) (99999999 - r.acc.totalStd)
         q.acc.baseGross = r.acc.baseGross + gross ∧ q.acc.ethGross = r.acc.ethGross ∧
         q.acc.baseStd = r.acc.baseStd + std ∧ q.acc.baseStdRes = sum % 10000000 ∧ q.acc.ethStd = r.acc.ethStd ∧
         q.acc.ethStdRes = r.acc.ethStdRes ∧ q.acc.totalStd = r.acc.totalStd + std ∧
         q.flags.ethWhileClosed = r.flags.ethWhileClosed ∧
         (q.flags.tempHeld = true ↔ r.flags.tempHeld = true ∨ base.status = .held)) ∧
       (m = .ethanol →
         let sum := r.acc.ethStdRes + k * vcf s.header.alpha header.value
         let std := min (sum / 10000000) (99999999 - r.acc.totalStd)
         q.acc.ethGross = r.acc.ethGross + gross ∧ q.acc.baseGross = r.acc.baseGross ∧
         q.acc.ethStd = r.acc.ethStd + std ∧ q.acc.ethStdRes = sum % 10000000 ∧ q.acc.baseStd = r.acc.baseStd ∧
         q.acc.baseStdRes = r.acc.baseStdRes ∧ q.acc.totalStd = r.acc.totalStd + std ∧
         (q.flags.ethWhileClosed = true ↔ r.flags.ethWhileClosed = true ∨
           (s.valveOpen a = false ∧ 501 ≤ min 99999999 (r.acc.closedValve + gross))) ∧
         (q.flags.tempHeld = true ↔
           r.flags.tempHeld = true ∨ header.status = .held ∨ (owes ∧ base.status = .held))) ∧
       q.items.map (fun i => { i with finalShot := false }) =
         r.items.map fun i =>
           { i with owed := ((i.rate * q.acc.totalGross / 1000000 : Nat) : Int) - (i.delivered : Int), finalShot := false })

/-- What a pulse routed to a load leaves alone (R11, R51, R74, R75): other arms' loads but for final-shot marks, every record,
recipe, setting, stop and scan; and of the load itself its number, bill, preset, snapshot and per-item shots. -/
def Obligations.PulseFrame : Prop :=
  ∀ (s : State) (a : Arm) (m : Meter) (r : LoadRecord),
    (s.meter a m).test = some 0 → (s.meter a m).presented = true → (s.meter a m).accepted = false →
    s.record a = some r → r.phase ≠ .complete →
    ∃ (t : State) (q : LoadRecord), exec (.meterPulseAcceptance a m) s = .next t ∧ t.record a = some q ∧
      t = { s with
        meters := t.meters, arms := t.arms, armLines := t.armLines, units := t.units
        header := { s.header with holders := t.header.holders, wait := t.header.wait }
        supervisor := { s.supervisor with notices := t.supervisor.notices } } ∧
      q = { r with phase := q.phase, haltReason := q.haltReason, acc := q.acc, items := q.items, flags := q.flags } ∧
      q.flags.additiveShort = r.flags.additiveShort ∧ q.flags.offRatio = r.flags.offRatio ∧
      q.flags.expired = r.flags.expired ∧ q.flags.aborted = r.flags.aborted ∧
      q.items.map (fun i => { i with owed := 0, finalShot := false }) =
        r.items.map (fun i => { i with owed := 0, finalShot := false }) ∧
      (∀ u : UnitNo, t.units.get u = { s.units.get u with
        state := (t.units.get u).state, route := (t.units.get u).route, inFlight := (t.units.get u).inFlight,
        settleTimer := (t.units.get u).settleTimer, strokeTimer := (t.units.get u).strokeTimer,
        queue := (t.units.get u).queue }) ∧
      ∀ b : Arm, b ≠ a → t.armLines.get b = s.armLines.get b ∧
        (t.arms.get b).mapRecord (fun x => { x with items := x.items.map fun i => { i with finalShot := false } }) =
          (s.arms.get b).mapRecord fun x => { x with items := x.items.map fun i => { i with finalShot := false } }

/-- The volume correction factor (R53): 10,000 less the correction in thousands rounded to the nearest integer, halves toward
zero, clamped to 9,000 to 11,000. -/
def Obligations.CorrectionFactorRoundsToNearest : Prop :=
  ∀ (alpha : Nat) (temperature : Int), ∃ term : Int,
    (vcf alpha temperature : Int) = max 9000 (min 11000 (10000 - term)) ∧
    (let c : Int := (alpha : Int) * (temperature - 150)
     (1000 * term - c).natAbs ≤ 500 ∧ ((1000 * term - c).natAbs = 500 → (1000 * term).natAbs < c.natAbs) ∧
     (c = 0 → term = 0))

/-- A delivery taken in AUTHORIZED, FLOWING, PAUSED or FLUSH. A base delivery begins FLOWING in AUTHORIZED and in PAUSED with
cause NO_FLOW (R51, R76). The tests decide, in the order of Table 4-2, the halt reason, the entry into FLUSH, or that the load
goes on (R58, R61 to R63, R65), and its ethanol result what becomes of the arm's place at the header (R64, R112 to R115). With
them come the arm timers (R76, R78, R79, R98, R100), the restrict output (R84), RESTRICT_CHANGED at a change of restrict
(R106), and HALTED and ARM_HALTED with their data at a halt (R79, R106, R107). -/
def Obligations.DeliveryTestsInOrder : Prop :=
  ∀ (s : State) (a : Arm) (m : Meter) (r : LoadRecord),
    (s.meter a m).test = some 0 → (s.meter a m).presented = true → (s.meter a m).accepted = false →
    s.record a = some r → r.phase.haltable = true → r.haltReason = none →
    ∃ (t : State) (q : LoadRecord), exec (.meterPulseAcceptance a m) s = .next t ∧ t.record a = some q ∧
      (let x := s.meter a m
       let d : Delivery :=
         { meter := m, k := x.k, carry := (x.residue + x.k) / 1000,
           overspeed := overspeedOf x.minInterval (x.interval s.timebase) }
       let p := r.account d (s.readings a)
       let factor := vcf r.snap.alpha (s.readings a).base.value
       let due := r.snap.ratio * (p.acc.baseStd + r.snap.flush * 1000 * factor / 10000) / (10000 - r.snap.ratio)
       let owed : Int := (due : Int) - (p.acc.ethStd : Int)
       let now := if m = .base ∧ (r.phase = .authorized ∨ r.phase = .paused .noFlow) then .flowing else r.phase
       let restrict :=
         if r.acc.restrictOn = true then !decide (owed < ((r.snap.restrict / 2 : Nat) : Int))
         else decide ((r.snap.restrict : Int) ≤ owed)
       let h : Header := if m = .ethanol
         then { s.header with holders := s.header.holders.map fun y =>
           if y.arm = a then { y with flow := s.header.flowTimeout * 100000 } else y }
         else s.header
       let granted (g : Header) : Header := if s.scan.pressure = .normal ∧ s.stop.latch = none then g.grantAll else g
       let left : Header := State.headerLeft { s with header := h } a
       let halts (x : HaltReason) : Prop :=
         q.phase = .halted ∧ q.haltReason = some x ∧ q.acc.restrictOn = false ∧ t.header = left
       (if r.saturates d (s.readings a) = true then halts .overCapacity
        else if (r.preset + s.settings.allowance) * 1000 ≤ p.acc.totalGross then halts .presetOverrun
        else if now = .authorized then
          q.phase = .authorized ∧ q.haltReason = none ∧ q.acc.owed = owed ∧ q.acc.restrictOn = r.acc.restrictOn ∧
          t.header = h
        else if now = .flush then
          q.phase = .flush ∧ q.haltReason = none ∧ q.acc.owed = r.acc.owed ∧ q.acc.restrictOn = r.acc.restrictOn ∧
          t.header = h
        else if (r.snap.hard : Int) ≤ owed then halts .underBlend ∧ q.acc.owed = owed
        else if owed ≤ -(r.snap.hard : Int) then halts .overBlend ∧ q.acc.owed = owed
        else if (r.preset - r.snap.flush) * 1000 ≤ p.acc.totalGross then
          q.phase = .flush ∧ q.haltReason = none ∧ q.acc.owed = owed ∧ q.acc.restrictOn = false ∧ t.header = left
        else
          q.phase = now ∧ q.haltReason = none ∧ q.acc.owed = owed ∧ q.acc.restrictOn = restrict ∧
          t.header =
            (if (r.snap.step : Int) ≤ owed then
              (if now = .flowing ∧ s.header.holds a = false ∧ s.header.waits a = false
                then granted { h with wait := h.wait ++ [a] } else h)
             else if owed ≤ 0 then left else h)) ∧
       t.arms.get a = { s.arms.get a with
         occ := .loaded q
         noFlow := if q.phase = .halted ∨ (q.phase = .flush ∧ r.phase ≠ .flush) then .stopped
           else if m = .base ∧ now = .flowing then .running (s.settings.noFlow * 100000) else (s.arms.get a).noFlow
         window := if q.phase = .halted ∨ now ≠ r.phase then .stopped else (s.arms.get a).window
         linkSilence := if q.phase = .halted then .stopped else (s.arms.get a).linkSilence } ∧
       t.armLines = s.armLines.upd a (fun y => { y with
         notices :=
           let l := restrictRaised r.acc.restrictOn q.acc.restrictOn y.notices
           q.haltReason.elim l fun x => raiseIn ArmNotice.key .halted (some (haltCode x)) l }) ∧
       t.supervisor = { s.supervisor with
         notices := q.haltReason.elim s.supervisor.notices fun x =>
           raiseIn SupNotice.key (.armHalted a) (some (haltCode x)) s.supervisor.notices } ∧
       t = { s with
         meters := t.meters, arms := t.arms, armLines := t.armLines, header := t.header, units := t.units
         supervisor := t.supervisor } ∧
       (t.restrictOut a = true ↔ (q.phase = .flowing ∨ q.phase.isPaused = true) ∧ q.acc.restrictOn = true))

/-- A delivery in HALTED or FINISHING is accounted and makes no test: load state, halt reason, ethanol owed, header, units and
notices stay as they are (R79, R80, R96). -/
def Obligations.EndedLoadsOnlyAccount : Prop :=
  ∀ (s : State) (a : Arm) (m : Meter) (r : LoadRecord),
    (s.meter a m).test = some 0 → (s.meter a m).presented = true → (s.meter a m).accepted = false →
    s.record a = some r → (r.phase = .halted ∨ r.phase = .finishing) → s.header.holds a = false →
    ∃ (t : State) (q : LoadRecord), exec (.meterPulseAcceptance a m) s = .next t ∧
      t = { s with meters := t.meters, arms := s.arms.upd a fun c => { c with occ := .loaded q } } ∧
      q.phase = r.phase ∧ q.haltReason = r.haltReason ∧ q.acc.owed = r.acc.owed ∧ q.acc.restrictOn = r.acc.restrictOn ∧
      q.snap = r.snap ∧ q.number = r.number ∧ q.items.map LoadItem.finalShot = r.items.map LoadItem.finalShot

/-- Cap expiry and idle expiry of an input, 1,000,000 and 200,000 ticks after its last-edge time (R5, R6). Where the last-edge
time is a later pulse's, or there is none, the expiry does not occur. -/
def Obligations.CapAndIdleExpiry : Prop :=
  ∀ (s : State) (a : Arm) (m : Meter),
    (∀ e, (s.meter a m).lastEdge = some e →
      (1000000 ≤ (s.timebase - e).toNat → exec (.capExpiry a m) s =
        .next (s.modMeter a m fun x => { x with lastInterval := some 1000000, lastEdge := none, flowRate := 0 })) ∧
      ((s.timebase - e).toNat < 1000000 → exec (.capExpiry a m) s = .next s) ∧
      (200000 ≤ (s.timebase - e).toNat → exec (.idleExpiry a m) s =
        .next (s.modMeter a m fun x => { x with flowRate := 0 })) ∧
      ((s.timebase - e).toNat < 200000 → exec (.idleExpiry a m) s = .next s)) ∧
    ((s.meter a m).lastEdge = none → exec (.capExpiry a m) s = .next s ∧ exec (.idleExpiry a m) s = .next s)

/-- SET METERS by its three checks and its clamps, and READ METERS, which reports every field of R16 and then clears the
unassigned counter (R14 to R16). That the refusals carry no field is the model's reading, log entry 10. -/
def Obligations.MeterRequests : Prop :=
  ∀ (s : State) (arm kb ke fb fe mb me : Nat),
    (s.awaits .supervisor (.setMeters arm kb ke fb fe mb me) →
      (8 ≤ arm → exec (.setMeters arm kb ke fb fe mb me) s =
        .next (s.answered .supervisor (.setMeters arm kb ke fb fe mb me) 10 .refusedRange [])) ∧
      ∀ a : Arm, a.val = arm →
        ((s.arms.get a).occ ≠ .outOfService →
          exec (.setMeters arm kb ke fb fe mb me) s =
            .next (s.answered .supervisor (.setMeters arm kb ke fb fe mb me) 10 .inUse [])) ∧
        ((s.arms.get a).occ = .outOfService →
          (kb < 100 ∨ 500000 < kb ∨ ke < 100 ∨ 500000 < ke ∨ 3 < fb ∨ 3 < fe) →
          exec (.setMeters arm kb ke fb fe mb me) s =
            .next (s.answered .supervisor (.setMeters arm kb ke fb fe mb me) 10 .refusedRange [])) ∧
        ((s.arms.get a).occ = .outOfService → 100 ≤ kb → kb ≤ 500000 → 100 ≤ ke → ke ≤ 500000 → fb ≤ 3 → fe ≤ 3 →
          let nb := max 1 (min 1000 mb)
          let ne := max 1 (min 1000 me)
          exec (.setMeters arm kb ke fb fe mb me) s =
            .next (State.answered
              (s.modMeters a fun x =>
                { x with base := { x.base with k := kb, filterCode := fb, minInterval := nb },
                         ethanol := { x.ethanol with k := ke, filterCode := fe, minInterval := ne } })
              .supervisor (.setMeters arm kb ke fb fe mb me) 10 (if nb ≠ mb ∨ ne ≠ me then .adjusted else .accepted)
              (u8 arm ++ u32 kb ++ u32 ke ++ u8 fb ++ u8 fe ++ u16 nb ++ u16 ne)))) ∧
    (s.awaits .supervisor (.readMeters arm) →
      (8 ≤ arm → exec (.readMeters arm) s = .next (s.answered .supervisor (.readMeters arm) 11 .refusedRange [])) ∧
      ∀ a : Arm, a.val = arm →
        exec (.readMeters arm) s =
          .next (State.answered (s.modMeters a fun x => { x with unassignedMl := 0, unassignedUl := 0 })
            .supervisor (.readMeters arm) 11 .accepted
            (let b := (s.meters.get a).base
             let e := (s.meters.get a).ethanol
             u8 arm ++ u32 b.k ++ u32 e.k ++ u8 b.filterCode ++ u8 e.filterCode ++ u16 b.minInterval ++ u16 e.minInterval ++
             u32 b.flowRate ++ u32 e.flowRate ++ u32 (b.lastInterval.getD 0) ++ u32 (e.lastInterval.getD 0) ++
             u32 (s.meters.get a).unassignedMl ++ u16 (s.meters.get a).unassignedUl)))

/-! ### Scan -/

/-- A conversion of channels 0 to 8 (R18, R21 to R23, R27). On any channel, nothing is converted before the 2 ms of its
conversion have passed (R18, R33). That the command before its time has no effect is the model's choice, log entry 4. -/
def Obligations.TemperatureConversion : Prop :=
  ∀ (s : State) (c : Fin 9) (code : BitVec 12),
    (s.scan.remaining ≠ 0 → exec (.scanConversionComplete code) s = .next s) ∧
    (s.scan.remaining = 0 → s.scan.position.val = c.val →
    (s.scan.reference = .fault →
      exec (.scanConversionComplete code) s =
        .next { s with scan := { s.scan with position := s.scan.position + 1, remaining := 200 } }) ∧
    (s.scan.reference = .ok → 40 ≤ code.toNat → code.toNat ≤ 4056 →
      exec (.scanConversionComplete code) s =
        .next { s with scan := { s.scan with
          position := s.scan.position + 1, remaining := 200
          temps := s.scan.temps.put c
            { code := some code.toNat, value := min 600 (((code.toNat / 4 : Nat) : Int) - 400),
              status := if code.toNat ≤ 4003 then .good else .clamped } } }) ∧
    (s.scan.reference = .ok → (code.toNat < 40 ∨ 4056 < code.toNat) →
      exec (.scanConversionComplete code) s =
        .next { s with
          scan := { s.scan with
            position := s.scan.position + 1, remaining := 200
            temps := s.scan.temps.put c { s.scan.temps.get c with code := some code.toNat, status := .held } }
          supervisor := { s.supervisor with
            notices := if (∀ old, (s.scan.temps.get c).code = some old → 40 ≤ old ∧ old ≤ 4056)
              then raiseIn SupNotice.key (.probeFault c) (some 0) s.supervisor.notices
              else s.supervisor.notices } }))

/-- A conversion of channel 9 (R27, R29 to R31), with the revocations of R122 and the grants of R123. -/
def Obligations.PressureConversion : Prop :=
  ∀ (s : State) (code : BitVec 12), s.scan.remaining = 0 → s.scan.position.val = 9 →
    (s.scan.reference = .fault →
      exec (.scanConversionComplete code) s =
        .next { s with scan := { s.scan with position := s.scan.position + 1, remaining := 200 } }) ∧
    (s.scan.reference = .ok →
      ∃ t : State, exec (.scanConversionComplete code) s = .next t ∧
        (let below := decide (code.toNat < s.header.threshold)
         let low := if below then min 2 (s.scan.belowRun + 1) else 0
         let clear := if below then 0 else min 2 (s.scan.clearRun + 1)
         let pressure := if low = 2 then .low else if clear = 2 then .normal else s.scan.pressure
         t.scan = { s.scan with position := s.scan.position + 1, remaining := 200, pressureCode := some code.toNat,
                                belowRun := low, clearRun := clear, pressure := pressure } ∧
         (pressure = s.scan.pressure → t = { s with scan := t.scan }) ∧
         (pressure ≠ s.scan.pressure →
           t.supervisor = { s.supervisor with
             notices := raiseIn SupNotice.key .pressureChanged none s.supervisor.notices } ∧
           t = { s with scan := t.scan, header := t.header, arms := t.arms, supervisor := t.supervisor } ∧
           (pressure = .low →
             t.header = { s.header with holders := [], wait := s.header.armsHolding ++ s.header.wait } ∧
             ∀ a : Arm, t.arms.get a = if s.header.holds a = true
               then (s.arms.get a).mapRecord fun r => { r with acc := { r.acc with closedValve := 0 } }
               else s.arms.get a) ∧
           (pressure = .normal → t.arms = s.arms ∧
             t.header = if s.stop.latch = none then s.header.grantAll else s.header))))

/-- A conversion of channels 10 to 12 (R25, R26, R28). -/
def Obligations.ReferenceConversion : Prop :=
  ∀ (s : State) (i : Fin 3) (code : BitVec 12), s.scan.remaining = 0 → s.scan.position.val = 10 + i.val →
    (let inside := if i = 0 then decide (370 ≤ code.toNat ∧ code.toNat ≤ 450)
       else if i = 1 then decide (2008 ≤ code.toNat ∧ code.toNat ≤ 2088)
       else decide (3646 ≤ code.toNat ∧ code.toNat ≤ 3726)
     let refs := s.scan.refs.put i { code := some code.toNat, inWindow := some inside }
     let notices := raiseIn SupNotice.key .referenceChanged none s.supervisor.notices
     (s.scan.reference = .ok → inside = false →
       exec (.scanConversionComplete code) s =
         .next { s with
           scan := { s.scan with
             position := s.scan.position + 1, remaining := 200, refs := refs, reference := .fault
             belowRun := 0, clearRun := 0
             temps := Bank.tab fun c => { s.scan.temps.get c with status := .held } }
           supervisor := { s.supervisor with notices := notices } }) ∧
     (s.scan.reference = .fault → i = 2 → (∀ j : Fin 3, (refs.get j).inWindow = some true) →
       exec (.scanConversionComplete code) s =
         .next { s with
           scan := { s.scan with position := s.scan.position + 1, remaining := 200, refs := refs, reference := .ok }
           supervisor := { s.supervisor with notices := notices } }) ∧
     ((s.scan.reference = .ok ∧ inside = true) ∨
       (s.scan.reference = .fault ∧ (i ≠ 2 ∨ ¬ ∀ j : Fin 3, (refs.get j).inWindow = some true)) →
       exec (.scanConversionComplete code) s =
         .next { s with scan := { s.scan with position := s.scan.position + 1, remaining := 200, refs := refs } }))

/-! ### Reading requests -/

/-- The requests that only read answer with every field of their rules in its order and width and change nothing else (R32,
R48, R103 to R105, R129, R153, R162, R191). READ LOAD carries the fields of LOAD STATUS, the bill identifier and authorization
time, the whole snapshot, the standard residues and the closed-valve volume, the end time, the four timers and the station
settings (R104). The codes of the enumerated values are in `ReportLayouts`.

These clauses are the model's choice. By log entry 9 (DEDUCED): the stop latch in READ HEADER is sent CLEAR as 0 and SET as 1,
with Table 10-3's code, where R129 names the values as set or clear; READ RECIPE's fields stand in the order of Table 3-1, the
permitted-arm set last; the required flag is sent as 1 for REQUIRED and 0 for OPTIONAL in READ RECIPE and in READ LOAD, as
Table 10-11 has it for DEFINE RECIPE; a stopped timer's remaining time is sent absent and an expired one's as 0; READ UNIT's
low mark is sent as 0 for set and 1 for clear, a valve as 0 for open and 1 for closed, a stop input's enable as 0 for enabled
and 1 for disabled, and a reference channel's result as 0 for IN and 1 for OUT. By log entry 10 (DEDUCED): READ LOAD's end
time is sent absent, as 4,294,967,295, outside COMPLETE, where R104 names the end time in COMPLETE alone; READ UNIT's reply
does not carry the unit number; and the replies to a number out of range and to an empty summary carry no field. -/
def Obligations.ReadsChangeNothing : Prop :=
  ∀ s : State,
    let armsOf (l : List Arm) : List Byte := u8 l.length ++ l.flatMap fun a => u8 a.val
    let latch : List Byte := if s.stop.latch = none then [0] else [1]
    let summary (f : FinalFigures) : List Byte :=
      u16 f.number ++ u8 f.bill.length ++ f.bill ++ u8 f.entry.val ++ u8 f.revision ++ u16 f.code ++ u32 f.preset ++
      u32 f.baseGross ++ u32 f.ethGross ++ u32 f.totalGross ++ u32 f.baseStd ++ u32 f.ethStd ++ u32 f.totalStd ++
      u16 f.finalRatio ++ u8 f.items.length ++
      f.items.flatMap (fun i => u8 i.unit.val ++ u32 i.delivered ++ u16 i.shots) ++
      u16 f.flags.word ++ u8 (haltCodeOf f.haltReason) ++ u32 f.authTime.toNat ++ u32 f.endTime.toNat
    (s.awaits .supervisor .readScan →
      exec .readScan s = .next (s.answered .supervisor .readScan 15 .accepted
        (u8 (refStateCode s.scan.reference) ++ u8 (pressureCode s.scan.pressure) ++ u16 s.header.threshold ++
         (List.finRange 9).flatMap (fun c =>
           u16 ((s.scan.temps.get c).code.getD 65535) ++ i16 (s.scan.temps.get c).value ++
           u8 (tempStatusCode (s.scan.temps.get c).status)) ++
         u16 (s.scan.pressureCode.getD 65535) ++ u8 s.scan.belowRun ++ u8 s.scan.clearRun ++
         (List.finRange 3).flatMap fun i =>
           u16 ((s.scan.refs.get i).code.getD 65535) ++
           u8 ((s.scan.refs.get i).inWindow.elim 255 fun inside => if inside = true then 0 else 1)))) ∧
    (s.awaits .supervisor .readHeader →
      exec .readHeader s = .next (s.answered .supervisor .readHeader 41 .accepted
        (u8 s.header.slots ++ u16 s.header.hold ++ u8 s.header.flowTimeout ++ u16 s.header.alpha ++ u16 s.header.threshold ++
         u8 (pressureCode s.scan.pressure) ++ latch ++
         u8 s.header.holders.length ++
         s.header.holders.flatMap (fun x =>
           u8 x.arm.val ++ u16 ((x.hold + 99999) / 100000) ++ u8 ((x.flow + 99999) / 100000)) ++
         armsOf s.header.wait ++ (List.finRange 8).flatMap fun a => if s.header.holds a = true then [0] else [1]))) ∧
    (s.awaits .supervisor .readStation →
      exec .readStation s = .next (s.answered .supervisor .readStation 2 .accepted
        (u8 s.address.toNat ++ u32 s.clock.toNat ++ latch ++
         u8 (s.stop.latch.elim 255 fun h => stopCauseCode h.cause) ++ u32 (s.stop.latch.elim 0 fun h => h.time.toNat) ++
         (List.finRange 4).flatMap (fun i =>
           (if (s.stop.inputs.get i).accepted = true then [1] else [0]) ++
           (if (s.stop.inputs.get i).enabled = true then [0] else [1])) ++
         u8 (refStateCode s.scan.reference) ++ u8 (pressureCode s.scan.pressure) ++
         armsOf (s.header.holders.map Holder.arm) ++ armsOf s.header.wait ++
         (List.finRange 4).flatMap (fun u => u8 (unitStateCode (s.units.get u).state) ++ u32 (s.units.get u).inventory) ++
         u8 s.records.records.length ++ armsOf s.records.wait ++
         (List.finRange 8).flatMap fun a => u8 (occupancyCode (s.arms.get a).occ)))) ∧
    (∀ n : Nat, s.awaits .supervisor (.readRecipe n) →
      (32 ≤ n → exec (.readRecipe n) s = .next (s.answered .supervisor (.readRecipe n) 22 .refusedRange [])) ∧
      ∀ e : EntryNo, e.val = n →
        exec (.readRecipe n) s =
          .next (s.answered .supervisor (.readRecipe n) 22 .accepted
            (let x := s.recipes.get e
             u8 n ++ u8 (entryStateCode x.state) ++ u8 x.revision ++ u8 x.refCount ++ u16 x.code ++ u16 x.ratio ++
             u16 x.tolerance ++ u16 x.alpha ++ u16 x.flush ++ u16 x.step ++ u32 x.restrict ++ u32 x.hard ++
             u8 x.items.length ++
             x.items.flatMap (fun i => u8 i.unit.val ++ u16 i.rate ++ (if i.required = true then [1] else [0])) ++
             u8 x.permitted.toNat))) ∧
    (∀ n : Nat, s.awaits .supervisor (.readUnit n) →
      (4 ≤ n → exec (.readUnit n) s = .next (s.answered .supervisor (.readUnit n) 54 .refusedRange [])) ∧
      ∀ u : UnitNo, u.val = n →
        exec (.readUnit n) s = .next (s.answered .supervisor (.readUnit n) 54 .accepted
          (let x := s.units.get u
           u8 (unitStateCode x.state) ++ u8 x.shot ++ u32 x.low ++ u16 x.strokeTimeout ++ u16 x.settle ++ u32 x.inventory ++
           (if x.lowMark = true then [0] else [1]) ++ u8 x.failures ++ u8 (x.route.elim 255 Fin.val) ++
           u8 (x.inFlight.elim 255 Fin.val) ++ armsOf x.queue ++ u32 x.confirmed ++ u32 x.failed ++ u32 x.stray))) ∧
    (s.awaits .supervisor .readRecord →
      (s.records.records = [] →
        exec .readRecord s =
          .next (s.answered .supervisor .readRecord 60 .queueEmpty (u8 0 ++ u8 s.records.wait.length))) ∧
      ∀ d rest, s.records.records = d :: rest →
        exec .readRecord s = .next (s.answered .supervisor .readRecord 60 .accepted
          (u8 (rest.length + 1) ++ u8 s.records.wait.length ++ d.report))) ∧
    (∀ a : Arm, s.awaits (.arm a) (.loadStatus a) →
      (s.record a = none →
        exec (.loadStatus a) s =
          .next (s.answered (.arm a) (.loadStatus a) 5 .noLoad (u8 (occupancyCode (s.arms.get a).occ)))) ∧
      ∀ r, s.record a = some r →
        exec (.loadStatus a) s = .next (s.answered (.arm a) (.loadStatus a) 5 .accepted (s.loadReport a r))) ∧
    (∀ (n : Nat), s.awaits .supervisor (.readLoad n) →
      (8 ≤ n → exec (.readLoad n) s = .next (s.answered .supervisor (.readLoad n) 32 .refusedRange [])) ∧
      ∀ a : Arm, a.val = n →
        let settings := u16 s.settings.noFlow ++ u8 s.settings.linkSilence ++ u16 s.settings.window ++
          u8 s.settings.settle ++ u16 s.settings.allowance
        let timer (absent : List Byte) (field : Nat → List Byte) (x : Timer) : List Byte :=
          match x with
          | .stopped => 0 :: absent
          | .running ticks => 1 :: field ((ticks + 99999) / 100000)
          | .expired => 2 :: field 0
        let c := s.arms.get a
        (s.record a = none →
          exec (.readLoad n) s = .next (s.answered .supervisor (.readLoad n) 32 .noLoad
            (u8 (occupancyCode c.occ) ++ settings))) ∧
        ∀ r, s.record a = some r →
          exec (.readLoad n) s = .next (s.answered .supervisor (.readLoad n) 32 .accepted
            (s.loadReport a r ++ u8 r.bill.length ++ r.bill ++ u32 r.authTime.toNat ++
             (u8 r.snap.entry.val ++ u8 r.snap.revision ++ u16 r.snap.code ++ u16 r.snap.ratio ++ u16 r.snap.tolerance ++
              u16 r.snap.alpha ++ u16 r.snap.flush ++ u16 r.snap.step ++ u32 r.snap.restrict ++ u32 r.snap.hard ++
              u8 r.items.length ++
              r.items.flatMap fun i => u8 i.unit.val ++ u16 i.rate ++ (if i.required = true then [1] else [0])) ++
             u32 r.acc.baseStdRes ++ u32 r.acc.ethStdRes ++ u32 r.acc.closedValve ++
             u32 (r.endTime.elim 4294967295 BitVec.toNat) ++
             timer [255, 255] u16 c.noFlow ++ timer [255] u8 c.linkSilence ++ timer [255, 255] u16 c.window ++
             timer [255] u8 c.settle ++ settings))) ∧
    (∀ a : Arm, s.awaits (.arm a) (.lastSummaryArm a) →
      ((s.arms.get a).lastSummary = none →
        exec (.lastSummaryArm a) s = .next (s.answered (.arm a) (.lastSummaryArm a) 6 .noLoad [])) ∧
      ∀ f, (s.arms.get a).lastSummary = some f →
        exec (.lastSummaryArm a) s = .next (s.answered (.arm a) (.lastSummaryArm a) 6 .accepted (summary f))) ∧
    (∀ n : Nat, s.awaits .supervisor (.lastSummarySupervisor n) →
      (8 ≤ n → exec (.lastSummarySupervisor n) s =
        .next (s.answered .supervisor (.lastSummarySupervisor n) 34 .refusedRange [])) ∧
      ∀ a : Arm, a.val = n →
        ((s.arms.get a).lastSummary = none →
          exec (.lastSummarySupervisor n) s =
            .next (s.answered .supervisor (.lastSummarySupervisor n) 34 .noLoad [])) ∧
        ∀ f, (s.arms.get a).lastSummary = some f →
          exec (.lastSummarySupervisor n) s =
            .next (s.answered .supervisor (.lastSummarySupervisor n) 34 .accepted (summary f)))

/-- The LOAD STATUS reply body is 62 + 13n characters and the READ RECORD reply body 74 + 7n, and each field of their tables
stands at the position the table gives (Table 10-10, the READ RECORD layout of 10.9). The positions here count from the
fields: after type and reply code for LOAD STATUS, and after the two counts for READ RECORD, whose bill identifier has its
unused places 0. Where a load has no final ratio yet, 0 is sent. With them stand the widths and the signs of numbers (R193),
the reply codes (Table 10-2), the codes of enumerated values (R193, Tables 10-4, 10-10 and 10-12) and the flag set's bits
(Table 10-13). The pause cause's codes in PAUSE's reply are log entry 9. -/
def Obligations.ReportLayouts : Prop :=
  (∀ (s : State) (a : Arm) (r : LoadRecord),
    let body := s.loadReport a r
    let at' (position : Nat) (field : List Byte) : Prop := (body.drop (position - 2)).take field.length = field
    body.length = 60 + 13 * r.items.length ∧
    at' 2 (u8 (occupancyCode (s.arms.get a).occ)) ∧ at' 3 (u8 (pauseCode r.phase)) ∧
    at' 4 (u8 (haltCodeOf r.haltReason)) ∧ at' 5 (u16 r.number) ∧ at' 7 (u8 r.snap.entry.val) ∧
    at' 8 (u8 r.snap.revision) ∧ at' 9 (u16 r.snap.code) ∧ at' 11 (u32 r.preset) ∧ at' 15 (u32 r.acc.baseGross) ∧
    at' 19 (u16 (s.meter a .base).residue) ∧ at' 21 (u32 r.acc.ethGross) ∧
    at' 25 (u16 (s.meter a .ethanol).residue) ∧ at' 27 (u32 r.acc.totalGross) ∧ at' 31 (u32 r.acc.baseStd) ∧
    at' 35 (u32 r.acc.ethStd) ∧ at' 39 (u32 r.acc.totalStd) ∧ at' 43 (i32 r.acc.owed) ∧
    at' 47 (if r.acc.restrictOn = true then [1] else [0]) ∧
    at' 48 (if s.header.holds a = true then [2] else if s.header.waits a = true then [1] else [0]) ∧
    at' 49 (u32 (s.meter a .base).flowRate) ∧ at' 53 (u32 (s.meter a .ethanol).flowRate) ∧ at' 57 (u16 r.flags.word) ∧
    at' 59 (u16 (r.finalRatio.getD 0)) ∧ at' 61 (u8 r.items.length) ∧
    ∀ (k : Nat) (i : LoadItem), r.items[k]? = some i →
      at' (62 + 13 * k) (u8 i.unit.val ++ u32 i.delivered ++ u16 i.shots ++ i32 i.owed ++
        (if i.short = true then [1] else [0]) ++ (if i.finalShot = true then [1] else [0]))) ∧
  (∀ d : DeliveryRecord, d.figures.bill.length ≤ 16 →
    let f := d.figures
    let at' (position : Nat) (field : List Byte) : Prop := (d.report.drop (position - 4)).take field.length = field
    d.report.length = 70 + 7 * f.items.length ∧
    at' 4 (u16 f.number) ∧ at' 6 (u8 d.arm.val) ∧ at' 7 (u8 f.entry.val) ∧ at' 8 (u8 f.revision) ∧ at' 9 (u16 f.code) ∧
    at' 11 (u8 f.bill.length) ∧ at' 12 (f.bill ++ List.replicate (16 - f.bill.length) 0) ∧ at' 28 (u32 f.preset) ∧
    at' 32 (u32 f.baseGross) ∧ at' 36 (u16 d.baseResidue) ∧ at' 38 (u32 f.ethGross) ∧ at' 42 (u16 d.ethResidue) ∧
    at' 44 (u32 f.totalGross) ∧ at' 48 (u32 f.baseStd) ∧ at' 52 (u32 f.ethStd) ∧ at' 56 (u32 f.totalStd) ∧
    at' 60 (u16 f.finalRatio) ∧ at' 62 (u16 f.flags.word) ∧ at' 64 (u8 (haltCodeOf f.haltReason)) ∧
    at' 65 (u32 f.authTime.toNat) ∧ at' 69 (u32 f.endTime.toNat) ∧ at' 73 (u8 f.items.length) ∧
    ∀ (k : Nat) (i : SummaryItem), f.items[k]? = some i →
      at' (74 + 7 * k) (u8 i.unit.val ++ u32 i.delivered ++ u16 i.shots)) ∧
  (∀ n : Nat, u8 n = [BitVec.ofNat 8 n] ∧ u16 n = u8 (n / 256) ++ u8 n ∧ u32 n = u16 (n / 65536) ++ u16 n) ∧
  (∀ x : Int, i16 x = u16 (x % 65536).toNat ∧ i32 x = u32 (x % 4294967296).toNat) ∧
  [ReplyCode.accepted, .adjusted, .refusedState, .refusedRange, .unknownRequest, .noRecipe, .notPermitted,
    .additiveUnavailable, .recordPending, .terminalStopped, .inUse, .queueEmpty, .mismatch, .notConfigured, .duplicateCode,
    .stopActive, .noNotice, .noLoad].map replyCodeNumber = List.range 18 ∧
  (∀ r : LoadRecord, occupancyCode .outOfService = 0 ∧ occupancyCode .idle = 1 ∧
    [Phase.authorized, .flowing, .paused .driver, .flush, .halted, .finishing, .complete].map
      (fun p => occupancyCode (.loaded { r with phase := p })) = [2, 3, 4, 5, 6, 7, 8] ∧
    occupancyCode (.loaded { r with phase := .paused .noFlow }) = 4) ∧
  [Phase.paused .driver, .paused .noFlow, .authorized, .flowing, .flush, .halted, .finishing, .complete].map pauseCode =
    [1, 2, 0, 0, 0, 0, 0, 0] ∧
  haltCodeOf none = 0 ∧ (∀ x, haltCodeOf (some x) = haltCode x) ∧
  [HaltReason.underBlend, .overBlend, .overCapacity, .presetOverrun, .ethanolNoFlow, .additiveLost 0, .additiveLost 1,
    .additiveLost 2, .additiveLost 3, .terminalStop, .linkSilent].map haltCode = (List.range 11).map (· + 1) ∧
  [TempStatus.good, .clamped, .held].map tempStatusCode = [0, 1, 2] ∧ [RefState.ok, .fault].map refStateCode = [0, 1] ∧
  [PressureState.normal, .low].map pressureCode = [0, 1] ∧
  [EntryState.empty, .active, .withdrawn].map entryStateCode = [0, 1, 2] ∧
  [UnitState.offline, .ready, .routing, .stroking, .faulted, .empty].map unitStateCode = [0, 1, 2, 3, 4, 5] ∧
  [StopCause.input 0, .input 1, .input 2, .input 3, .supervisor].map stopCauseCode = [0, 1, 2, 3, 4] ∧
  ∀ f : ExceptionFlags,
    let bit (i : Nat) (b : Bool) : Nat := if b = true then 2 ^ i else 0
    f.word = bit 0 f.tempHeld + bit 1 f.overspeedBase + bit 2 f.overspeedEth + bit 3 f.ethWhileClosed +
      bit 4 (f.additiveShort.get 0) + bit 5 (f.additiveShort.get 1) + bit 6 (f.additiveShort.get 2) +
      bit 7 (f.additiveShort.get 3) + bit 8 f.offRatio + bit 9 f.expired + bit 10 f.aborted

/-! ### Recipes -/

/-- DEFINE RECIPE by its four checks (R38, R39, R40) and WITHDRAW RECIPE by its two (R42). That the refusals of WITHDRAW
RECIPE carry no field, and those of DEFINE RECIPE the entry number alone, is log entry 10. -/
def Obligations.RecipeRequests : Prop :=
  ∀ (s : State) (f : RecipeFields) (n : Nat),
    (s.awaits .supervisor (.defineRecipe f) →
      (32 ≤ f.entry → exec (.defineRecipe f) s =
        .next (s.answered .supervisor (.defineRecipe f) 20 .refusedRange (u8 f.entry))) ∧
      ∀ e : EntryNo, e.val = f.entry →
        let other := ∃ j : EntryNo, j ≠ e ∧ (s.recipes.get j).state = .active ∧ (s.recipes.get j).code = f.code
        let inRange := 1 ≤ f.code ∧ f.code ≤ 65535 ∧ f.ratio ≤ 8500 ∧ 5 ≤ f.tolerance ∧ f.tolerance ≤ 500 ∧
          f.alpha ≤ 2000 ∧ f.flush ≤ 500 ∧ 100 ≤ f.step ∧ f.step ≤ 20000 ∧ 1000 ≤ f.restrict ∧ f.restrict ≤ 100000 ∧
          2000 ≤ f.hard ∧ f.hard ≤ 200000 ∧ f.items.length ≤ 4 ∧
          (∀ i ∈ f.items, i.unit ≤ 3 ∧ 1 ≤ i.rate ∧ i.rate ≤ 5000 ∧ i.required ≤ 1) ∧
          1 ≤ f.permitted ∧ f.permitted ≤ 255 ∧ (f.items.map AdditiveField.unit).Nodup ∧
          f.step < f.restrict ∧ f.restrict < f.hard
        ((s.recipes.get e).state ≠ .empty →
          exec (.defineRecipe f) s = .next (s.answered .supervisor (.defineRecipe f) 20 .inUse (u8 f.entry))) ∧
        ((s.recipes.get e).state = .empty → ¬ inRange →
          exec (.defineRecipe f) s = .next (s.answered .supervisor (.defineRecipe f) 20 .refusedRange (u8 f.entry))) ∧
        ((s.recipes.get e).state = .empty → inRange → other →
          exec (.defineRecipe f) s = .next (s.answered .supervisor (.defineRecipe f) 20 .duplicateCode (u8 f.entry))) ∧
        ((s.recipes.get e).state = .empty → inRange → ¬ other →
          let revision := if (s.recipes.get e).revision < 255 then (s.recipes.get e).revision + 1 else 1
          exec (.defineRecipe f) s =
            .next (State.answered
              { s with
                recipes := s.recipes.put e
                  { state := .active, revision := revision, refCount := 0, code := f.code, ratio := f.ratio,
                    tolerance := f.tolerance, alpha := f.alpha, flush := f.flush, step := f.step, restrict := f.restrict,
                    hard := f.hard, permitted := BitVec.ofNat 8 f.permitted
                    items := f.items.map fun i =>
                      { unit := Fin.ofNat 4 i.unit, rate := i.rate, required := decide (i.required = 1) } } }
              .supervisor (.defineRecipe f) 20 .accepted (u8 f.entry ++ u8 revision)))) ∧
    (s.awaits .supervisor (.withdrawRecipe n) →
      (32 ≤ n → exec (.withdrawRecipe n) s =
        .next (s.answered .supervisor (.withdrawRecipe n) 21 .refusedRange [])) ∧
      ∀ e : EntryNo, e.val = n →
        ((s.recipes.get e).state ≠ .active →
          exec (.withdrawRecipe n) s = .next (s.answered .supervisor (.withdrawRecipe n) 21 .refusedState [])) ∧
        ((s.recipes.get e).state = .active →
          let left := if (s.recipes.get e).refCount = 0 then EntryState.empty else .withdrawn
          exec (.withdrawRecipe n) s =
            .next (State.answered { s with recipes := s.recipes.put e { s.recipes.get e with state := left } }
              .supervisor (.withdrawRecipe n) 21 .accepted
              (u8 n ++ u8 (entryStateCode left) ++ u8 (s.recipes.get e).refCount))))

/-! ### Loads -/

/-- SET ARM SERVICE by Table 5-2 (R73). That the reply out of range carries neither arm nor arm state is log entry 10. -/
def Obligations.ArmServiceByTable : Prop :=
  ∀ (s : State) (arm service : Nat), s.awaits .supervisor (.setArmService arm service) →
    (8 ≤ arm ∨ 2 ≤ service →
      exec (.setArmService arm service) s =
        .next (s.answered .supervisor (.setArmService arm service) 30 .refusedRange [])) ∧
    ∀ a : Arm, a.val = arm →
      let stays (code : ReplyCode) : Host.Outcome State Fault Refusal :=
        .next (s.answered .supervisor (.setArmService arm service) 30 code
          (u8 arm ++ u8 (occupancyCode (s.arms.get a).occ)))
      let becomes (o : Occupancy) : Host.Outcome State Fault Refusal :=
        .next (State.answered (s.modArm a fun c => { c with occ := o }) .supervisor (.setArmService arm service) 30
          .accepted (u8 arm ++ u8 (occupancyCode o)))
      (service = 0 → (s.arms.get a).occ = .outOfService →
        (s.meter a .base).k ≠ 0 ∧ (s.meter a .ethanol).k ≠ 0 → exec (.setArmService arm service) s = becomes .idle) ∧
      (service = 0 → (s.arms.get a).occ = .outOfService →
        (s.meter a .base).k = 0 ∨ (s.meter a .ethanol).k = 0 →
        exec (.setArmService arm service) s = stays .notConfigured) ∧
      (service = 0 → (s.arms.get a).occ ≠ .outOfService → exec (.setArmService arm service) s = stays .accepted) ∧
      (service = 1 → (s.arms.get a).occ = .outOfService → exec (.setArmService arm service) s = stays .accepted) ∧
      (service = 1 → (s.arms.get a).occ = .idle → exec (.setArmService arm service) s = becomes .outOfService) ∧
      (∀ r, service = 1 → (s.arms.get a).occ = .loaded r → exec (.setArmService arm service) s = stays .inUse)

/-- AUTHORIZE refused: the first failing of the eight checks names the reply, the reply carries the code alone, and nothing
changes (R85). -/
def Obligations.AuthorizeChecksInOrder : Prop :=
  ∀ (s : State) (a : Arm) (code preset : Nat) (bill : List Byte), s.awaits (.arm a) (.authorize a code preset bill) →
    let refused (x : ReplyCode) : Prop :=
      exec (.authorize a code preset bill) s = .next (s.answered (.arm a) (.authorize a code preset bill) 1 x [])
    let carries (e : EntryNo) : Prop := (s.recipes.get e).state = .active ∧ (s.recipes.get e).code = code
    (s.stop.latch ≠ none → refused .terminalStopped) ∧
    (s.stop.latch = none → (s.arms.get a).occ = .outOfService → refused .notConfigured) ∧
    (s.stop.latch = none → s.phase a = some .complete → refused .recordPending) ∧
    (∀ r, s.stop.latch = none → s.record a = some r → r.phase ≠ .complete → refused .refusedState) ∧
    (s.stop.latch = none → (s.arms.get a).occ = .idle →
      ((∀ e, ¬ carries e) → refused .noRecipe) ∧
      ∀ e, carries e → (∀ i, carries i → i = e) →
        ((s.recipes.get e).permitted.getLsbD a.val = false → refused .notPermitted) ∧
        ((s.recipes.get e).permitted.getLsbD a.val = true →
          let fits := 1 ≤ preset ∧ preset ≤ 99000 ∧ 2 * (s.recipes.get e).flush ≤ preset ∧
            ∀ c ∈ bill, 32 ≤ c.toNat ∧ c.toNat ≤ 126
          let lost := ∃ i ∈ (s.recipes.get e).items, i.required = true ∧
            ((s.units.get i.unit).state = .offline ∨ (s.units.get i.unit).state = .faulted ∨
              (s.units.get i.unit).state = .empty)
          (¬ fits → refused .refusedRange) ∧ (fits → lost → refused .additiveUnavailable)))

/-- AUTHORIZE accepted: the load record, the counts, the residues, the two timers and the permissive (R10, R45, R46, R50, R83,
R86). -/
def Obligations.AuthorizeCreatesTheLoad : Prop :=
  ∀ (s : State) (a : Arm) (e : EntryNo) (preset : Nat) (bill : List Byte),
    let code := (s.recipes.get e).code
    s.awaits (.arm a) (.authorize a code preset bill) → s.stop.latch = none → (s.arms.get a).occ = .idle →
    (s.recipes.get e).state = .active →
    (∀ i, (s.recipes.get i).state = .active → (s.recipes.get i).code = code → i = e) →
    (s.recipes.get e).permitted.getLsbD a.val = true → 1 ≤ preset → preset ≤ 99000 →
    2 * (s.recipes.get e).flush ≤ preset → (∀ c ∈ bill, 32 ≤ c.toNat ∧ c.toNat ≤ 126) →
    (∀ i ∈ (s.recipes.get e).items, i.required = true →
      (s.units.get i.unit).state = .ready ∨ (s.units.get i.unit).state = .routing ∨
        (s.units.get i.unit).state = .stroking) →
    ∃ (t : State) (r : LoadRecord), exec (.authorize a code preset bill) s = .next
        (t.answered (.arm a) (.authorize a code preset bill) 1 .accepted
          (u16 r.number ++ u8 e.val ++ u8 (s.recipes.get e).revision)) ∧
      t = { s with
        records := { s.records with nextNumber := if r.number < 65535 then r.number + 1 else 1 }
        recipes := s.recipes.upd e fun x => { x with refCount := x.refCount + 1 }
        meters := s.meters.upd a fun x =>
          { x with base := { x.base with residue := 0 }, ethanol := { x.ethanol with residue := 0 } }
        arms := s.arms.upd a fun c =>
          { c with occ := .loaded r, window := .running (s.settings.window * 100000),
                   linkSilence := .running (s.settings.linkSilence * 100000) } } ∧
      r.number = s.loadNumber ∧ r.bill = bill ∧ r.preset = preset ∧ r.authTime = s.clock ∧ r.phase = .authorized ∧
      r.haltReason = none ∧ r.acc = Accounts.zero ∧ r.flags = ExceptionFlags.clear ∧ r.stopHalt = false ∧
      r.lostHalts = [] ∧ t.permissive a = true ∧ r.snap = (s.recipes.get e).snapshot e ∧
      r.items = (s.recipes.get e).items.map fun i =>
        { unit := i.unit, rate := i.rate, required := i.required, delivered := 0, shots := 0, owed := 0, short := false,
          finalShot := false }

/-- PAUSE and RESUME by the arm state (R76, R77, R88, R89). From FLOWING a PAUSE takes the arm out of the header, with the
grants that follow and the closed valve, and out of every shot queue (R114, R115, R117, R134; `State.pausedBy`). The code of
the pause cause in PAUSE's reply, 1 for DRIVER and 0 for none, is that of Table 10-10, the model's reading: log entry 9. -/
def Obligations.PauseAndResumeByState : Prop :=
  ∀ (s : State) (a : Arm),
    (s.awaits (.arm a) (.pause a) →
      (s.phase a = none → exec (.pause a) s = .next
        (s.answered (.arm a) (.pause a) 2 .noLoad (u8 (occupancyCode (s.arms.get a).occ) ++ u8 0))) ∧
      (s.phase a = some (.paused .driver) →
        exec (.pause a) s = .next (s.answered (.arm a) (.pause a) 2 .accepted [4, 1])) ∧
      (s.phase a = some (.paused .noFlow) → exec (.pause a) s = .next
        (State.answered (s.modRecord a fun r => { r with phase := .paused .driver }) (.arm a) (.pause a) 2 .accepted
          [4, 1])) ∧
      (∀ r, s.record a = some r → r.phase = .flowing → exec (.pause a) s =
        .next ((s.pausedBy a r .driver).answered (.arm a) (.pause a) 2 .accepted [4, 1])) ∧
      (s.headerLaw → s.phase a = some .flowing → (s.headerLeft a).holds a = false ∧ (s.headerLeft a).waits a = false) ∧
      (∀ p, s.phase a = some p → p = .authorized ∨ p = .flush ∨ p = .halted ∨ p = .finishing ∨ p = .complete →
        exec (.pause a) s = .next
          (s.answered (.arm a) (.pause a) 2 .refusedState (u8 (occupancyCode (s.arms.get a).occ) ++ u8 0)))) ∧
    (s.awaits (.arm a) (.resume a) →
      (s.phase a = none → exec (.resume a) s = .next
        (s.answered (.arm a) (.resume a) 3 .noLoad (u8 (occupancyCode (s.arms.get a).occ)))) ∧
      (s.phase a = some .flowing → exec (.resume a) s = .next (s.answered (.arm a) (.resume a) 3 .accepted [3])) ∧
      (∀ c, s.phase a = some (.paused c) → exec (.resume a) s = .next
        (State.answered
          (s.modArm a fun x =>
            { x with occ := x.occ.mapRecord fun r => { r with phase := .flowing }, window := .stopped,
                     noFlow := .running (s.settings.noFlow * 100000) })
          (.arm a) (.resume a) 3 .accepted [3])) ∧
      (∀ p, s.phase a = some p → p = .authorized ∨ p = .flush ∨ p = .halted ∨ p = .finishing ∨ p = .complete →
        exec (.resume a) s = .next
          (s.answered (.arm a) (.resume a) 3 .refusedState (u8 (occupancyCode (s.arms.get a).occ)))))

/-- END by the arm state (R80, R90, R91, R135): from AUTHORIZED, FLOWING, PAUSED, FLUSH and HALTED the load enters FINISHING,
out of the header with the grants that follow, with its closed valve and RESTRICT_CHANGED (R84, R114 to R117;
`State.finishing`). From FLOWING, PAUSED and FLUSH each item that passes the test of R91 gets its final-shot mark and its
place in the unit's queue, its stroke at once where the unit is READY, or the mark alone where a stroke for the arm is in
flight; an item that fails it is left as it is. From AUTHORIZED and HALTED no item gets anything. What the NO_LOAD reply
carries is log entry 10. -/
def Obligations.EndEntersFinishing : Prop :=
  ∀ (s : State) (a : Arm), s.unitLaw → s.itemLaw → s.awaits (.arm a) (.endLoad a) →
    (s.record a = none → exec (.endLoad a) s = .next
      (s.answered (.arm a) (.endLoad a) 4 .noLoad (u16 65535 ++ u8 (occupancyCode (s.arms.get a).occ)))) ∧
    (∀ r, s.record a = some r → r.phase = .finishing ∨ r.phase = .complete → exec (.endLoad a) s = .next
      (s.answered (.arm a) (.endLoad a) 4 .refusedState (u16 r.number ++ u8 (occupancyCode (s.arms.get a).occ)))) ∧
    (∀ r, s.record a = some r → r.phase ≠ .finishing → r.phase ≠ .complete → ∃ (t : State) (q : LoadRecord),
      exec (.endLoad a) s = .next (t.answered (.arm a) (.endLoad a) 4 .accepted (u16 r.number ++ u8 7)) ∧
      t = { s.finishing a { r with items := q.items } with units := t.units } ∧ t.record a = some q ∧
      (let left (u : UnitNo) : List Arm := (s.units.get u).queue.filter fun b => b ≠ a
       (r.phase = .authorized ∨ r.phase = .halted →
         q.items = r.items ∧ ∀ u : UnitNo, t.units.get u = { s.units.get u with queue := left u }) ∧
       (r.phase = .flowing ∨ r.phase.isPaused = true ∨ r.phase = .flush →
         q.items.map (fun i => { i with finalShot := false }) = r.items.map (fun i => { i with finalShot := false }) ∧
         (∀ u : UnitNo, (∀ i ∈ r.items, i.unit ≠ u) → t.units.get u = { s.units.get u with queue := left u }) ∧
         ∀ i ∈ r.items,
           let x := s.units.get i.unit
           let passes := i.short = false ∧ (x.state = .ready ∨ x.state = .routing ∨ x.state = .stroking) ∧
             (((x.shot + 1) / 2 : Nat) : Int) ≤ i.owed - (if x.inFlight = some a then (x.shot : Int) else 0)
           (¬ passes → i ∈ q.items ∧ t.units.get i.unit = { x with queue := left i.unit }) ∧
           (passes → x.inFlight = some a →
             { i with finalShot := true } ∈ q.items ∧ t.units.get i.unit = { x with queue := left i.unit }) ∧
           (passes → x.inFlight ≠ some a → x.state ≠ .ready →
             { i with finalShot := true } ∈ q.items ∧ t.units.get i.unit = { x with queue := left i.unit ++ [a] }) ∧
           (passes → x.state = .ready →
             { i with finalShot := false } ∈ q.items ∧ (t.units.get i.unit).inFlight = some a ∧
             t.units.get i.unit = AdditiveUnit.headTaken { x with queue := [a] }))))

/-- ABORT LOAD by its three checks, from the states that enter FINISHING (`State.finishing`), and in FINISHING, where the
clearing of a mark can let the load enter COMPLETE at the same event (R80, R81, R93, 5.12). That its refusals carry no field
is log entry 10. -/
def Obligations.AbortLoadByChecks : Prop :=
  ∀ (s : State) (arm number : Nat), s.awaits .supervisor (.abortLoad arm number) →
    let refused (x : ReplyCode) : Prop :=
      exec (.abortLoad arm number) s = .next (s.answered .supervisor (.abortLoad arm number) 31 x [])
    (8 ≤ arm → refused .refusedRange) ∧
    ∀ a : Arm, a.val = arm →
      (s.record a = none ∨ s.phase a = some .complete → refused .refusedState) ∧
      (∀ r, s.record a = some r → r.phase ≠ .complete → number ≠ r.number → refused .mismatch) ∧
      (∀ r, s.record a = some r → r.phase ≠ .complete → r.phase ≠ .finishing → number = r.number →
        exec (.abortLoad arm number) s = .next
          ((s.finishing a { r with flags := { r.flags with aborted := true } }).answered .supervisor
            (.abortLoad arm number) 31 .accepted (u8 arm ++ u16 number ++ u8 7))) ∧
      ∀ r, s.record a = some r → r.phase = .finishing → number = r.number →
        let q : LoadRecord := { r with
          flags := { r.flags with aborted := true }, items := r.items.map fun i => { i with finalShot := false } }
        let left : State := { s with units := s.queuesLeft a }
        let completes := (s.arms.get a).settle = .expired ∧ (∃ i ∈ r.items, i.finalShot = true) ∧
          ∀ u : UnitNo, (s.units.get u).inFlight ≠ some a
        (¬ completes → exec (.abortLoad arm number) s = .next
          (State.answered { left with arms := s.arms.upd a fun c => { c with occ := .loaded q } }
            .supervisor (.abortLoad arm number) 31 .accepted (u8 arm ++ u16 number ++ u8 7))) ∧
        (completes → exec (.abortLoad arm number) s = .next
          ((left.completed a q).answered .supervisor (.abortLoad arm number) 31 .accepted
            (u8 arm ++ u16 number ++ u8 (if s.records.records.length < 32 then 1 else 8))))

/-- The expiries of the no-flow, link-silence and authorization-window timers (R98 to R100): the load is PAUSED with cause
NO_FLOW, HALTED with LINK_SILENT, or in FINISHING with EXPIRED, out of the header and the shot queues, with the notices that
each brings (`State.pausedBy`, `State.haltedBy`, `State.finishing`). A timer that does not run, or that has time left because
a stop or a retrigger was taken first, does not expire (R97). -/
def Obligations.ArmTimersExpire : Prop :=
  ∀ (s : State) (a : Arm) (r : LoadRecord), s.record a = some r →
    ((s.arms.get a).noFlow ≠ .running 0 → exec (.noFlowExpiry a) s = .next s) ∧
    ((s.arms.get a).linkSilence ≠ .running 0 → exec (.linkSilenceExpiry a) s = .next s) ∧
    ((s.arms.get a).window ≠ .running 0 → exec (.authorizationWindowExpiry a) s = .next s) ∧
    ((s.arms.get a).noFlow = .running 0 → r.phase = .flowing →
      exec (.noFlowExpiry a) s = .next (s.pausedBy a r .noFlow)) ∧
    ((s.arms.get a).linkSilence = .running 0 → r.phase.haltable = true → r.haltReason = none →
      exec (.linkSilenceExpiry a) s = .next (s.haltedBy a r .linkSilent)) ∧
    ((s.arms.get a).window = .running 0 → r.phase = .authorized →
      exec (.authorizationWindowExpiry a) s =
        .next (s.finishing a { r with flags := { r.flags with expired := true } }))

/-- The settle expiry (R81, R101): the load waits while a stroke is in flight or a mark is set, and enters COMPLETE otherwise,
with its final ratio, OFF_RATIO and ADDITIVE_SHORT, its last summary, LOAD_COMPLETE, and the hand-off of its record with the
age timer and the trigger test, or its place in the wait list (R69 to R71, R82, R105, R159, R160, R166, R167;
`State.completed`). A timer with time left does not expire (R97). -/
def Obligations.SettleExpiryCompletes : Prop :=
  ∀ (s : State) (a : Arm) (r : LoadRecord), s.record a = some r → r.phase = .finishing →
    ((s.arms.get a).settle ≠ .running 0 → exec (.settleExpiry a) s = .next s) ∧
    ((s.arms.get a).settle = .running 0 →
      ((∃ u : UnitNo, (s.units.get u).inFlight = some a) ∨ (∃ i ∈ r.items, i.finalShot = true) →
        exec (.settleExpiry a) s = .next (s.modArm a fun c => { c with settle := .expired })) ∧
      ((∀ u : UnitNo, (s.units.get u).inFlight ≠ some a) → (∀ i ∈ r.items, i.finalShot = false) →
        exec (.settleExpiry a) s = .next (s.completed a r)))

/-- The halts handed to a load by the latch and by a lost unit are taken at the load's own event, with the reason, the notices
HALTED and ARM_HALTED with their data, RESTRICT_CHANGED, and the leaving of the header and the shot queues, and do nothing to
a load that is no longer in AUTHORIZED through FLUSH (R79, R84, R95, R96, R106, R107, R114, R115, R148, R174;
`State.haltedBy`). -/
def Obligations.HandedHaltsAreTaken : Prop :=
  ∀ (s : State) (a : Arm) (r : LoadRecord), s.record a = some r →
    (r.stopHalt = true → r.phase.haltable = true → r.haltReason = none →
      exec (.terminalStopHalt a) s = .next (s.haltedBy a { r with stopHalt := false } .terminalStop)) ∧
    (r.stopHalt = true → r.phase.haltable = false →
      exec (.terminalStopHalt a) s = .next (s.modRecord a fun x => { x with stopHalt := false })) ∧
    ∀ u : UnitNo, u ∈ r.lostHalts →
      let taken : LoadRecord := { r with lostHalts := r.lostHalts.filter fun v => v ≠ u }
      (r.phase.haltable = true → r.haltReason = none →
        exec (.additiveLostHalt a u) s = .next (s.haltedBy a taken (.additiveLost u))) ∧
      (r.phase.haltable = false →
        exec (.additiveLostHalt a u) s = .next (s.modArm a fun c => { c with occ := .loaded taken }))

/-- SET STATION, addressed and broadcast (R102): the five fields clamped and taken together, ADJUSTED where one was clamped,
and nothing else changed; and their values after reset. -/
def Obligations.SetStationClamps : Prop :=
  (∀ (s : State) (nf ls w st al : Nat),
    let c := Instr.setStation nf ls w st al
    let taken : StationSettings :=
      { noFlow := max 5 (min 600 nf), linkSilence := max 2 (min 60 ls), window := max 30 (min 3600 w),
        settle := max 1 (min 30 st), allowance := min 1000 al }
    (s.awaits .supervisor c →
      exec c s = .next (State.answered { s with settings := taken } .supervisor c 33
        (if taken.noFlow = nf ∧ taken.linkSilence = ls ∧ taken.window = w ∧ taken.settle = st ∧ taken.allowance = al
          then .accepted else .adjusted)
        (u16 taken.noFlow ++ u8 taken.linkSilence ++ u16 taken.window ++ u8 taken.settle ++ u16 taken.allowance))) ∧
    (s.awaitsBroadcast c → exec c s = .next (State.emptied { s with settings := taken } .supervisor))) ∧
  ∀ p : Pins, (State.resetWith p).settings =
    { noFlow := 30, linkSilence := 10, window := 300, settle := 3, allowance := 50 }

/-! ### Ethanol header -/

/-- The hold-timer expiry of a holder (R118, R119). A hold timer with time left does not expire (R97). -/
def Obligations.HoldTimerExpires : Prop :=
  ∀ (s : State) (a : Arm),
    ((∀ x ∈ s.header.holders, x.arm = a → x.hold ≠ 0) → exec (.holdTimerExpiry a) s = .next s) ∧
    ((∃ x ∈ s.header.holders, x.arm = a ∧ x.hold = 0) →
      (s.header.wait = [] →
        exec (.holdTimerExpiry a) s = .next { s with header := { s.header with
          holders := s.header.holders.map fun x =>
            if x.arm = a then { x with hold := s.header.hold * 100000 } else x } }) ∧
      (∀ r, s.header.wait ≠ [] → s.record a = some r →
        let rejoined := if (r.snap.step : Int) ≤ r.acc.owed then s.header.wait ++ [a] else s.header.wait
        let h : Header := { s.header with
          holders := s.header.holders.filter fun x => x.arm ≠ a, wait := rejoined }
        exec (.holdTimerExpiry a) s = .next { s with
          header := if s.scan.pressure = .normal ∧ s.stop.latch = none then h.grantAll else h
          arms := s.arms.upd a fun c => { c with occ := .loaded { r with acc := { r.acc with closedValve := 0 } } } }))

/-- The ethanol-flow timer's expiry halts the holder's load with ETHANOL_NO_FLOW, and the arm leaves the holder list (R121). A
timer with time left does not expire (R97). -/
def Obligations.EthanolFlowTimerExpires : Prop :=
  ∀ (s : State) (a : Arm) (r : LoadRecord),
    ((∀ x ∈ s.header.holders, x.arm = a → x.flow ≠ 0) → exec (.ethanolFlowTimerExpiry a) s = .next s) ∧
    (s.headerLaw → (∃ x ∈ s.header.holders, x.arm = a ∧ x.flow = 0) → s.record a = some r → r.haltReason = none →
    exec (.ethanolFlowTimerExpiry a) s = .next (s.haltedBy a r .ethanolNoFlow) ∧
    ∃ (t : State) (q : LoadRecord), exec (.ethanolFlowTimerExpiry a) s = .next t ∧ t.record a = some q ∧
      q.phase = .halted ∧ q.haltReason = some .ethanolNoFlow ∧ q.acc.closedValve = 0 ∧ q.acc.restrictOn = false ∧
      t.header.holds a = false ∧ t.header.waits a = false ∧
      t.header = (let h : Header := { s.header with holders := s.header.holders.filter fun x => x.arm ≠ a }
        if s.scan.pressure = .normal ∧ s.stop.latch = none then h.grantAll else h) ∧
      (∀ u : UnitNo, t.units.get u = { s.units.get u with queue := (s.units.get u).queue.filter fun b => b ≠ a }) ∧
      (t.armLines.get a).notices.any (fun p => decide (p.1 = .halted)) = true ∧
      t.supervisor = { s.supervisor with
        notices := raiseIn SupNotice.key (.armHalted a) (some 5) s.supervisor.notices } ∧
      t = { s with arms := t.arms, armLines := t.armLines, header := t.header, units := t.units,
                   supervisor := t.supervisor } ∧
      ∀ b : Arm, b ≠ a → t.arms.get b = s.arms.get b)

/-- The grants of R115 take arms from the head of the queue and leave no slot free while an arm waits; a grant starts both
timers (R115, R116). -/
def Obligations.GrantsInQueueOrder : Prop :=
  ∀ h : Header,
    h.grantAll.armsHolding ++ h.grantAll.wait = h.armsHolding ++ h.wait ∧
    h.holders <+: h.grantAll.holders ∧ h.grantAll.wait <:+ h.wait ∧
    (∀ x ∈ h.grantAll.holders, x ∈ h.holders ∨
      (x.arm ∈ h.wait ∧ x.hold = h.hold * 100000 ∧ x.flow = h.flowTimeout * 100000)) ∧
    (h.grantAll.wait = [] ∨ h.slots ≤ h.grantAll.holders.length) ∧
    (h.holders.length ≤ h.slots → h.grantAll.holders.length ≤ h.slots) ∧ h.grantAll.slots = h.slots

/-- SET HEADER (R124, R125, R127, R128): five values clamped and taken together, the newest holders beyond a lowered slot
count revoked to the head of the queue, and grants made for a raised one. -/
def Obligations.SetHeaderTakesEffect : Prop :=
  ∀ (s : State) (slots hold flow alpha threshold : Nat),
    let c := Instr.setHeader slots hold flow alpha threshold
    s.awaits .supervisor c →
    let h : Header := { s.header with
      slots := max 1 (min 8 slots), hold := max 5 (min 600 hold), flowTimeout := max 1 (min 60 flow),
      alpha := min 2000 alpha, threshold := min 4095 threshold }
    let code : ReplyCode := if h.slots = slots ∧ h.hold = hold ∧ h.flowTimeout = flow ∧ h.alpha = alpha ∧
      h.threshold = threshold then .accepted else .adjusted
    let fields := u8 h.slots ++ u16 h.hold ++ u8 h.flowTimeout ++ u16 h.alpha ++ u16 h.threshold
    (h.slots = s.header.slots →
      exec c s = .next (State.answered { s with header := h } .supervisor c 40 code fields)) ∧
    (s.header.slots < h.slots →
      exec c s = .next (State.answered
        { s with header := if s.scan.pressure = .normal ∧ s.stop.latch = none then h.grantAll else h }
        .supervisor c 40 code fields)) ∧
    (h.slots < s.header.slots → ∃ b : Bank 8 ArmCtl,
      exec c s = .next (State.answered
        { s with
          header := { h with holders := s.header.holders.take h.slots,
                             wait := s.header.armsHolding.drop h.slots ++ s.header.wait }
          arms := b } .supervisor c 40 code fields) ∧
      ∀ a : Arm, b.get a = if a ∈ s.header.armsHolding.drop h.slots
        then (s.arms.get a).mapRecord fun r => { r with acc := { r.acc with closedValve := 0 } }
        else s.arms.get a)

/-! ### Additive units -/

/-- A unit's work. A delivery's ADDITIVE_DUE joins its shot queue, and a READY unit takes its head at once (R68, R133, R136,
R137); the settle expiry fires a stroke (R138); a confirmation credits the shot, lowers the inventory and clears the failure
count, and the arm rejoins if it still owes (R139 to R141, R146), the unit staying in service or, with less than a shot left,
entering EMPTY with all of R148 (R147; `State.losesUnit`). At the stroke's end, and where EMPTY clears a mark, the completion
condition is examined, and a load in FINISHING whose settle timer has expired enters COMPLETE (R81, R92, R144; log entry 6).
In any other state the confirmation is stray (R143). The outputs follow (R132). That a confirmation goes by the state in which
it is taken, also right after a stroke timeout whose event led the unit back into STROKING, is log entry 22. -/
def Obligations.StrokesAreCredited : Prop :=
  ∀ (s : State) (u : UnitNo), s.itemLaw → s.shotQueueLaw →
    (let x := s.units.get u
     (s.fire u = true ↔ x.state = .stroking) ∧ (s.routeEnable u = true ↔ x.route ≠ none) ∧
     (s.routeLines u).toNat = x.route.elim 0 Fin.val) ∧
    (∀ (a : Arm) (m : Meter) (r : LoadRecord),
      (s.meter a m).test = some 0 → (s.meter a m).presented = true → (s.meter a m).accepted = false →
      s.record a = some r → r.phase.haltable = true →
      ∃ (t : State) (q : LoadRecord), exec (.meterPulseAcceptance a m) s = .next t ∧ t.record a = some q ∧
        (let x := s.units.get u
         let due := ∃ i ∈ q.items, i.unit = u ∧ i.short = false ∧ 1 ≤ x.shot ∧ (x.shot : Int) ≤ i.owed
         let joins := (q.phase = .flowing ∨ q.phase = .flush) ∧ due ∧
           (x.state = .ready ∨ x.state = .routing ∨ x.state = .stroking) ∧ a ∉ x.queue ∧ x.inFlight ≠ some a
         (joins → x.state ≠ .ready → t.units.get u = { x with queue := x.queue ++ [a] }) ∧
         (joins → x.state = .ready → t.units.get u = AdditiveUnit.headTaken { x with queue := x.queue ++ [a] }) ∧
         (q.phase = .halted → t.units.get u = { x with queue := x.queue.filter fun b => b ≠ a }) ∧
         (q.phase ≠ .halted → ¬ joins → t.units.get u = x))) ∧
    ((s.units.get u).state = .routing →
      ((s.units.get u).settleTimer ≠ .running 0 → exec (.unitSettleExpiry u) s = .next s) ∧
      ((s.units.get u).settleTimer = .running 0 → exec (.unitSettleExpiry u) s = .next (s.modUnit u fun x =>
        { x with state := .stroking, settleTimer := .stopped, strokeTimer := .running (x.strokeTimeout * 100) }))) ∧
    ((s.units.get u).test = some 0 → (s.units.get u).presented = true → (s.units.get u).accepted = false →
      ((s.units.get u).state ≠ .stroking →
        exec (.strokeConfirmation u) s = .next (s.modUnit u fun x =>
          { x with accepted := true, test := none,
                   stray := if x.stray < 4294967295 then x.stray + 1 else x.stray })) ∧
      (∀ a : Arm, (s.units.get u).state = .stroking → (s.units.get u).inFlight = some a →
        let x := s.units.get u
        let left := x.inventory - x.shot
        let low := decide (left < x.low)
        let y : AdditiveUnit := { x with
          accepted := true, test := none, strokeTimer := .stopped, inventory := left, lowMark := low, failures := 0
          confirmed := if x.confirmed < 4294967295 then x.confirmed + 1 else x.confirmed, inFlight := none
          queue := x.queue ++
            (if (s.record a).any (fun r => (r.credited u x.shot).wantsShot u x.shot) = true then [a] else []) }
        let credited : State := { s with
          arms := s.arms.upd a fun c => c.mapRecord fun r => r.credited u x.shot
          supervisor := { s.supervisor with
            notices := if low = true ∧ x.lowMark = false
              then raiseIn SupNotice.key (.unitLow u) (some left) s.supervisor.notices else s.supervisor.notices } }
        (x.shot ≤ left → exec (.strokeConfirmation u) s = .next (State.examined
          { credited with
            units := s.units.put u y.headTaken
            arms := y.queue.head?.elim credited.arms fun b =>
              credited.arms.upd b fun c => c.mapRecord fun q => q.markTaken u } a)) ∧
        (left < x.shot → exec (.strokeConfirmation u) s = .next
          ((credited.losesUnit u { y with state := .empty, queue := [] } (.unitEmpty u) left).examined a))))

/-- A stroke timeout (R142, R148). The failed stroke is counted and credits nothing; before the third in a row the unit stays
in service with its inventory and every account as they were, and the arm rejoins if it still owes; the third takes it to
FAULTED, empties its queue, clears every mark for it, hands the halt to loads that require it and makes the others short, with
their notices (`State.losesUnit`). At the stroke's end, and where FAULTED clears a mark, the completion condition is examined,
and a load in FINISHING whose settle timer has expired enters COMPLETE (R81, R92, R144; log entry 6). A stroke timer with time
left does not expire (R138). That a confirmation taken after it in the STROKING of a new stroke confirms that stroke is log
entry 22. -/
def Obligations.FailedStrokes : Prop :=
  ∀ (s : State) (u : UnitNo) (a : Arm), s.itemLaw → s.shotQueueLaw →
    (s.units.get u).state = .stroking → (s.units.get u).inFlight = some a →
    let x := s.units.get u
    let y : AdditiveUnit := { x with
      strokeTimer := .stopped, failures := x.failures + 1, inFlight := none
      failed := if x.failed < 4294967295 then x.failed + 1 else x.failed }
    let queue := x.queue ++ (if (s.record a).any (fun r => r.wantsShot u x.shot) = true then [a] else [])
    (x.strokeTimer ≠ .running 0 → exec (.strokeTimeout u) s = .next s) ∧
    (x.strokeTimer = .running 0 → x.failures < 2 → exec (.strokeTimeout u) s = .next (State.examined
      { s with
        units := s.units.put u (AdditiveUnit.headTaken { y with queue := queue })
        arms := queue.head?.elim s.arms fun b => s.arms.upd b fun c => c.mapRecord fun q => q.markTaken u } a)) ∧
    (x.strokeTimer = .running 0 → 2 ≤ x.failures → exec (.strokeTimeout u) s = .next
      ((s.losesUnit u { y with state := .faulted, queue := [] } (.unitFaulted u) a.val).examined a))

/-- SET UNIT by its checks, with its clamps and the low mark (R146, R149). That the refusals carry no field, and the reply the
four settings without the unit number, is log entry 10. -/
def Obligations.SetUnitByChecks : Prop :=
  ∀ (s : State) (unit shot low tmo st : Nat),
    let c := Instr.setUnit unit shot low tmo st
    s.awaits .supervisor c →
    let refused (x : ReplyCode) : Prop := exec c s = .next (s.answered .supervisor c 50 x [])
    (4 ≤ unit → refused .refusedRange) ∧
    ∀ u : UnitNo, u.val = unit →
      ((s.units.get u).state ≠ .offline → refused .inUse) ∧
      ((s.units.get u).state = .offline → shot = 0 ∨ 200 < shot → refused .refusedRange) ∧
      ((s.units.get u).state = .offline → 1 ≤ shot → shot ≤ 200 →
        let low' := min 100000000 low
        let tmo' := max 100 (min 5000 tmo)
        let st' := min 2000 st
        let mark := decide ((s.units.get u).inventory < low')
        exec c s = .next (State.answered
          { s with
            units := s.units.put u { s.units.get u with
              shot := shot, low := low', strokeTimeout := tmo', settle := st', lowMark := mark }
            supervisor := { s.supervisor with
              notices := if mark = true ∧ (s.units.get u).lowMark = false
                then raiseIn SupNotice.key (.unitLow u) (some (s.units.get u).inventory) s.supervisor.notices
                else s.supervisor.notices } }
          .supervisor c 50 (if low' = low ∧ tmo' = tmo ∧ st' = st then .accepted else .adjusted)
          (u8 shot ++ u32 low' ++ u16 tmo' ++ u16 st')))

/-- SET UNIT SERVICE by Table 7-3 (R150), with all that an entry into EMPTY brings (R147, R148; `State.losesUnit`). That ON is
sent as 0 and OFF as 1 is log entry 9, and that the reply out of range carries neither unit nor state is log entry 10. -/
def Obligations.UnitServiceByTable : Prop :=
  ∀ (s : State) (unit service : Nat),
    let c := Instr.setUnitService unit service
    s.awaits .supervisor c →
    (4 ≤ unit ∨ 2 ≤ service → exec c s = .next (s.answered .supervisor c 51 .refusedRange [])) ∧
    ∀ u : UnitNo, u.val = unit →
      let x := s.units.get u
      let stays (code : ReplyCode) : Prop :=
        exec c s = .next (s.answered .supervisor c 51 code (u8 unit ++ u8 (unitStateCode x.state)))
      let listed := ∃ (a : Arm) (r : LoadRecord), s.record a = some r ∧ ∃ i ∈ r.items, i.unit = u
      (service = 0 → x.state ≠ .offline → stays .accepted) ∧
      (service = 0 → x.state = .offline → x.shot = 0 → stays .notConfigured) ∧
      (service = 0 → x.state = .offline → x.shot ≠ 0 → x.shot ≤ x.inventory → x.queue = [] →
        exec c s = .next (State.answered (s.modUnit u fun y => { y with state := .ready, failures := 0 }) .supervisor c 51
          .accepted [BitVec.ofNat 8 unit, 1])) ∧
      (service = 0 → x.state = .offline → x.shot ≠ 0 → x.inventory < x.shot →
        exec c s = .next
          ((s.losesUnit u { x with state := .empty, queue := [], failures := 0 } (.unitEmpty u) x.inventory).answered
            .supervisor c 51 .accepted [BitVec.ofNat 8 unit, 5])) ∧
      (service = 1 → x.state = .offline → stays .accepted) ∧
      (service = 1 → x.state = .routing ∨ x.state = .stroking → stays .inUse) ∧
      (service = 1 → x.state = .ready ∨ x.state = .faulted ∨ x.state = .empty → listed → stays .inUse) ∧
      (service = 1 → x.state = .ready ∨ x.state = .faulted ∨ x.state = .empty → ¬ listed →
        exec c s = .next (State.answered (s.modUnit u fun y => { y with state := .offline, route := none }) .supervisor c
          51 .accepted [BitVec.ofNat 8 unit, 0]))

/-- REFILL UNIT (R145, R146, R151) and CLEAR UNIT (R152), with all that an entry into EMPTY brings (R147, R148;
`State.losesUnit`). That the replies out of range carry no field is log entry 10. -/
def Obligations.RefillAndClearUnit : Prop :=
  ∀ (s : State) (unit volume : Nat),
    (let c := Instr.refillUnit unit volume
     s.awaits .supervisor c →
     (4 ≤ unit ∨ volume = 0 ∨ 100000000 < volume →
       exec c s = .next (s.answered .supervisor c 52 .refusedRange [])) ∧
     ∀ u : UnitNo, u.val = unit → 1 ≤ volume → volume ≤ 100000000 →
       ((s.units.get u).state = .empty → (s.units.get u).queue = []) →
       let x := s.units.get u
       let sum := min 100000000 (x.inventory + volume)
       let mark := decide (sum < x.low)
       let state := if x.state = .empty ∧ x.shot ≤ sum then UnitState.ready else x.state
       exec c s = .next (State.answered
         { s with
           units := s.units.put u { x with inventory := sum, lowMark := mark, state := state }
           supervisor := { s.supervisor with
             notices := if mark = true ∧ x.lowMark = false
               then raiseIn SupNotice.key (.unitLow u) (some sum) s.supervisor.notices
               else s.supervisor.notices } }
         .supervisor c 52 (if 100000000 < x.inventory + volume then .adjusted else .accepted)
         (u8 unit ++ u32 sum ++ u8 (unitStateCode state)))) ∧
    (let c := Instr.clearUnit unit
     s.awaits .supervisor c →
     (4 ≤ unit → exec c s = .next (s.answered .supervisor c 53 .refusedRange [])) ∧
     ∀ u : UnitNo, u.val = unit →
       ((s.units.get u).state ≠ .faulted → exec c s = .next
         (s.answered .supervisor c 53 .refusedState (u8 unit ++ u8 (unitStateCode (s.units.get u).state)))) ∧
       ((s.units.get u).state = .faulted → (s.units.get u).shot ≤ (s.units.get u).inventory →
         (s.units.get u).queue = [] →
         exec c s = .next (State.answered (s.modUnit u fun y => { y with state := .ready, failures := 0 }) .supervisor c 53
           .accepted [BitVec.ofNat 8 unit, 1])) ∧
       ((s.units.get u).state = .faulted → (s.units.get u).inventory < (s.units.get u).shot →
         let x := s.units.get u
         exec c s = .next
           ((s.losesUnit u { x with state := .empty, queue := [], failures := 0 } (.unitEmpty u) x.inventory).answered
             .supervisor c 53 .accepted [BitVec.ofNat 8 unit, 5])))

/-! ### Records -/

/-- REMOVE RECORD by its two checks, with the hand-off of the arm that waits longest (R163, R164): its record, its arm, its
recipe entry, which becomes EMPTY if it was WITHDRAWN and the count reaches 0 (R47), the trigger test (R166) and the age timer
(R167; `State.handedOff`), and the age timer's expiry, which does not occur with time left (R97). The hand-off as a command of
its own is the model's choice, log entry 12, and it finds work only in states that the queue's law rules out; that the
refusals carry no field is log entry 10. -/
def Obligations.RecordQueueEvents : Prop :=
  ∀ (s : State) (number : Nat),
    let figures (r : LoadRecord) : FinalFigures := r.finals (r.finalRatio.getD 0) r.flags (r.endTime.getD 0)
    (s.awaits .supervisor (.removeRecord number) →
      (s.records.records = [] → exec (.removeRecord number) s =
        .next (s.answered .supervisor (.removeRecord number) 61 .queueEmpty [])) ∧
      ∀ d rest, s.records.records = d :: rest →
        (number ≠ d.figures.number → exec (.removeRecord number) s =
          .next (s.answered .supervisor (.removeRecord number) 61 .mismatch [])) ∧
        (number = d.figures.number → s.records.wait = [] →
          exec (.removeRecord number) s = .next (State.answered
            { s with records := { s.records with
                records := rest
                ageTimer := if rest = [] then .stopped else .running (s.records.ageTimeout * 100000) } }
            .supervisor (.removeRecord number) 61 .accepted (u16 number ++ u8 rest.length ++ u8 255))) ∧
        (∀ a waits r, number = d.figures.number → s.records.wait = a :: waits → s.record a = some r →
          rest.length < 32 →
          let left : State := { s with
            records := { s.records with records := rest, ageTimer := .running (s.records.ageTimeout * 100000) } }
          exec (.removeRecord number) s = .next
            ((left.handedOff a (figures r) waits).answered .supervisor (.removeRecord number) 61 .accepted
              (u16 number ++ u8 (rest.length + 1) ++ u8 a.val)))) ∧
    (∀ a waits r, s.records.wait = a :: waits → s.record a = some r → s.records.records.length < 32 →
      exec .waitListHandOff s = .next (s.handedOff a (figures r) waits)) ∧
    (s.records.wait = [] ∨ 32 ≤ s.records.records.length → exec .waitListHandOff s = .next s) ∧
    (s.records.ageTimer ≠ .running 0 → exec .ageTimerExpiry s = .next s) ∧
    (s.records.ageTimer = .running 0 →
      exec .ageTimerExpiry s = .next { s with
        records := { s.records with ageTimer := .running (s.records.ageTimeout * 100000) }
        supervisor := { s.supervisor with
          notices := raiseIn SupNotice.key .recordsWaiting none s.supervisor.notices } })

/-- SET RECORD NOTICE, addressed and broadcast (R168): the trigger level rounded down to 1, 4, 8 or 16, the age timeout
brought to 1 to 255, and nothing else changed; and both after reset. -/
def Obligations.SetRecordNoticeRounds : Prop :=
  (∀ (s : State) (trigger age : Nat),
    let c := Instr.setRecordNotice trigger age
    let level := if 16 ≤ trigger then 16 else if 8 ≤ trigger then 8 else if 4 ≤ trigger then 4 else 1
    let time := max 1 (min 255 age)
    let t : State := { s with records := { s.records with trigger := level, ageTimeout := time } }
    (s.awaits .supervisor c →
      exec c s = .next (t.answered .supervisor c 62 (if level = trigger ∧ time = age then .accepted else .adjusted)
        (u8 level ++ u8 time))) ∧
    (s.awaitsBroadcast c → exec c s = .next (t.emptied .supervisor))) ∧
  ∀ p : Pins, (State.resetWith p).records.trigger = 1 ∧ (State.resetWith p).records.ageTimeout = 30

/-! ### Terminal stop -/

/-- The accepted edge of a stop input (R170 to R172): an enabled input becoming active sets a clear latch with its cause and
set time, the halt is handed to every load in AUTHORIZED through FLUSH (R174), the stop notices are raised (R176) and every
permissive is deasserted (R83); any other edge changes the accepted level alone. -/
def Obligations.StopInputEdges : Prop :=
  ∀ (s : State) (i : StopNo),
    (s.stop.inputs.get i).test = some 0 → (s.stop.inputs.get i).presented ≠ (s.stop.inputs.get i).accepted →
    ((s.stop.inputs.get i).presented = true ∨ (s.stop.inputs.get i).enabled = false ∨ s.stop.latch ≠ none →
      exec (.stopInputAcceptedEdge i) s =
        .next (s.modStop i fun x => { x with accepted := x.presented, test := none })) ∧
    ((s.stop.inputs.get i).presented = false → (s.stop.inputs.get i).enabled = true → s.stop.latch = none →
      ∃ t : State, exec (.stopInputAcceptedEdge i) s = .next t ∧
        t.stop = { inputs := s.stop.inputs.upd i fun x => { x with accepted := false, test := none },
                   latch := some { cause := .input i, time := s.clock } } ∧
        (∀ a : Arm, t.arms.get a = (s.arms.get a).mapRecord fun r =>
          if r.phase.haltable then { r with stopHalt := true } else r) ∧
        t.supervisor = { s.supervisor with notices := raiseIn SupNotice.key .stopChanged none s.supervisor.notices } ∧
        (∀ a : Arm, t.armLines.get a = if (s.arms.get a).occ = .outOfService then s.armLines.get a
          else { s.armLines.get a with
            notices := raiseIn ArmNotice.key .terminalStopChanged none (s.armLines.get a).notices }) ∧
        t = { s with stop := t.stop, arms := t.arms, supervisor := t.supervisor, armLines := t.armLines } ∧
        ∀ a : Arm, t.permissive a = false)

/-- SET STOP INPUTS (R171, R172): the four enables together, answered with the enables, the accepted levels, the latch state
and the cause. The latch, if CLEAR, sets with the lowest enabled active input as cause, and the halt is handed on and the
notices are raised as at any setting (R174, R176); every permissive is deasserted (R83). That ENABLED is sent as 0 is log
entry 9, and that the refusal carries no field is log entry 10. That the latch state and cause sent are those after the
request is log entry 23. -/
def Obligations.SetStopInputsEnables : Prop :=
  ∀ (s : State) (e0 e1 e2 e3 : Nat),
    let c := Instr.setStopInputs e0 e1 e2 e3
    s.awaits .supervisor c →
    (2 ≤ e0 ∨ 2 ≤ e1 ∨ 2 ≤ e2 ∨ 2 ≤ e3 → exec c s = .next (s.answered .supervisor c 70 .refusedRange [])) ∧
    (e0 ≤ 1 → e1 ≤ 1 → e2 ≤ 1 → e3 ≤ 1 →
      let enabled (i : StopNo) : Bool := decide ((if i = 0 then e0 else if i = 1 then e1 else if i = 2 then e2 else e3) = 0)
      let active (i : StopNo) : Bool := enabled i && !(s.stop.inputs.get i).accepted
      let level (i : StopNo) : Byte := if (s.stop.inputs.get i).accepted = true then 1 else 0
      let inputs : Bank 4 StopInput := Bank.tab fun i => { s.stop.inputs.get i with enabled := enabled i }
      let sent := u8 e0 ++ u8 e1 ++ u8 e2 ++ u8 e3 ++ [level 0, level 1, level 2, level 3]
      (∀ h, s.stop.latch = some h → exec c s = .next (State.answered
        { s with stop := { inputs := inputs, latch := s.stop.latch } } .supervisor c 70 .accepted
        (sent ++ u8 1 ++ u8 (stopCauseCode h.cause)))) ∧
      (s.stop.latch = none → (∀ i, active i = false) → exec c s = .next (State.answered
        { s with stop := { inputs := inputs, latch := none } } .supervisor c 70 .accepted (sent ++ u8 0 ++ u8 255))) ∧
      (∀ i, s.stop.latch = none → active i = true → (∀ j, j < i → active j = false) → ∃ t : State,
        exec c s = .next (t.answered .supervisor c 70 .accepted (sent ++ u8 1 ++ u8 i.val)) ∧
        t.stop = { inputs := inputs, latch := some { cause := .input i, time := s.clock } } ∧
        (∀ a : Arm, t.arms.get a = (s.arms.get a).mapRecord fun r =>
          if r.phase.haltable then { r with stopHalt := true } else r) ∧
        t.supervisor = { s.supervisor with notices := raiseIn SupNotice.key .stopChanged none s.supervisor.notices } ∧
        (∀ a : Arm, t.armLines.get a = if (s.arms.get a).occ = .outOfService then s.armLines.get a
          else { s.armLines.get a with
            notices := raiseIn ArmNotice.key .terminalStopChanged none (s.armLines.get a).notices }) ∧
        t = { s with stop := t.stop, arms := t.arms, supervisor := t.supervisor, armLines := t.armLines } ∧
        ∀ a : Arm, t.permissive a = false))

/-- TERMINAL STOP (R173): with the latch SET it changes nothing, with the latch CLEAR it sets it with cause SUPERVISOR;
addressed, the reply carries the latch state, the cause and the set time, and as broadcast the effect is the same and no reply
is made. -/
def Obligations.TerminalStopSetsTheLatch : Prop :=
  ∀ s : State,
    (∀ h, s.stop.latch = some h →
      (s.awaits .supervisor .terminalStop →
        exec .terminalStop s = .next (s.answered .supervisor .terminalStop 71 .accepted
          (u8 1 ++ u8 (stopCauseCode h.cause) ++ u32 h.time.toNat))) ∧
      (s.awaitsBroadcast .terminalStop → exec .terminalStop s = .next (s.emptied .supervisor))) ∧
    (s.stop.latch = none → ∃ t : State,
      (s.awaits .supervisor .terminalStop →
        exec .terminalStop s = .next (t.answered .supervisor .terminalStop 71 .accepted
          (u8 1 ++ u8 4 ++ u32 s.clock.toNat))) ∧
      (s.awaitsBroadcast .terminalStop → exec .terminalStop s = .next (t.emptied .supervisor)) ∧
      t.stop = { s.stop with latch := some { cause := .supervisor, time := s.clock } } ∧
      (∀ a : Arm, t.arms.get a = (s.arms.get a).mapRecord fun r =>
        if r.phase.haltable then { r with stopHalt := true } else r) ∧
      t.supervisor = { s.supervisor with notices := raiseIn SupNotice.key .stopChanged none s.supervisor.notices } ∧
      (∀ a : Arm, t.armLines.get a = if (s.arms.get a).occ = .outOfService then s.armLines.get a
        else { s.armLines.get a with
          notices := raiseIn ArmNotice.key .terminalStopChanged none (s.armLines.get a).notices }) ∧
      t = { s with stop := t.stop, arms := t.arms, supervisor := t.supervisor, armLines := t.armLines })

/-- TERMINAL RESUME (R175), with the grants of R126 and the stop notices of R176 at the clearing. The reply carries each
input's accepted level and enable, ENABLED as 0 (log entry 9). -/
def Obligations.TerminalResumeClears : Prop :=
  ∀ s : State, s.awaits .supervisor .terminalResume →
    let holds := ∃ i : StopNo, (s.stop.inputs.get i).enabled = true ∧ (s.stop.inputs.get i).accepted = false
    let inputs : List Byte := (List.finRange 4).flatMap fun i =>
      (if (s.stop.inputs.get i).accepted = true then [1] else [0]) ++
      (if (s.stop.inputs.get i).enabled = true then [0] else [1])
    (s.stop.latch = none → exec .terminalResume s =
      .next (s.answered .supervisor .terminalResume 72 .accepted (u8 0 ++ u8 255 ++ inputs))) ∧
    (∀ h, s.stop.latch = some h → holds → exec .terminalResume s =
      .next (s.answered .supervisor .terminalResume 72 .stopActive (u8 1 ++ u8 (stopCauseCode h.cause) ++ inputs))) ∧
    (∀ h, s.stop.latch = some h → ¬ holds → ∃ t : State,
      exec .terminalResume s =
        .next (t.answered .supervisor .terminalResume 72 .accepted (u8 0 ++ u8 (stopCauseCode h.cause) ++ inputs)) ∧
      t.stop = { s.stop with latch := none } ∧
      t.header = (if s.scan.pressure = .normal then s.header.grantAll else s.header) ∧
      t.supervisor = { s.supervisor with notices := raiseIn SupNotice.key .stopChanged none s.supervisor.notices } ∧
      (∀ a : Arm, t.armLines.get a = if (s.arms.get a).occ = .outOfService then s.armLines.get a
        else { s.armLines.get a with
          notices := raiseIn ArmNotice.key .terminalStopChanged none (s.armLines.get a).notices }) ∧
      t = { s with stop := t.stop, header := t.header, supervisor := t.supervisor, armLines := t.armLines } ∧
      t.arms = s.arms)

/-! ### Lines -/

/-- What a line makes of a character and of a gap of 20 ms (R181), on an arm line and on the supervisor line of a station
whose address is not 0 and that is not sending; a station whose address is 0 takes no character of the supervisor line, and
one that is sending a reply discards it, the first of each reply raising the collision counter (R183; that it rises at that
first character is log entry 13). That the command for a gap shorter than 2,000 ticks has no effect is the model's choice, log
entry 4. -/
def Obligations.CharactersAreAssembled : Prop :=
  ∀ (s : State) (l : Line),
    (∀ (data : Byte) (marker stopHigh : Bool),
      (s.address = 0 → exec (.characterReceived .supervisor data marker stopHigh) s = .next s) ∧
      (s.address ≠ 0 → s.supervisor.transmitting = true →
        exec (.characterReceived .supervisor data marker stopHigh) s = .next { s with supervisor :=
          if s.supervisor.collided = true then s.supervisor
          else { s.supervisor with
            collided := true
            line := { s.supervisor.line with counters := { s.supervisor.line.counters with
              collision := if s.supervisor.line.counters.collision < 65535
                then s.supervisor.line.counters.collision + 1 else s.supervisor.line.counters.collision } } } })) ∧
    ((l = .supervisor → s.address ≠ 0 ∧ s.supervisor.transmitting = false) →
    (∀ (data : Byte) (stopHigh : Bool),
      (l = .supervisor → data.toNat = s.address.toNat ∨ data = 0) →
      exec (.characterReceived l data true stopHigh) s = .next (s.modLine l fun y =>
        { y with
          assembly := some { chars := [data], poisoned := !stopHigh, gap := 0 }
          counters := if y.assembly = none then y.counters
            else { y.counters with
              headAbort := if y.counters.headAbort < 65535 then y.counters.headAbort + 1 else y.counters.headAbort } })) ∧
    (∀ (data : Byte) (stopHigh : Bool), l = .supervisor → data.toNat ≠ s.address.toNat → data ≠ 0 →
      exec (.characterReceived l data true stopHigh) s = .next (s.modLine l fun y =>
        { y with
          assembly := none
          counters := if y.assembly = none then y.counters
            else { y.counters with
              headAbort := if y.counters.headAbort < 65535 then y.counters.headAbort + 1 else y.counters.headAbort } })) ∧
    (∀ (data : Byte) (stopHigh : Bool), (s.line l).assembly = none →
      exec (.characterReceived l data false stopHigh) s = .next s) ∧
    (∀ (b : Assembly) (stopHigh : Bool), (s.line l).assembly = some b → b.chars.length = 1 →
      exec (.characterReceived l 0 false stopHigh) s = .next (s.modLine l fun y =>
        { y with assembly := none, counters := { y.counters with
            poisoned := if y.counters.poisoned < 65535 then y.counters.poisoned + 1 else y.counters.poisoned } })) ∧
    (∀ (b : Assembly) (data : Byte) (stopHigh : Bool), (s.line l).assembly = some b →
      (b.chars.length = 1 → data ≠ 0) →
      let chars := b.chars ++ [data]
      let poisoned := b.poisoned || !stopHigh
      let whole := ∃ h n rest, chars = h :: n :: rest ∧ chars.length = 4 + n.toNat
      (whole → exec (.characterReceived l data false stopHigh) s = .next (s.modLine l fun y =>
        { y with assembly := none, received := y.received ++ [{ chars := chars, poisoned := poisoned }] })) ∧
      (¬ whole → exec (.characterReceived l data false stopHigh) s = .next (s.modLine l fun y =>
        { y with assembly := some { chars := chars, poisoned := poisoned, gap := 0 } })))) ∧
    (∀ b, (s.line l).assembly = some b →
      (b.gap < 2000 → exec (.characterGapTimeout l) s = .next s) ∧
      (2000 ≤ b.gap → exec (.characterGapTimeout l) s = .next (s.modLine l fun y =>
        { y with assembly := none, counters := { y.counters with
            timeout := if y.counters.timeout < 65535 then y.counters.timeout + 1 else y.counters.timeout } })))

/-- The checks of a whole telegram in their order, on an arm line and on the supervisor line, and the slot it leaves (R181,
R182, R184). On the supervisor line, which has taken in no head but the station address and 0 (R183), a telegram with head 0
is a broadcast: it is executed where Table 10-1 says so, and otherwise leaves the slot empty. -/
def Obligations.TelegramChecksInOrder : Prop :=
  ∀ (s : State) (l : Line) (head : Byte) (body : List Byte) (later : List Telegram) (sent : Nat) (bad : Bool),
    let whole := head :: BitVec.ofNat 8 body.length :: (body ++ u16 sent)
    (s.line l).received = { chars := whole, poisoned := bad } :: later →
    1 ≤ body.length → body.length ≤ 255 → sent < 65536 →
    (l = .supervisor → s.address ≠ 0 ∧ (head.toNat = s.address.toNat ∨ head = 0)) →
    let after (f : LineState → LineState) : State := s.modLine l fun y => f { y with received := later }
    let up (k : Nat) : Nat := if k < 65535 then k + 1 else k
    let check := (checkValue (head :: BitVec.ofNat 8 body.length :: body)).toNat
    let holds (y : LineState) (reply : List Byte) : LineState :=
      { y with slot := some { handed := none, broadcast := false, reply := some reply, restart := false } }
    (bad = true → exec (.telegramReceived l) s =
      .next (after fun y => { y with counters := { y.counters with poisoned := up y.counters.poisoned } })) ∧
    (bad = false → sent ≠ check → exec (.telegramReceived l) s =
      .next (after fun y => { y with counters := { y.counters with crc := up y.counters.crc } })) ∧
    (∀ n : Arm, l = .arm n →
      (bad = false → sent = check → head.toNat ≠ 32 + n.val → exec (.telegramReceived l) s =
        .next (after fun y => { y with counters := { y.counters with misdirected := up y.counters.misdirected } })) ∧
      (bad = false → sent = check → head.toNat = 32 + n.val →
        let heard (f : LineState → LineState) : State := { after f with
          arms := s.arms.upd n fun c => { c with
            linkSilence := if c.linkSilence.runs = true then .running (s.settings.linkSilence * 100000)
              else c.linkSilence } }
        ((s.line l).slot ≠ none → exec (.telegramReceived l) s =
          .next (heard fun y => { y with counters := { y.counters with overlap := up y.counters.overlap } })) ∧
        ((s.line l).slot = none →
          (parseArm n body = .unknown →
            exec (.telegramReceived l) s = .next (heard fun y => holds y [body.headD 0, 4])) ∧
          (parseArm n body = .badLength →
            exec (.telegramReceived l) s = .next (heard fun y => holds y [body.headD 0, 3])) ∧
          ∀ c, parseArm n body = .request c → exec (.telegramReceived l) s = .next (heard fun y =>
            { y with slot := some { handed := some c, broadcast := false, reply := none, restart := false } })))) ∧
    (l = .supervisor → bad = false → sent = check →
      let executed (c : Instr) : Prop := (∃ n, c = .setClock n) ∨ (∃ nf ls w st al, c = .setStation nf ls w st al) ∨
        (∃ trigger age, c = .setRecordNotice trigger age) ∨ c = .terminalStop
      ((s.line l).slot ≠ none → exec (.telegramReceived l) s =
        .next (after fun y => { y with counters := { y.counters with overlap := up y.counters.overlap } })) ∧
      ((s.line l).slot = none → head ≠ 0 →
        (parseSupervisor body = .unknown →
          exec (.telegramReceived l) s = .next (after fun y => holds y [body.headD 0, 4])) ∧
        (parseSupervisor body = .badLength →
          exec (.telegramReceived l) s = .next (after fun y => holds y [body.headD 0, 3])) ∧
        ∀ c, parseSupervisor body = .request c → exec (.telegramReceived l) s = .next (after fun y =>
          { y with slot := some { handed := some c, broadcast := false, reply := none, restart := false } })) ∧
      ((s.line l).slot = none → head = 0 →
        (∀ c, parseSupervisor body = .request c → executed c → exec (.telegramReceived l) s = .next (after fun y =>
          { y with slot := some { handed := some c, broadcast := true, reply := none, restart := false } })) ∧
        ((∀ c, parseSupervisor body = .request c → ¬ executed c) →
          exec (.telegramReceived l) s = .next (after id))))

/-- A reply starts and ends, and its telegram has the head, the length, the body and the check of R180 and R185, each
character with the bits of R179, the head alone with its marker set. RESTART is decided, and takes effect when its reply has
been sent; a power-on reset leaves every after-reset value the spec gives, those of the lines among them (R183, R184, R192,
R195, Tables 1-4, 2-4, 5-9, 6-2, 7-5, 8-3, 9-2 and 10-14). That waiting commands outlast a reset and a restart takes the
levels last presented is log entry 17, that the clock's second is counted in ticks is log entry 18, that the address pins of a
restart come from outside is log entry 19, the start bit's level log entry 21, and that RESTART's replies carry no field log
entry 10. -/
def Obligations.RepliesRestartAndReset : Prop :=
  ∀ s : State,
    (∀ (l : Line) (p : Slot) (body : List Byte), (s.line l).slot = some p → p.reply = some body →
      ∃ cs : List LineCharacter, s.replyCharacters l = some cs ∧
        (let head : Nat := match l with
           | .supervisor => 128 + s.address.toNat
           | .arm n => 160 + n.val
         let plain := BitVec.ofNat 8 head :: BitVec.ofNat 8 body.length :: body
         cs.map LineCharacter.data = plain ++ u16 (checkValue plain).toNat ∧
         cs.map LineCharacter.marker = true :: List.replicate (body.length + 3) false ∧
         ∀ c ∈ cs, c.bits.length = 11 ∧ c.bits[0]? = some false ∧
           (∀ i : Fin 8, c.bits[1 + i.val]? = some (c.data.getLsbD i.val)) ∧ c.bits[9]? = some c.marker ∧
           c.bits[10]? = some true)) ∧
    (∀ p, s.supervisor.line.slot = some p → p.reply ≠ none → s.supervisor.transmitting = false →
      ∃ t : State, exec .replyStart s = .next t ∧ t.supervisor.transmitting = true ∧ t.supervisor.collided = false ∧
        t.supervisor.line.assembly = none ∧ t.supervisor.line.slot = s.supervisor.line.slot ∧
        t.supervisor.line.counters.collision =
          (if s.supervisor.line.assembly = none then s.supervisor.line.counters.collision
            else if s.supervisor.line.counters.collision < 65535 then s.supervisor.line.counters.collision + 1
            else s.supervisor.line.counters.collision) ∧
        s.directionControl = false ∧ t.directionControl = true ∧ t = { s with supervisor := t.supervisor }) ∧
    (∀ p, s.supervisor.line.slot = some p → p.reply ≠ none → p.restart = false → s.supervisor.transmitting = true →
      exec (.replySent .supervisor) s = .next { s with supervisor := { s.supervisor with
        line := { s.supervisor.line with slot := none }, transmitting := false, collided := false } }) ∧
    (∀ (n : Arm) (p : Slot), (s.line (.arm n)).slot = some p → p.reply ≠ none → p.restart = false →
      exec (.replySent (.arm n)) s = .next (s.emptied (.arm n))) ∧
    (∀ p, s.supervisor.line.slot = some p → p.reply ≠ none → p.restart = true → s.supervisor.transmitting = true →
      ∃ pins : Pins,
        exec (.replySent .supervisor) s =
          .next { State.resetWith pins with pending := s.pending, addressInputs := s.addressInputs.tail } ∧
        (∀ level rest, s.addressInputs = level :: rest → pins.address = level) ∧
        (s.addressInputs = [] → pins.address = s.addressPins) ∧
        (∀ a : Arm, pins.base.getLsbD a.val = (s.meter a .base).presented ∧
          pins.ethanol.getLsbD a.val = (s.meter a .ethanol).presented) ∧
        (∀ u : UnitNo, pins.confirm.getLsbD u.val = (s.units.get u).presented) ∧
        ∀ i : StopNo, pins.stop.getLsbD i.val = (s.stop.inputs.get i).presented) ∧
    (∀ force : Nat, s.awaits .supervisor (.restart force) →
      let open' := ∃ a : Arm, s.record a ≠ none
      (2 ≤ force → exec (.restart force) s = .next (s.answered .supervisor (.restart force) 5 .refusedRange [])) ∧
      (force = 0 → open' → exec (.restart force) s = .next (s.answered .supervisor (.restart force) 5 .inUse [])) ∧
      (force = 1 ∨ (force = 0 ∧ ¬ open') → exec (.restart force) s = .next
        (s.modLine .supervisor fun y => { y with
          slot := some { handed := some (.restart force), broadcast := false, reply := some [5, 0], restart := true } }))) ∧
    (∀ pins : Pins,
      let line : LineState := { assembly := none, received := [], slot := none, counters := ⟨0, 0, 0, 0, 0, 0, 0⟩ }
      let input (level : Bool) : MeterInput :=
        { filterCode := 1, k := 0, minInterval := 1, presented := level, accepted := level, test := none, lastEdge := none,
          lastInterval := none, flowRate := 0, residue := 0 }
      ∃ t : State, exec (.powerOnReset pins) s = .next t ∧ t.pending = s.pending ∧ t.addressInputs = s.addressInputs ∧
        t.timebase = 0 ∧ t.clock = 0 ∧ t.clockRemaining = 100000 ∧ t.address = pins.address ∧
        t.addressPins = pins.address ∧
        (∀ a : Arm,
          t.meters.get a = { base := input (pins.base.getLsbD a.val), ethanol := input (pins.ethanol.getLsbD a.val),
                             unassignedMl := 0, unassignedUl := 0 } ∧
          t.arms.get a = { occ := .outOfService, noFlow := .stopped, linkSilence := .stopped, window := .stopped,
                           settle := .stopped, lastSummary := none } ∧
          t.armLines.get a = { line := line, notices := [] }) ∧
        (∀ c : Fin 9, t.scan.temps.get c = { code := none, value := 150, status := .held }) ∧
        (∀ i : Fin 3, t.scan.refs.get i = { code := none, inWindow := none }) ∧
        t.scan = { t.scan with position := 0, remaining := 200, pressureCode := none, belowRun := 0, clearRun := 0,
                               reference := .ok, pressure := .normal } ∧
        (∀ e : EntryNo, t.recipes.get e =
          { state := .empty, revision := 0, refCount := 0, code := 0, ratio := 0, tolerance := 0, alpha := 0, flush := 0,
            step := 0, restrict := 0, hard := 0, items := [], permitted := 0 }) ∧
        t.settings = { noFlow := 30, linkSilence := 10, window := 300, settle := 3, allowance := 50 } ∧
        t.header = { slots := 1, hold := 60, flowTimeout := 5, alpha := 1100, threshold := 0, holders := [], wait := [] } ∧
        (∀ u : UnitNo, t.units.get u =
          { state := .offline, shot := 0, low := 0, strokeTimeout := 1000, settle := 200, inventory := 0, lowMark := false,
            failures := 0, route := none, inFlight := none, settleTimer := .stopped, strokeTimer := .stopped, queue := [],
            confirmed := 0, failed := 0, stray := 0, presented := pins.confirm.getLsbD u.val,
            accepted := pins.confirm.getLsbD u.val, test := none }) ∧
        t.records = { records := [], wait := [], trigger := 1, ageTimeout := 30, ageTimer := .stopped, nextNumber := 1 } ∧
        (∀ i : StopNo, t.stop.inputs.get i =
          { enabled := true, presented := pins.stop.getLsbD i.val, accepted := pins.stop.getLsbD i.val, test := none }) ∧
        (t.stop.latch = none ↔ ∀ i : StopNo, pins.stop.getLsbD i.val = true) ∧
        (∀ i : StopNo, pins.stop.getLsbD i.val = false → (∀ j : StopNo, j < i → pins.stop.getLsbD j.val = true) →
          t.stop.latch = some { cause := .input i, time := 0 }) ∧
        t.supervisor = { line := line, notices := if t.stop.latch = none then [] else [(.stopChanged, none)],
                         transmitting := false, collided := false })

/-- READ LINES reports the seven counters of the supervisor line and then of the arm lines in order, and sets every one to 0
(R186). -/
def Obligations.ReadLinesClears : Prop :=
  ∀ s : State, s.awaits .supervisor .readLines → ∃ t : State,
    (let seven (c : LineCounters) : List Byte :=
       u16 c.poisoned ++ u16 c.crc ++ u16 c.timeout ++ u16 c.headAbort ++ u16 c.overlap ++ u16 c.misdirected ++
       u16 c.collision
     exec .readLines s = .next (t.answered .supervisor .readLines 3 .accepted
       (seven s.supervisor.line.counters ++
         (List.finRange 8).flatMap fun n => seven (s.armLines.get n).line.counters))) ∧
    t.supervisor = { s.supervisor with line := { s.supervisor.line with counters := LineCounters.zero } } ∧
    (∀ n : Arm, t.armLines.get n =
      { s.armLines.get n with line := { (s.armLines.get n).line with counters := LineCounters.zero } }) ∧
    t = { s with supervisor := t.supervisor, armLines := t.armLines }

/-- READ NOTICE on both kinds of line: in a set that keeps its law it returns and removes the notice of highest priority and,
within its kind, of lowest index (R187, R188), with priority, index (255 for none) and data as Tables 10-3 and 10-4 have them,
live data read from the state in force. SATN conducts while the supervisor set holds a notice, but never at a station whose
address is 0, and AATNn while its set does (R183, R189). -/
def Obligations.ReadNoticeTakesTheFirst : Prop :=
  ∀ s : State, s.noticeLaw →
    let place (k : SupNotice) : Nat × Nat :=
      match k with
      | .stopChanged => (1, 255) | .referenceChanged => (2, 255) | .pressureChanged => (3, 255)
      | .unitFaulted u => (4, u.val) | .unitEmpty u => (5, u.val) | .armHalted a => (6, a.val)
      | .probeFault c => (7, c.val) | .unitLow u => (8, u.val) | .unassignedFlow a => (9, a.val)
      | .recordsWaiting => (10, 255)
    let placeArm (k : ArmNotice) : Nat × Nat :=
      match k with
      | .halted => (1, 255) | .terminalStopChanged => (2, 255) | .loadComplete => (3, 255) | .restrictChanged => (4, 255)
      | .additiveShort u => (5, u.val)
    let live (k : SupNotice) : Nat :=
      match k with
      | .stopChanged => s.stop.latch.elim 255 fun h => 256 + stopCauseCode h.cause
      | .referenceChanged => if s.scan.reference = .ok then 0 else 1
      | .pressureChanged => if s.scan.pressure = .normal then 0 else 1
      | .recordsWaiting => s.records.records.length
      | .unitFaulted _ | .unitEmpty _ | .armHalted _ | .probeFault _ | .unitLow _ | .unassignedFlow _ => 0
    let liveArm (n : Arm) (k : ArmNotice) : Nat :=
      match k with
      | .terminalStopChanged => if s.stop.latch = none then 0 else 1
      | .restrictChanged => if (s.record n).any (fun r => r.acc.restrictOn) = true then 1 else 0
      | .halted | .loadComplete | .additiveShort _ => 0
    (s.satn = true ↔ s.supervisor.notices ≠ [] ∧ s.address ≠ 0) ∧
    (∀ n : Arm, s.aatn n = true ↔ (s.armLines.get n).notices ≠ []) ∧
    (s.awaits .supervisor .readNoticeSupervisor →
      (s.supervisor.notices = [] → exec .readNoticeSupervisor s =
        .next (s.answered .supervisor .readNoticeSupervisor 4 .noNotice [])) ∧
      (s.supervisor.notices ≠ [] → ∃ (k : SupNotice) (d : Option Nat) (rest : List (SupNotice × Option Nat)),
        (k, d) ∈ s.supervisor.notices ∧
        (∀ p ∈ s.supervisor.notices, (place k).1 < (place p.1).1 ∨
          ((place k).1 = (place p.1).1 ∧ (place k).2 ≤ (place p.1).2)) ∧
        rest = s.supervisor.notices.filter (fun p => decide (p.1 ≠ k)) ∧
        exec .readNoticeSupervisor s = .next (State.answered
          { s with supervisor := { s.supervisor with notices := rest } } .supervisor .readNoticeSupervisor 4 .accepted
          (u8 (place k).1 ++ u8 (place k).2 ++ u32 (d.getD (live k)))))) ∧
    ∀ n : Arm, s.awaits (.arm n) (.readNoticeArm n) →
      ((s.armLines.get n).notices = [] → exec (.readNoticeArm n) s =
        .next (s.answered (.arm n) (.readNoticeArm n) 7 .noNotice [])) ∧
      ((s.armLines.get n).notices ≠ [] → ∃ (k : ArmNotice) (d : Option Nat) (rest : List (ArmNotice × Option Nat)),
        (k, d) ∈ (s.armLines.get n).notices ∧
        (∀ p ∈ (s.armLines.get n).notices, (placeArm k).1 < (placeArm p.1).1 ∨
          ((placeArm k).1 = (placeArm p.1).1 ∧ (placeArm k).2 ≤ (placeArm p.1).2)) ∧
        rest = (s.armLines.get n).notices.filter (fun p => decide (p.1 ≠ k)) ∧
        exec (.readNoticeArm n) s = .next (State.answered
          { s with armLines := s.armLines.upd n fun x => { x with notices := rest } } (.arm n) (.readNoticeArm n) 7
          .accepted (u8 (placeArm k).1 ++ u8 (placeArm k).2 ++ u32 (d.getD (liveArm n k)))))

/-- The station clock advances at its second and wraps, and SET CLOCK sets it, addressed and broadcast (R190). The timebase
counts with each tick (R3), which is the step on an empty queue (the model's choice, log entry 7): every time that runs is one
tick shorter and held at 0, the arms', the holders', the units', the age timer's, the filter tests', the conversion's and the
clock's second (R97), the gap since a line's last character is one tick longer (R180), and nothing else changes. That the
advance's command before its time has no effect is the model's choice, log entry 4. -/
def Obligations.ClocksAdvance : Prop :=
  ∀ (s : State) (count : Nat), count < 4294967296 →
    (s.clockRemaining = 0 → exec .stationClockAdvance s = .next { s with
      clock := BitVec.ofNat 32 ((s.clock.toNat + 1) % 4294967296), clockRemaining := 100000 }) ∧
    (s.clockRemaining ≠ 0 → exec .stationClockAdvance s = .next s) ∧
    (let t : State := { s with clock := BitVec.ofNat 32 count, clockRemaining := 100000 }
     (s.awaits .supervisor (.setClock count) →
       exec (.setClock count) s = .next (t.answered .supervisor (.setClock count) 1 .accepted (u32 count))) ∧
     (s.awaitsBroadcast (.setClock count) → exec (.setClock count) s = .next (t.emptied .supervisor))) ∧
    (s.pending = [] → ∃ t : State, step s = .next t ∧
      (let down (x : Timer) : Timer := match x with
         | .running n => .running (n - 1)
         | .stopped => .stopped
         | .expired => .expired
       let test (x : Option Nat) : Option Nat := x.map fun n => n - 1
       let gap (y : LineState) : LineState := { y with assembly := y.assembly.map fun b => { b with gap := b.gap + 1 } }
       t.timebase = BitVec.ofNat 32 ((s.timebase.toNat + 1) % 4294967296) ∧
       t.clockRemaining = s.clockRemaining - 1 ∧ t.scan = { s.scan with remaining := s.scan.remaining - 1 } ∧
       (∀ a : Arm, t.arms.get a = { s.arms.get a with
         noFlow := down (s.arms.get a).noFlow, linkSilence := down (s.arms.get a).linkSilence
         window := down (s.arms.get a).window, settle := down (s.arms.get a).settle }) ∧
       t.header = { s.header with
         holders := s.header.holders.map fun x => { x with hold := x.hold - 1, flow := x.flow - 1 } } ∧
       (∀ u : UnitNo, t.units.get u = { s.units.get u with
         settleTimer := down (s.units.get u).settleTimer, strokeTimer := down (s.units.get u).strokeTimer
         test := test (s.units.get u).test }) ∧
       t.records = { s.records with ageTimer := down s.records.ageTimer } ∧
       (∀ (a : Arm) (m : Meter), t.meter a m = { s.meter a m with test := test (s.meter a m).test }) ∧
       (∀ a : Arm, (t.meters.get a).unassignedMl = (s.meters.get a).unassignedMl ∧
         (t.meters.get a).unassignedUl = (s.meters.get a).unassignedUl) ∧
       (∀ i : StopNo, t.stop.inputs.get i = { s.stop.inputs.get i with test := test (s.stop.inputs.get i).test }) ∧
       t.stop.latch = s.stop.latch ∧ t.supervisor = { s.supervisor with line := gap s.supervisor.line } ∧
       (∀ n : Arm, t.armLines.get n = { s.armLines.get n with line := gap (s.armLines.get n).line }) ∧
       t = { s with
         timebase := t.timebase, clockRemaining := t.clockRemaining, scan := t.scan, arms := t.arms, header := t.header
         units := t.units, records := t.records, meters := t.meters, stop := t.stop, supervisor := t.supervisor
         armLines := t.armLines }))
end

