-- ==== Sys2Proof/Laws/Banks.lean ====
section
/-! SUPPORT. Banks: what a bank reads after a replacement, a change and a tabulation, and when two banks are equal. -/

namespace Sys2Proof

variable {n : Nat} {α : Type}

theorem Bank.get_put (b : Bank n α) (i j : Fin n) (x : α) :
    (b.put i x).get j = if j = i then x else b.get j := by
  by_cases h : j = i
  · subst h; simp [Bank.get, Bank.put]
  · have : i.val ≠ j.val := fun e => h (Fin.ext e.symm)
    simp [Bank.get, Bank.put, this, h]

@[simp] theorem Bank.get_put_same (b : Bank n α) (i : Fin n) (x : α) : (b.put i x).get i = x := by
  simp [Bank.get_put]

theorem Bank.get_put_of_ne (b : Bank n α) {i j : Fin n} (x : α) (h : j ≠ i) : (b.put i x).get j = b.get j := by
  simp [Bank.get_put, h]

@[simp] theorem Bank.get_tab (f : Fin n → α) (i : Fin n) : (Bank.tab f).get i = f i := by
  simp [Bank.get, Bank.tab]

theorem Bank.get_upd (b : Bank n α) (i j : Fin n) (f : α → α) :
    (b.upd i f).get j = if j = i then f (b.get i) else b.get j := by
  simp [Bank.upd, Bank.get_put]

@[simp] theorem Bank.get_upd_same (b : Bank n α) (i : Fin n) (f : α → α) : (b.upd i f).get i = f (b.get i) := by
  simp [Bank.get_upd]

theorem Bank.get_upd_of_ne (b : Bank n α) {i j : Fin n} (f : α → α) (h : j ≠ i) : (b.upd i f).get j = b.get j := by
  simp [Bank.get_upd, h]

/-- Banks that read alike everywhere are equal. -/
theorem Bank.ext_get {b c : Bank n α} (h : ∀ i, b.get i = c.get i) : b = c := by
  cases b; cases c
  congr 1
  ext i hi
  exact h ⟨i, hi⟩

/-- Two changes at one place are one change. -/
@[simp] theorem Bank.upd_upd (b : Bank n α) (i : Fin n) (f g : α → α) :
    (b.upd i f).upd i g = b.upd i fun x => g (f x) := by
  apply Bank.ext_get; intro j; simp only [Bank.get_upd]; split <;> simp

/-- A change that leaves the thing as it is leaves the bank as it is. -/
theorem Bank.upd_eq_self (b : Bank n α) (i : Fin n) (f : α → α) (h : f (b.get i) = b.get i) : b.upd i f = b := by
  apply Bank.ext_get; intro j; simp only [Bank.get_upd]; split
  · next e => rw [h, e]
  · rfl

theorem Bank.upd_congr (b : Bank n α) (i : Fin n) {f g : α → α} (h : f (b.get i) = g (b.get i)) :
    b.upd i f = b.upd i g := by
  apply Bank.ext_get; intro j; simp only [Bank.get_upd, h]

end Sys2Proof
end

