-- ==== Sys2Proof/Laws/State.lean ====
section
/-! SUPPORT. What each named update of the state leaves in each field: one lemma per field per update. -/

namespace Sys2Proof.Machine

/-! ### `State.modArm` -/

@[simp] theorem State.modArm_pending (s : State) (a : Arm) (f : ArmCtl → ArmCtl) : (s.modArm a f).pending = s.pending := rfl
@[simp] theorem State.modArm_timebase (s : State) (a : Arm) (f : ArmCtl → ArmCtl) :
    (s.modArm a f).timebase = s.timebase := rfl
@[simp] theorem State.modArm_meters (s : State) (a : Arm) (f : ArmCtl → ArmCtl) : (s.modArm a f).meters = s.meters := rfl
@[simp] theorem State.modArm_scan (s : State) (a : Arm) (f : ArmCtl → ArmCtl) : (s.modArm a f).scan = s.scan := rfl
@[simp] theorem State.modArm_recipes (s : State) (a : Arm) (f : ArmCtl → ArmCtl) : (s.modArm a f).recipes = s.recipes := rfl
@[simp] theorem State.modArm_arms (s : State) (a : Arm) (f : ArmCtl → ArmCtl) : (s.modArm a f).arms = s.arms.upd a f := rfl
@[simp] theorem State.modArm_settings (s : State) (a : Arm) (f : ArmCtl → ArmCtl) :
    (s.modArm a f).settings = s.settings := rfl
@[simp] theorem State.modArm_header (s : State) (a : Arm) (f : ArmCtl → ArmCtl) : (s.modArm a f).header = s.header := rfl
@[simp] theorem State.modArm_units (s : State) (a : Arm) (f : ArmCtl → ArmCtl) : (s.modArm a f).units = s.units := rfl
@[simp] theorem State.modArm_records (s : State) (a : Arm) (f : ArmCtl → ArmCtl) : (s.modArm a f).records = s.records := rfl
@[simp] theorem State.modArm_stop (s : State) (a : Arm) (f : ArmCtl → ArmCtl) : (s.modArm a f).stop = s.stop := rfl
@[simp] theorem State.modArm_supervisor (s : State) (a : Arm) (f : ArmCtl → ArmCtl) :
    (s.modArm a f).supervisor = s.supervisor := rfl
@[simp] theorem State.modArm_armLines (s : State) (a : Arm) (f : ArmCtl → ArmCtl) :
    (s.modArm a f).armLines = s.armLines := rfl
@[simp] theorem State.modArm_clock (s : State) (a : Arm) (f : ArmCtl → ArmCtl) : (s.modArm a f).clock = s.clock := rfl
@[simp] theorem State.modArm_clockRemaining (s : State) (a : Arm) (f : ArmCtl → ArmCtl) :
    (s.modArm a f).clockRemaining = s.clockRemaining := rfl
@[simp] theorem State.modArm_address (s : State) (a : Arm) (f : ArmCtl → ArmCtl) : (s.modArm a f).address = s.address := rfl
@[simp] theorem State.modArm_addressPins (s : State) (a : Arm) (f : ArmCtl → ArmCtl) :
    (s.modArm a f).addressPins = s.addressPins := rfl
@[simp] theorem State.modArm_addressInputs (s : State) (a : Arm) (f : ArmCtl → ArmCtl) :
    (s.modArm a f).addressInputs = s.addressInputs := rfl

/-! ### `State.modRecord` -/

@[simp] theorem State.modRecord_pending (s : State) (a : Arm) (f : LoadRecord → LoadRecord) :
    (s.modRecord a f).pending = s.pending := rfl
@[simp] theorem State.modRecord_timebase (s : State) (a : Arm) (f : LoadRecord → LoadRecord) :
    (s.modRecord a f).timebase = s.timebase := rfl
@[simp] theorem State.modRecord_meters (s : State) (a : Arm) (f : LoadRecord → LoadRecord) :
    (s.modRecord a f).meters = s.meters := rfl
@[simp] theorem State.modRecord_scan (s : State) (a : Arm) (f : LoadRecord → LoadRecord) :
    (s.modRecord a f).scan = s.scan := rfl
@[simp] theorem State.modRecord_recipes (s : State) (a : Arm) (f : LoadRecord → LoadRecord) :
    (s.modRecord a f).recipes = s.recipes := rfl
@[simp] theorem State.modRecord_arms (s : State) (a : Arm) (f : LoadRecord → LoadRecord) :
    (s.modRecord a f).arms = s.arms.upd a (ArmCtl.mapRecord f) := rfl
@[simp] theorem State.modRecord_settings (s : State) (a : Arm) (f : LoadRecord → LoadRecord) :
    (s.modRecord a f).settings = s.settings := rfl
@[simp] theorem State.modRecord_header (s : State) (a : Arm) (f : LoadRecord → LoadRecord) :
    (s.modRecord a f).header = s.header := rfl
@[simp] theorem State.modRecord_units (s : State) (a : Arm) (f : LoadRecord → LoadRecord) :
    (s.modRecord a f).units = s.units := rfl
@[simp] theorem State.modRecord_records (s : State) (a : Arm) (f : LoadRecord → LoadRecord) :
    (s.modRecord a f).records = s.records := rfl
@[simp] theorem State.modRecord_stop (s : State) (a : Arm) (f : LoadRecord → LoadRecord) :
    (s.modRecord a f).stop = s.stop := rfl
@[simp] theorem State.modRecord_supervisor (s : State) (a : Arm) (f : LoadRecord → LoadRecord) :
    (s.modRecord a f).supervisor = s.supervisor := rfl
@[simp] theorem State.modRecord_armLines (s : State) (a : Arm) (f : LoadRecord → LoadRecord) :
    (s.modRecord a f).armLines = s.armLines := rfl
@[simp] theorem State.modRecord_clock (s : State) (a : Arm) (f : LoadRecord → LoadRecord) :
    (s.modRecord a f).clock = s.clock := rfl
@[simp] theorem State.modRecord_clockRemaining (s : State) (a : Arm) (f : LoadRecord → LoadRecord) :
    (s.modRecord a f).clockRemaining = s.clockRemaining := rfl
@[simp] theorem State.modRecord_address (s : State) (a : Arm) (f : LoadRecord → LoadRecord) :
    (s.modRecord a f).address = s.address := rfl
@[simp] theorem State.modRecord_addressPins (s : State) (a : Arm) (f : LoadRecord → LoadRecord) :
    (s.modRecord a f).addressPins = s.addressPins := rfl
@[simp] theorem State.modRecord_addressInputs (s : State) (a : Arm) (f : LoadRecord → LoadRecord) :
    (s.modRecord a f).addressInputs = s.addressInputs := rfl

/-! ### `State.setPhase` -/

@[simp] theorem State.setPhase_pending (s : State) (a : Arm) (p : Phase) : (s.setPhase a p).pending = s.pending := rfl
@[simp] theorem State.setPhase_timebase (s : State) (a : Arm) (p : Phase) : (s.setPhase a p).timebase = s.timebase := rfl
@[simp] theorem State.setPhase_meters (s : State) (a : Arm) (p : Phase) : (s.setPhase a p).meters = s.meters := rfl
@[simp] theorem State.setPhase_scan (s : State) (a : Arm) (p : Phase) : (s.setPhase a p).scan = s.scan := rfl
@[simp] theorem State.setPhase_recipes (s : State) (a : Arm) (p : Phase) : (s.setPhase a p).recipes = s.recipes := rfl
@[simp] theorem State.setPhase_arms (s : State) (a : Arm) (p : Phase) :
    (s.setPhase a p).arms = s.arms.upd a (ArmCtl.mapRecord fun r => { r with phase := p }) := rfl
@[simp] theorem State.setPhase_settings (s : State) (a : Arm) (p : Phase) : (s.setPhase a p).settings = s.settings := rfl
@[simp] theorem State.setPhase_header (s : State) (a : Arm) (p : Phase) : (s.setPhase a p).header = s.header := rfl
@[simp] theorem State.setPhase_units (s : State) (a : Arm) (p : Phase) : (s.setPhase a p).units = s.units := rfl
@[simp] theorem State.setPhase_records (s : State) (a : Arm) (p : Phase) : (s.setPhase a p).records = s.records := rfl
@[simp] theorem State.setPhase_stop (s : State) (a : Arm) (p : Phase) : (s.setPhase a p).stop = s.stop := rfl
@[simp] theorem State.setPhase_supervisor (s : State) (a : Arm) (p : Phase) :
    (s.setPhase a p).supervisor = s.supervisor := rfl
@[simp] theorem State.setPhase_armLines (s : State) (a : Arm) (p : Phase) : (s.setPhase a p).armLines = s.armLines := rfl
@[simp] theorem State.setPhase_clock (s : State) (a : Arm) (p : Phase) : (s.setPhase a p).clock = s.clock := rfl
@[simp] theorem State.setPhase_clockRemaining (s : State) (a : Arm) (p : Phase) :
    (s.setPhase a p).clockRemaining = s.clockRemaining := rfl
@[simp] theorem State.setPhase_address (s : State) (a : Arm) (p : Phase) : (s.setPhase a p).address = s.address := rfl
@[simp] theorem State.setPhase_addressPins (s : State) (a : Arm) (p : Phase) :
    (s.setPhase a p).addressPins = s.addressPins := rfl
@[simp] theorem State.setPhase_addressInputs (s : State) (a : Arm) (p : Phase) :
    (s.setPhase a p).addressInputs = s.addressInputs := rfl

/-! ### `State.clearMarks` -/

@[simp] theorem State.clearMarks_pending (s : State) (a : Arm) : (s.clearMarks a).pending = s.pending := rfl
@[simp] theorem State.clearMarks_timebase (s : State) (a : Arm) : (s.clearMarks a).timebase = s.timebase := rfl
@[simp] theorem State.clearMarks_meters (s : State) (a : Arm) : (s.clearMarks a).meters = s.meters := rfl
@[simp] theorem State.clearMarks_scan (s : State) (a : Arm) : (s.clearMarks a).scan = s.scan := rfl
@[simp] theorem State.clearMarks_recipes (s : State) (a : Arm) : (s.clearMarks a).recipes = s.recipes := rfl
@[simp] theorem State.clearMarks_settings (s : State) (a : Arm) : (s.clearMarks a).settings = s.settings := rfl
@[simp] theorem State.clearMarks_header (s : State) (a : Arm) : (s.clearMarks a).header = s.header := rfl
@[simp] theorem State.clearMarks_units (s : State) (a : Arm) : (s.clearMarks a).units = s.units := rfl
@[simp] theorem State.clearMarks_records (s : State) (a : Arm) : (s.clearMarks a).records = s.records := rfl
@[simp] theorem State.clearMarks_stop (s : State) (a : Arm) : (s.clearMarks a).stop = s.stop := rfl
@[simp] theorem State.clearMarks_supervisor (s : State) (a : Arm) : (s.clearMarks a).supervisor = s.supervisor := rfl
@[simp] theorem State.clearMarks_armLines (s : State) (a : Arm) : (s.clearMarks a).armLines = s.armLines := rfl
@[simp] theorem State.clearMarks_clock (s : State) (a : Arm) : (s.clearMarks a).clock = s.clock := rfl
@[simp] theorem State.clearMarks_clockRemaining (s : State) (a : Arm) :
    (s.clearMarks a).clockRemaining = s.clockRemaining := rfl
@[simp] theorem State.clearMarks_address (s : State) (a : Arm) : (s.clearMarks a).address = s.address := rfl
@[simp] theorem State.clearMarks_addressPins (s : State) (a : Arm) : (s.clearMarks a).addressPins = s.addressPins := rfl
@[simp] theorem State.clearMarks_addressInputs (s : State) (a : Arm) :
    (s.clearMarks a).addressInputs = s.addressInputs := rfl

/-! ### `State.valveCloses` -/

@[simp] theorem State.valveCloses_pending (s : State) (a : Arm) : (s.valveCloses a).pending = s.pending := rfl
@[simp] theorem State.valveCloses_timebase (s : State) (a : Arm) : (s.valveCloses a).timebase = s.timebase := rfl
@[simp] theorem State.valveCloses_meters (s : State) (a : Arm) : (s.valveCloses a).meters = s.meters := rfl
@[simp] theorem State.valveCloses_scan (s : State) (a : Arm) : (s.valveCloses a).scan = s.scan := rfl
@[simp] theorem State.valveCloses_recipes (s : State) (a : Arm) : (s.valveCloses a).recipes = s.recipes := rfl
@[simp] theorem State.valveCloses_arms (s : State) (a : Arm) :
    (s.valveCloses a).arms = s.arms.upd a (ArmCtl.mapRecord fun r => { r with acc := { r.acc with closedValve := 0 } }) := rfl
@[simp] theorem State.valveCloses_settings (s : State) (a : Arm) : (s.valveCloses a).settings = s.settings := rfl
@[simp] theorem State.valveCloses_header (s : State) (a : Arm) : (s.valveCloses a).header = s.header := rfl
@[simp] theorem State.valveCloses_units (s : State) (a : Arm) : (s.valveCloses a).units = s.units := rfl
@[simp] theorem State.valveCloses_records (s : State) (a : Arm) : (s.valveCloses a).records = s.records := rfl
@[simp] theorem State.valveCloses_stop (s : State) (a : Arm) : (s.valveCloses a).stop = s.stop := rfl
@[simp] theorem State.valveCloses_supervisor (s : State) (a : Arm) : (s.valveCloses a).supervisor = s.supervisor := rfl
@[simp] theorem State.valveCloses_armLines (s : State) (a : Arm) : (s.valveCloses a).armLines = s.armLines := rfl
@[simp] theorem State.valveCloses_clock (s : State) (a : Arm) : (s.valveCloses a).clock = s.clock := rfl
@[simp] theorem State.valveCloses_clockRemaining (s : State) (a : Arm) :
    (s.valveCloses a).clockRemaining = s.clockRemaining := rfl
@[simp] theorem State.valveCloses_address (s : State) (a : Arm) : (s.valveCloses a).address = s.address := rfl
@[simp] theorem State.valveCloses_addressPins (s : State) (a : Arm) : (s.valveCloses a).addressPins = s.addressPins := rfl
@[simp] theorem State.valveCloses_addressInputs (s : State) (a : Arm) :
    (s.valveCloses a).addressInputs = s.addressInputs := rfl

/-! ### `State.releaseHolder` -/

@[simp] theorem State.releaseHolder_pending (s : State) (a : Arm) : (s.releaseHolder a).pending = s.pending := rfl
@[simp] theorem State.releaseHolder_timebase (s : State) (a : Arm) : (s.releaseHolder a).timebase = s.timebase := rfl
@[simp] theorem State.releaseHolder_meters (s : State) (a : Arm) : (s.releaseHolder a).meters = s.meters := rfl
@[simp] theorem State.releaseHolder_scan (s : State) (a : Arm) : (s.releaseHolder a).scan = s.scan := rfl
@[simp] theorem State.releaseHolder_recipes (s : State) (a : Arm) : (s.releaseHolder a).recipes = s.recipes := rfl
@[simp] theorem State.releaseHolder_settings (s : State) (a : Arm) : (s.releaseHolder a).settings = s.settings := rfl
@[simp] theorem State.releaseHolder_header (s : State) (a : Arm) : (s.releaseHolder a).header = s.header.release a := rfl
@[simp] theorem State.releaseHolder_units (s : State) (a : Arm) : (s.releaseHolder a).units = s.units := rfl
@[simp] theorem State.releaseHolder_records (s : State) (a : Arm) : (s.releaseHolder a).records = s.records := rfl
@[simp] theorem State.releaseHolder_stop (s : State) (a : Arm) : (s.releaseHolder a).stop = s.stop := rfl
@[simp] theorem State.releaseHolder_supervisor (s : State) (a : Arm) : (s.releaseHolder a).supervisor = s.supervisor := rfl
@[simp] theorem State.releaseHolder_armLines (s : State) (a : Arm) : (s.releaseHolder a).armLines = s.armLines := rfl
@[simp] theorem State.releaseHolder_clock (s : State) (a : Arm) : (s.releaseHolder a).clock = s.clock := rfl
@[simp] theorem State.releaseHolder_clockRemaining (s : State) (a : Arm) :
    (s.releaseHolder a).clockRemaining = s.clockRemaining := rfl
@[simp] theorem State.releaseHolder_address (s : State) (a : Arm) : (s.releaseHolder a).address = s.address := rfl
@[simp] theorem State.releaseHolder_addressPins (s : State) (a : Arm) :
    (s.releaseHolder a).addressPins = s.addressPins := rfl
@[simp] theorem State.releaseHolder_addressInputs (s : State) (a : Arm) :
    (s.releaseHolder a).addressInputs = s.addressInputs := rfl

/-! ### `State.modUnit` -/

@[simp] theorem State.modUnit_pending (s : State) (u : UnitNo) (f : AdditiveUnit → AdditiveUnit) :
    (s.modUnit u f).pending = s.pending := rfl
@[simp] theorem State.modUnit_timebase (s : State) (u : UnitNo) (f : AdditiveUnit → AdditiveUnit) :
    (s.modUnit u f).timebase = s.timebase := rfl
@[simp] theorem State.modUnit_meters (s : State) (u : UnitNo) (f : AdditiveUnit → AdditiveUnit) :
    (s.modUnit u f).meters = s.meters := rfl
@[simp] theorem State.modUnit_scan (s : State) (u : UnitNo) (f : AdditiveUnit → AdditiveUnit) :
    (s.modUnit u f).scan = s.scan := rfl
@[simp] theorem State.modUnit_recipes (s : State) (u : UnitNo) (f : AdditiveUnit → AdditiveUnit) :
    (s.modUnit u f).recipes = s.recipes := rfl
@[simp] theorem State.modUnit_arms (s : State) (u : UnitNo) (f : AdditiveUnit → AdditiveUnit) :
    (s.modUnit u f).arms = s.arms := rfl
@[simp] theorem State.modUnit_settings (s : State) (u : UnitNo) (f : AdditiveUnit → AdditiveUnit) :
    (s.modUnit u f).settings = s.settings := rfl
@[simp] theorem State.modUnit_header (s : State) (u : UnitNo) (f : AdditiveUnit → AdditiveUnit) :
    (s.modUnit u f).header = s.header := rfl
@[simp] theorem State.modUnit_units (s : State) (u : UnitNo) (f : AdditiveUnit → AdditiveUnit) :
    (s.modUnit u f).units = s.units.upd u f := rfl
@[simp] theorem State.modUnit_records (s : State) (u : UnitNo) (f : AdditiveUnit → AdditiveUnit) :
    (s.modUnit u f).records = s.records := rfl
@[simp] theorem State.modUnit_stop (s : State) (u : UnitNo) (f : AdditiveUnit → AdditiveUnit) :
    (s.modUnit u f).stop = s.stop := rfl
@[simp] theorem State.modUnit_supervisor (s : State) (u : UnitNo) (f : AdditiveUnit → AdditiveUnit) :
    (s.modUnit u f).supervisor = s.supervisor := rfl
@[simp] theorem State.modUnit_armLines (s : State) (u : UnitNo) (f : AdditiveUnit → AdditiveUnit) :
    (s.modUnit u f).armLines = s.armLines := rfl
@[simp] theorem State.modUnit_clock (s : State) (u : UnitNo) (f : AdditiveUnit → AdditiveUnit) :
    (s.modUnit u f).clock = s.clock := rfl
@[simp] theorem State.modUnit_clockRemaining (s : State) (u : UnitNo) (f : AdditiveUnit → AdditiveUnit) :
    (s.modUnit u f).clockRemaining = s.clockRemaining := rfl
@[simp] theorem State.modUnit_address (s : State) (u : UnitNo) (f : AdditiveUnit → AdditiveUnit) :
    (s.modUnit u f).address = s.address := rfl
@[simp] theorem State.modUnit_addressPins (s : State) (u : UnitNo) (f : AdditiveUnit → AdditiveUnit) :
    (s.modUnit u f).addressPins = s.addressPins := rfl
@[simp] theorem State.modUnit_addressInputs (s : State) (u : UnitNo) (f : AdditiveUnit → AdditiveUnit) :
    (s.modUnit u f).addressInputs = s.addressInputs := rfl

/-! ### `State.leaveQueues` -/

@[simp] theorem State.leaveQueues_pending (s : State) (a : Arm) : (s.leaveQueues a).pending = s.pending := rfl
@[simp] theorem State.leaveQueues_timebase (s : State) (a : Arm) : (s.leaveQueues a).timebase = s.timebase := rfl
@[simp] theorem State.leaveQueues_meters (s : State) (a : Arm) : (s.leaveQueues a).meters = s.meters := rfl
@[simp] theorem State.leaveQueues_scan (s : State) (a : Arm) : (s.leaveQueues a).scan = s.scan := rfl
@[simp] theorem State.leaveQueues_recipes (s : State) (a : Arm) : (s.leaveQueues a).recipes = s.recipes := rfl
@[simp] theorem State.leaveQueues_arms (s : State) (a : Arm) : (s.leaveQueues a).arms = s.arms := rfl
@[simp] theorem State.leaveQueues_settings (s : State) (a : Arm) : (s.leaveQueues a).settings = s.settings := rfl
@[simp] theorem State.leaveQueues_header (s : State) (a : Arm) : (s.leaveQueues a).header = s.header := rfl
@[simp] theorem State.leaveQueues_records (s : State) (a : Arm) : (s.leaveQueues a).records = s.records := rfl
@[simp] theorem State.leaveQueues_stop (s : State) (a : Arm) : (s.leaveQueues a).stop = s.stop := rfl
@[simp] theorem State.leaveQueues_supervisor (s : State) (a : Arm) : (s.leaveQueues a).supervisor = s.supervisor := rfl
@[simp] theorem State.leaveQueues_armLines (s : State) (a : Arm) : (s.leaveQueues a).armLines = s.armLines := rfl
@[simp] theorem State.leaveQueues_clock (s : State) (a : Arm) : (s.leaveQueues a).clock = s.clock := rfl
@[simp] theorem State.leaveQueues_clockRemaining (s : State) (a : Arm) :
    (s.leaveQueues a).clockRemaining = s.clockRemaining := rfl
@[simp] theorem State.leaveQueues_address (s : State) (a : Arm) : (s.leaveQueues a).address = s.address := rfl
@[simp] theorem State.leaveQueues_addressPins (s : State) (a : Arm) : (s.leaveQueues a).addressPins = s.addressPins := rfl
@[simp] theorem State.leaveQueues_addressInputs (s : State) (a : Arm) :
    (s.leaveQueues a).addressInputs = s.addressInputs := rfl

/-! ### `State.modMeters` -/

@[simp] theorem State.modMeters_pending (s : State) (a : Arm) (f : ArmMeters → ArmMeters) :
    (s.modMeters a f).pending = s.pending := rfl
@[simp] theorem State.modMeters_timebase (s : State) (a : Arm) (f : ArmMeters → ArmMeters) :
    (s.modMeters a f).timebase = s.timebase := rfl
@[simp] theorem State.modMeters_meters (s : State) (a : Arm) (f : ArmMeters → ArmMeters) :
    (s.modMeters a f).meters = s.meters.upd a f := rfl
@[simp] theorem State.modMeters_scan (s : State) (a : Arm) (f : ArmMeters → ArmMeters) :
    (s.modMeters a f).scan = s.scan := rfl
@[simp] theorem State.modMeters_recipes (s : State) (a : Arm) (f : ArmMeters → ArmMeters) :
    (s.modMeters a f).recipes = s.recipes := rfl
@[simp] theorem State.modMeters_arms (s : State) (a : Arm) (f : ArmMeters → ArmMeters) :
    (s.modMeters a f).arms = s.arms := rfl
@[simp] theorem State.modMeters_settings (s : State) (a : Arm) (f : ArmMeters → ArmMeters) :
    (s.modMeters a f).settings = s.settings := rfl
@[simp] theorem State.modMeters_header (s : State) (a : Arm) (f : ArmMeters → ArmMeters) :
    (s.modMeters a f).header = s.header := rfl
@[simp] theorem State.modMeters_units (s : State) (a : Arm) (f : ArmMeters → ArmMeters) :
    (s.modMeters a f).units = s.units := rfl
@[simp] theorem State.modMeters_records (s : State) (a : Arm) (f : ArmMeters → ArmMeters) :
    (s.modMeters a f).records = s.records := rfl
@[simp] theorem State.modMeters_stop (s : State) (a : Arm) (f : ArmMeters → ArmMeters) :
    (s.modMeters a f).stop = s.stop := rfl
@[simp] theorem State.modMeters_supervisor (s : State) (a : Arm) (f : ArmMeters → ArmMeters) :
    (s.modMeters a f).supervisor = s.supervisor := rfl
@[simp] theorem State.modMeters_armLines (s : State) (a : Arm) (f : ArmMeters → ArmMeters) :
    (s.modMeters a f).armLines = s.armLines := rfl
@[simp] theorem State.modMeters_clock (s : State) (a : Arm) (f : ArmMeters → ArmMeters) :
    (s.modMeters a f).clock = s.clock := rfl
@[simp] theorem State.modMeters_clockRemaining (s : State) (a : Arm) (f : ArmMeters → ArmMeters) :
    (s.modMeters a f).clockRemaining = s.clockRemaining := rfl
@[simp] theorem State.modMeters_address (s : State) (a : Arm) (f : ArmMeters → ArmMeters) :
    (s.modMeters a f).address = s.address := rfl
@[simp] theorem State.modMeters_addressPins (s : State) (a : Arm) (f : ArmMeters → ArmMeters) :
    (s.modMeters a f).addressPins = s.addressPins := rfl
@[simp] theorem State.modMeters_addressInputs (s : State) (a : Arm) (f : ArmMeters → ArmMeters) :
    (s.modMeters a f).addressInputs = s.addressInputs := rfl

/-! ### `State.modMeter` -/

@[simp] theorem State.modMeter_pending (s : State) (a : Arm) (m : Meter) (f : MeterInput → MeterInput) :
    (s.modMeter a m f).pending = s.pending := rfl
@[simp] theorem State.modMeter_timebase (s : State) (a : Arm) (m : Meter) (f : MeterInput → MeterInput) :
    (s.modMeter a m f).timebase = s.timebase := rfl
@[simp] theorem State.modMeter_meters (s : State) (a : Arm) (m : Meter) (f : MeterInput → MeterInput) :
    (s.modMeter a m f).meters = s.meters.upd a fun x => x.modInput m f := rfl
@[simp] theorem State.modMeter_scan (s : State) (a : Arm) (m : Meter) (f : MeterInput → MeterInput) :
    (s.modMeter a m f).scan = s.scan := rfl
@[simp] theorem State.modMeter_recipes (s : State) (a : Arm) (m : Meter) (f : MeterInput → MeterInput) :
    (s.modMeter a m f).recipes = s.recipes := rfl
@[simp] theorem State.modMeter_arms (s : State) (a : Arm) (m : Meter) (f : MeterInput → MeterInput) :
    (s.modMeter a m f).arms = s.arms := rfl
@[simp] theorem State.modMeter_settings (s : State) (a : Arm) (m : Meter) (f : MeterInput → MeterInput) :
    (s.modMeter a m f).settings = s.settings := rfl
@[simp] theorem State.modMeter_header (s : State) (a : Arm) (m : Meter) (f : MeterInput → MeterInput) :
    (s.modMeter a m f).header = s.header := rfl
@[simp] theorem State.modMeter_units (s : State) (a : Arm) (m : Meter) (f : MeterInput → MeterInput) :
    (s.modMeter a m f).units = s.units := rfl
@[simp] theorem State.modMeter_records (s : State) (a : Arm) (m : Meter) (f : MeterInput → MeterInput) :
    (s.modMeter a m f).records = s.records := rfl
@[simp] theorem State.modMeter_stop (s : State) (a : Arm) (m : Meter) (f : MeterInput → MeterInput) :
    (s.modMeter a m f).stop = s.stop := rfl
@[simp] theorem State.modMeter_supervisor (s : State) (a : Arm) (m : Meter) (f : MeterInput → MeterInput) :
    (s.modMeter a m f).supervisor = s.supervisor := rfl
@[simp] theorem State.modMeter_armLines (s : State) (a : Arm) (m : Meter) (f : MeterInput → MeterInput) :
    (s.modMeter a m f).armLines = s.armLines := rfl
@[simp] theorem State.modMeter_clock (s : State) (a : Arm) (m : Meter) (f : MeterInput → MeterInput) :
    (s.modMeter a m f).clock = s.clock := rfl
@[simp] theorem State.modMeter_clockRemaining (s : State) (a : Arm) (m : Meter) (f : MeterInput → MeterInput) :
    (s.modMeter a m f).clockRemaining = s.clockRemaining := rfl
@[simp] theorem State.modMeter_address (s : State) (a : Arm) (m : Meter) (f : MeterInput → MeterInput) :
    (s.modMeter a m f).address = s.address := rfl
@[simp] theorem State.modMeter_addressPins (s : State) (a : Arm) (m : Meter) (f : MeterInput → MeterInput) :
    (s.modMeter a m f).addressPins = s.addressPins := rfl
@[simp] theorem State.modMeter_addressInputs (s : State) (a : Arm) (m : Meter) (f : MeterInput → MeterInput) :
    (s.modMeter a m f).addressInputs = s.addressInputs := rfl

/-! ### `State.modStop` -/

@[simp] theorem State.modStop_pending (s : State) (i : StopNo) (f : StopInput → StopInput) :
    (s.modStop i f).pending = s.pending := rfl
@[simp] theorem State.modStop_timebase (s : State) (i : StopNo) (f : StopInput → StopInput) :
    (s.modStop i f).timebase = s.timebase := rfl
@[simp] theorem State.modStop_meters (s : State) (i : StopNo) (f : StopInput → StopInput) :
    (s.modStop i f).meters = s.meters := rfl
@[simp] theorem State.modStop_scan (s : State) (i : StopNo) (f : StopInput → StopInput) :
    (s.modStop i f).scan = s.scan := rfl
@[simp] theorem State.modStop_recipes (s : State) (i : StopNo) (f : StopInput → StopInput) :
    (s.modStop i f).recipes = s.recipes := rfl
@[simp] theorem State.modStop_arms (s : State) (i : StopNo) (f : StopInput → StopInput) :
    (s.modStop i f).arms = s.arms := rfl
@[simp] theorem State.modStop_settings (s : State) (i : StopNo) (f : StopInput → StopInput) :
    (s.modStop i f).settings = s.settings := rfl
@[simp] theorem State.modStop_header (s : State) (i : StopNo) (f : StopInput → StopInput) :
    (s.modStop i f).header = s.header := rfl
@[simp] theorem State.modStop_units (s : State) (i : StopNo) (f : StopInput → StopInput) :
    (s.modStop i f).units = s.units := rfl
@[simp] theorem State.modStop_records (s : State) (i : StopNo) (f : StopInput → StopInput) :
    (s.modStop i f).records = s.records := rfl
@[simp] theorem State.modStop_stop (s : State) (i : StopNo) (f : StopInput → StopInput) :
    (s.modStop i f).stop = { s.stop with inputs := s.stop.inputs.upd i f } := rfl
@[simp] theorem State.modStop_supervisor (s : State) (i : StopNo) (f : StopInput → StopInput) :
    (s.modStop i f).supervisor = s.supervisor := rfl
@[simp] theorem State.modStop_armLines (s : State) (i : StopNo) (f : StopInput → StopInput) :
    (s.modStop i f).armLines = s.armLines := rfl
@[simp] theorem State.modStop_clock (s : State) (i : StopNo) (f : StopInput → StopInput) :
    (s.modStop i f).clock = s.clock := rfl
@[simp] theorem State.modStop_clockRemaining (s : State) (i : StopNo) (f : StopInput → StopInput) :
    (s.modStop i f).clockRemaining = s.clockRemaining := rfl
@[simp] theorem State.modStop_address (s : State) (i : StopNo) (f : StopInput → StopInput) :
    (s.modStop i f).address = s.address := rfl
@[simp] theorem State.modStop_addressPins (s : State) (i : StopNo) (f : StopInput → StopInput) :
    (s.modStop i f).addressPins = s.addressPins := rfl
@[simp] theorem State.modStop_addressInputs (s : State) (i : StopNo) (f : StopInput → StopInput) :
    (s.modStop i f).addressInputs = s.addressInputs := rfl

/-! ### `State.raiseSup` -/

@[simp] theorem State.raiseSup_pending (s : State) (k : SupNotice) (d : Option Nat) :
    (s.raiseSup k d).pending = s.pending := rfl
@[simp] theorem State.raiseSup_timebase (s : State) (k : SupNotice) (d : Option Nat) :
    (s.raiseSup k d).timebase = s.timebase := rfl
@[simp] theorem State.raiseSup_meters (s : State) (k : SupNotice) (d : Option Nat) :
    (s.raiseSup k d).meters = s.meters := rfl
@[simp] theorem State.raiseSup_scan (s : State) (k : SupNotice) (d : Option Nat) : (s.raiseSup k d).scan = s.scan := rfl
@[simp] theorem State.raiseSup_recipes (s : State) (k : SupNotice) (d : Option Nat) :
    (s.raiseSup k d).recipes = s.recipes := rfl
@[simp] theorem State.raiseSup_arms (s : State) (k : SupNotice) (d : Option Nat) : (s.raiseSup k d).arms = s.arms := rfl
@[simp] theorem State.raiseSup_settings (s : State) (k : SupNotice) (d : Option Nat) :
    (s.raiseSup k d).settings = s.settings := rfl
@[simp] theorem State.raiseSup_header (s : State) (k : SupNotice) (d : Option Nat) :
    (s.raiseSup k d).header = s.header := rfl
@[simp] theorem State.raiseSup_units (s : State) (k : SupNotice) (d : Option Nat) : (s.raiseSup k d).units = s.units := rfl
@[simp] theorem State.raiseSup_records (s : State) (k : SupNotice) (d : Option Nat) :
    (s.raiseSup k d).records = s.records := rfl
@[simp] theorem State.raiseSup_stop (s : State) (k : SupNotice) (d : Option Nat) : (s.raiseSup k d).stop = s.stop := rfl
@[simp] theorem State.raiseSup_supervisor (s : State) (k : SupNotice) (d : Option Nat) :
    (s.raiseSup k d).supervisor = { s.supervisor with notices := raiseIn SupNotice.key k d s.supervisor.notices } := rfl
@[simp] theorem State.raiseSup_armLines (s : State) (k : SupNotice) (d : Option Nat) :
    (s.raiseSup k d).armLines = s.armLines := rfl
@[simp] theorem State.raiseSup_clock (s : State) (k : SupNotice) (d : Option Nat) : (s.raiseSup k d).clock = s.clock := rfl
@[simp] theorem State.raiseSup_clockRemaining (s : State) (k : SupNotice) (d : Option Nat) :
    (s.raiseSup k d).clockRemaining = s.clockRemaining := rfl
@[simp] theorem State.raiseSup_address (s : State) (k : SupNotice) (d : Option Nat) :
    (s.raiseSup k d).address = s.address := rfl
@[simp] theorem State.raiseSup_addressPins (s : State) (k : SupNotice) (d : Option Nat) :
    (s.raiseSup k d).addressPins = s.addressPins := rfl
@[simp] theorem State.raiseSup_addressInputs (s : State) (k : SupNotice) (d : Option Nat) :
    (s.raiseSup k d).addressInputs = s.addressInputs := rfl

/-! ### `State.raiseArm` -/

@[simp] theorem State.raiseArm_pending (s : State) (n : Arm) (k : ArmNotice) (d : Option Nat) :
    (s.raiseArm n k d).pending = s.pending := rfl
@[simp] theorem State.raiseArm_timebase (s : State) (n : Arm) (k : ArmNotice) (d : Option Nat) :
    (s.raiseArm n k d).timebase = s.timebase := rfl
@[simp] theorem State.raiseArm_meters (s : State) (n : Arm) (k : ArmNotice) (d : Option Nat) :
    (s.raiseArm n k d).meters = s.meters := rfl
@[simp] theorem State.raiseArm_scan (s : State) (n : Arm) (k : ArmNotice) (d : Option Nat) :
    (s.raiseArm n k d).scan = s.scan := rfl
@[simp] theorem State.raiseArm_recipes (s : State) (n : Arm) (k : ArmNotice) (d : Option Nat) :
    (s.raiseArm n k d).recipes = s.recipes := rfl
@[simp] theorem State.raiseArm_arms (s : State) (n : Arm) (k : ArmNotice) (d : Option Nat) :
    (s.raiseArm n k d).arms = s.arms := rfl
@[simp] theorem State.raiseArm_settings (s : State) (n : Arm) (k : ArmNotice) (d : Option Nat) :
    (s.raiseArm n k d).settings = s.settings := rfl
@[simp] theorem State.raiseArm_header (s : State) (n : Arm) (k : ArmNotice) (d : Option Nat) :
    (s.raiseArm n k d).header = s.header := rfl
@[simp] theorem State.raiseArm_units (s : State) (n : Arm) (k : ArmNotice) (d : Option Nat) :
    (s.raiseArm n k d).units = s.units := rfl
@[simp] theorem State.raiseArm_records (s : State) (n : Arm) (k : ArmNotice) (d : Option Nat) :
    (s.raiseArm n k d).records = s.records := rfl
@[simp] theorem State.raiseArm_stop (s : State) (n : Arm) (k : ArmNotice) (d : Option Nat) :
    (s.raiseArm n k d).stop = s.stop := rfl
@[simp] theorem State.raiseArm_supervisor (s : State) (n : Arm) (k : ArmNotice) (d : Option Nat) :
    (s.raiseArm n k d).supervisor = s.supervisor := rfl
@[simp] theorem State.raiseArm_armLines (s : State) (n : Arm) (k : ArmNotice) (d : Option Nat) :
    (s.raiseArm n k d).armLines = s.armLines.upd n fun x => { x with notices := raiseIn ArmNotice.key k d x.notices } := rfl
@[simp] theorem State.raiseArm_clock (s : State) (n : Arm) (k : ArmNotice) (d : Option Nat) :
    (s.raiseArm n k d).clock = s.clock := rfl
@[simp] theorem State.raiseArm_clockRemaining (s : State) (n : Arm) (k : ArmNotice) (d : Option Nat) :
    (s.raiseArm n k d).clockRemaining = s.clockRemaining := rfl
@[simp] theorem State.raiseArm_address (s : State) (n : Arm) (k : ArmNotice) (d : Option Nat) :
    (s.raiseArm n k d).address = s.address := rfl
@[simp] theorem State.raiseArm_addressPins (s : State) (n : Arm) (k : ArmNotice) (d : Option Nat) :
    (s.raiseArm n k d).addressPins = s.addressPins := rfl
@[simp] theorem State.raiseArm_addressInputs (s : State) (n : Arm) (k : ArmNotice) (d : Option Nat) :
    (s.raiseArm n k d).addressInputs = s.addressInputs := rfl

/-! ### `State.retriggerFlow` -/

@[simp] theorem State.retriggerFlow_pending (s : State) (a : Arm) : (s.retriggerFlow a).pending = s.pending := rfl
@[simp] theorem State.retriggerFlow_timebase (s : State) (a : Arm) : (s.retriggerFlow a).timebase = s.timebase := rfl
@[simp] theorem State.retriggerFlow_meters (s : State) (a : Arm) : (s.retriggerFlow a).meters = s.meters := rfl
@[simp] theorem State.retriggerFlow_scan (s : State) (a : Arm) : (s.retriggerFlow a).scan = s.scan := rfl
@[simp] theorem State.retriggerFlow_recipes (s : State) (a : Arm) : (s.retriggerFlow a).recipes = s.recipes := rfl
@[simp] theorem State.retriggerFlow_arms (s : State) (a : Arm) : (s.retriggerFlow a).arms = s.arms := rfl
@[simp] theorem State.retriggerFlow_settings (s : State) (a : Arm) : (s.retriggerFlow a).settings = s.settings := rfl
@[simp] theorem State.retriggerFlow_units (s : State) (a : Arm) : (s.retriggerFlow a).units = s.units := rfl
@[simp] theorem State.retriggerFlow_records (s : State) (a : Arm) : (s.retriggerFlow a).records = s.records := rfl
@[simp] theorem State.retriggerFlow_stop (s : State) (a : Arm) : (s.retriggerFlow a).stop = s.stop := rfl
@[simp] theorem State.retriggerFlow_supervisor (s : State) (a : Arm) : (s.retriggerFlow a).supervisor = s.supervisor := rfl
@[simp] theorem State.retriggerFlow_armLines (s : State) (a : Arm) : (s.retriggerFlow a).armLines = s.armLines := rfl
@[simp] theorem State.retriggerFlow_clock (s : State) (a : Arm) : (s.retriggerFlow a).clock = s.clock := rfl
@[simp] theorem State.retriggerFlow_clockRemaining (s : State) (a : Arm) :
    (s.retriggerFlow a).clockRemaining = s.clockRemaining := rfl
@[simp] theorem State.retriggerFlow_address (s : State) (a : Arm) : (s.retriggerFlow a).address = s.address := rfl
@[simp] theorem State.retriggerFlow_addressPins (s : State) (a : Arm) :
    (s.retriggerFlow a).addressPins = s.addressPins := rfl
@[simp] theorem State.retriggerFlow_addressInputs (s : State) (a : Arm) :
    (s.retriggerFlow a).addressInputs = s.addressInputs := rfl

/-! ### `State.stopNotices` -/

@[simp] theorem State.stopNotices_pending (s : State) : (s.stopNotices).pending = s.pending := rfl
@[simp] theorem State.stopNotices_timebase (s : State) : (s.stopNotices).timebase = s.timebase := rfl
@[simp] theorem State.stopNotices_meters (s : State) : (s.stopNotices).meters = s.meters := rfl
@[simp] theorem State.stopNotices_scan (s : State) : (s.stopNotices).scan = s.scan := rfl
@[simp] theorem State.stopNotices_recipes (s : State) : (s.stopNotices).recipes = s.recipes := rfl
@[simp] theorem State.stopNotices_arms (s : State) : (s.stopNotices).arms = s.arms := rfl
@[simp] theorem State.stopNotices_settings (s : State) : (s.stopNotices).settings = s.settings := rfl
@[simp] theorem State.stopNotices_header (s : State) : (s.stopNotices).header = s.header := rfl
@[simp] theorem State.stopNotices_units (s : State) : (s.stopNotices).units = s.units := rfl
@[simp] theorem State.stopNotices_records (s : State) : (s.stopNotices).records = s.records := rfl
@[simp] theorem State.stopNotices_stop (s : State) : (s.stopNotices).stop = s.stop := rfl
@[simp] theorem State.stopNotices_supervisor (s : State) :
    (s.stopNotices).supervisor = { s.supervisor with notices := raiseIn SupNotice.key .stopChanged none s.supervisor.notices } := rfl
@[simp] theorem State.stopNotices_clock (s : State) : (s.stopNotices).clock = s.clock := rfl
@[simp] theorem State.stopNotices_clockRemaining (s : State) : (s.stopNotices).clockRemaining = s.clockRemaining := rfl
@[simp] theorem State.stopNotices_address (s : State) : (s.stopNotices).address = s.address := rfl
@[simp] theorem State.stopNotices_addressPins (s : State) : (s.stopNotices).addressPins = s.addressPins := rfl
@[simp] theorem State.stopNotices_addressInputs (s : State) : (s.stopNotices).addressInputs = s.addressInputs := rfl

/-! ### `State.nextChannel` -/

@[simp] theorem State.nextChannel_pending (s : State) : (s.nextChannel).pending = s.pending := rfl
@[simp] theorem State.nextChannel_timebase (s : State) : (s.nextChannel).timebase = s.timebase := rfl
@[simp] theorem State.nextChannel_meters (s : State) : (s.nextChannel).meters = s.meters := rfl
@[simp] theorem State.nextChannel_scan (s : State) :
    (s.nextChannel).scan = { s.scan with position := s.scan.position + 1, remaining := Config.conversionTicks } := rfl
@[simp] theorem State.nextChannel_recipes (s : State) : (s.nextChannel).recipes = s.recipes := rfl
@[simp] theorem State.nextChannel_arms (s : State) : (s.nextChannel).arms = s.arms := rfl
@[simp] theorem State.nextChannel_settings (s : State) : (s.nextChannel).settings = s.settings := rfl
@[simp] theorem State.nextChannel_header (s : State) : (s.nextChannel).header = s.header := rfl
@[simp] theorem State.nextChannel_units (s : State) : (s.nextChannel).units = s.units := rfl
@[simp] theorem State.nextChannel_records (s : State) : (s.nextChannel).records = s.records := rfl
@[simp] theorem State.nextChannel_stop (s : State) : (s.nextChannel).stop = s.stop := rfl
@[simp] theorem State.nextChannel_supervisor (s : State) : (s.nextChannel).supervisor = s.supervisor := rfl
@[simp] theorem State.nextChannel_armLines (s : State) : (s.nextChannel).armLines = s.armLines := rfl
@[simp] theorem State.nextChannel_clock (s : State) : (s.nextChannel).clock = s.clock := rfl
@[simp] theorem State.nextChannel_clockRemaining (s : State) : (s.nextChannel).clockRemaining = s.clockRemaining := rfl
@[simp] theorem State.nextChannel_address (s : State) : (s.nextChannel).address = s.address := rfl
@[simp] theorem State.nextChannel_addressPins (s : State) : (s.nextChannel).addressPins = s.addressPins := rfl
@[simp] theorem State.nextChannel_addressInputs (s : State) : (s.nextChannel).addressInputs = s.addressInputs := rfl

/-! ### `State.clearCounters` -/

@[simp] theorem State.clearCounters_pending (s : State) : (s.clearCounters).pending = s.pending := rfl
@[simp] theorem State.clearCounters_timebase (s : State) : (s.clearCounters).timebase = s.timebase := rfl
@[simp] theorem State.clearCounters_meters (s : State) : (s.clearCounters).meters = s.meters := rfl
@[simp] theorem State.clearCounters_scan (s : State) : (s.clearCounters).scan = s.scan := rfl
@[simp] theorem State.clearCounters_recipes (s : State) : (s.clearCounters).recipes = s.recipes := rfl
@[simp] theorem State.clearCounters_arms (s : State) : (s.clearCounters).arms = s.arms := rfl
@[simp] theorem State.clearCounters_settings (s : State) : (s.clearCounters).settings = s.settings := rfl
@[simp] theorem State.clearCounters_header (s : State) : (s.clearCounters).header = s.header := rfl
@[simp] theorem State.clearCounters_units (s : State) : (s.clearCounters).units = s.units := rfl
@[simp] theorem State.clearCounters_records (s : State) : (s.clearCounters).records = s.records := rfl
@[simp] theorem State.clearCounters_stop (s : State) : (s.clearCounters).stop = s.stop := rfl
@[simp] theorem State.clearCounters_clock (s : State) : (s.clearCounters).clock = s.clock := rfl
@[simp] theorem State.clearCounters_clockRemaining (s : State) : (s.clearCounters).clockRemaining = s.clockRemaining := rfl
@[simp] theorem State.clearCounters_address (s : State) : (s.clearCounters).address = s.address := rfl
@[simp] theorem State.clearCounters_addressPins (s : State) : (s.clearCounters).addressPins = s.addressPins := rfl
@[simp] theorem State.clearCounters_addressInputs (s : State) : (s.clearCounters).addressInputs = s.addressInputs := rfl

/-! ### `State.modLine`, on each kind of line -/

@[simp] theorem State.modLine_sup_pending (s : State) (f : LineState → LineState) :
    (s.modLine .supervisor f).pending = s.pending := rfl
@[simp] theorem State.modLine_sup_timebase (s : State) (f : LineState → LineState) :
    (s.modLine .supervisor f).timebase = s.timebase := rfl
@[simp] theorem State.modLine_sup_meters (s : State) (f : LineState → LineState) :
    (s.modLine .supervisor f).meters = s.meters := rfl
@[simp] theorem State.modLine_sup_scan (s : State) (f : LineState → LineState) :
    (s.modLine .supervisor f).scan = s.scan := rfl
@[simp] theorem State.modLine_sup_recipes (s : State) (f : LineState → LineState) :
    (s.modLine .supervisor f).recipes = s.recipes := rfl
@[simp] theorem State.modLine_sup_arms (s : State) (f : LineState → LineState) :
    (s.modLine .supervisor f).arms = s.arms := rfl
@[simp] theorem State.modLine_sup_settings (s : State) (f : LineState → LineState) :
    (s.modLine .supervisor f).settings = s.settings := rfl
@[simp] theorem State.modLine_sup_header (s : State) (f : LineState → LineState) :
    (s.modLine .supervisor f).header = s.header := rfl
@[simp] theorem State.modLine_sup_units (s : State) (f : LineState → LineState) :
    (s.modLine .supervisor f).units = s.units := rfl
@[simp] theorem State.modLine_sup_records (s : State) (f : LineState → LineState) :
    (s.modLine .supervisor f).records = s.records := rfl
@[simp] theorem State.modLine_sup_stop (s : State) (f : LineState → LineState) :
    (s.modLine .supervisor f).stop = s.stop := rfl
@[simp] theorem State.modLine_sup_armLines (s : State) (f : LineState → LineState) :
    (s.modLine .supervisor f).armLines = s.armLines := rfl
@[simp] theorem State.modLine_sup_clock (s : State) (f : LineState → LineState) :
    (s.modLine .supervisor f).clock = s.clock := rfl
@[simp] theorem State.modLine_sup_clockRemaining (s : State) (f : LineState → LineState) :
    (s.modLine .supervisor f).clockRemaining = s.clockRemaining := rfl
@[simp] theorem State.modLine_sup_address (s : State) (f : LineState → LineState) :
    (s.modLine .supervisor f).address = s.address := rfl
@[simp] theorem State.modLine_sup_addressPins (s : State) (f : LineState → LineState) :
    (s.modLine .supervisor f).addressPins = s.addressPins := rfl
@[simp] theorem State.modLine_sup_addressInputs (s : State) (f : LineState → LineState) :
    (s.modLine .supervisor f).addressInputs = s.addressInputs := rfl
@[simp] theorem State.modLine_sup_supervisor (s : State) (f : LineState → LineState) :
    (s.modLine .supervisor f).supervisor = { s.supervisor with line := f s.supervisor.line } := rfl
@[simp] theorem State.modLine_arm_pending (s : State) (n : Arm) (f : LineState → LineState) :
    (s.modLine (.arm n) f).pending = s.pending := rfl
@[simp] theorem State.modLine_arm_timebase (s : State) (n : Arm) (f : LineState → LineState) :
    (s.modLine (.arm n) f).timebase = s.timebase := rfl
@[simp] theorem State.modLine_arm_meters (s : State) (n : Arm) (f : LineState → LineState) :
    (s.modLine (.arm n) f).meters = s.meters := rfl
@[simp] theorem State.modLine_arm_scan (s : State) (n : Arm) (f : LineState → LineState) :
    (s.modLine (.arm n) f).scan = s.scan := rfl
@[simp] theorem State.modLine_arm_recipes (s : State) (n : Arm) (f : LineState → LineState) :
    (s.modLine (.arm n) f).recipes = s.recipes := rfl
@[simp] theorem State.modLine_arm_arms (s : State) (n : Arm) (f : LineState → LineState) :
    (s.modLine (.arm n) f).arms = s.arms := rfl
@[simp] theorem State.modLine_arm_settings (s : State) (n : Arm) (f : LineState → LineState) :
    (s.modLine (.arm n) f).settings = s.settings := rfl
@[simp] theorem State.modLine_arm_header (s : State) (n : Arm) (f : LineState → LineState) :
    (s.modLine (.arm n) f).header = s.header := rfl
@[simp] theorem State.modLine_arm_units (s : State) (n : Arm) (f : LineState → LineState) :
    (s.modLine (.arm n) f).units = s.units := rfl
@[simp] theorem State.modLine_arm_records (s : State) (n : Arm) (f : LineState → LineState) :
    (s.modLine (.arm n) f).records = s.records := rfl
@[simp] theorem State.modLine_arm_stop (s : State) (n : Arm) (f : LineState → LineState) :
    (s.modLine (.arm n) f).stop = s.stop := rfl
@[simp] theorem State.modLine_arm_supervisor (s : State) (n : Arm) (f : LineState → LineState) :
    (s.modLine (.arm n) f).supervisor = s.supervisor := rfl
@[simp] theorem State.modLine_arm_clock (s : State) (n : Arm) (f : LineState → LineState) :
    (s.modLine (.arm n) f).clock = s.clock := rfl
@[simp] theorem State.modLine_arm_clockRemaining (s : State) (n : Arm) (f : LineState → LineState) :
    (s.modLine (.arm n) f).clockRemaining = s.clockRemaining := rfl
@[simp] theorem State.modLine_arm_address (s : State) (n : Arm) (f : LineState → LineState) :
    (s.modLine (.arm n) f).address = s.address := rfl
@[simp] theorem State.modLine_arm_addressPins (s : State) (n : Arm) (f : LineState → LineState) :
    (s.modLine (.arm n) f).addressPins = s.addressPins := rfl
@[simp] theorem State.modLine_arm_addressInputs (s : State) (n : Arm) (f : LineState → LineState) :
    (s.modLine (.arm n) f).addressInputs = s.addressInputs := rfl
@[simp] theorem State.modLine_arm_armLines (s : State) (n : Arm) (f : LineState → LineState) :
    (s.modLine (.arm n) f).armLines = s.armLines.upd n fun x => { x with line := f x.line } := rfl

end Sys2Proof.Machine
end

