-- ==== Sys2Proof/Laws/Frames.lean ====
section
/-! SUPPORT. Which fields each shared operation leaves alone: for each operation one lemma that says it of all of them at
once, which `simp` uses part by part. -/

namespace Sys2Proof.Machine

/-- Two states with the same fields are the same state. -/
theorem State.eq_of_fields {s t : State} (pending : s.pending = t.pending)
    (timebase : s.timebase = t.timebase)
    (meters : s.meters = t.meters)
    (scan : s.scan = t.scan)
    (recipes : s.recipes = t.recipes)
    (arms : s.arms = t.arms)
    (settings : s.settings = t.settings)
    (header : s.header = t.header)
    (units : s.units = t.units)
    (records : s.records = t.records)
    (stop : s.stop = t.stop)
    (supervisor : s.supervisor = t.supervisor)
    (armLines : s.armLines = t.armLines)
    (clock : s.clock = t.clock)
    (clockRemaining : s.clockRemaining = t.clockRemaining)
    (address : s.address = t.address)
    (addressPins : s.addressPins = t.addressPins)
    (addressInputs : s.addressInputs = t.addressInputs) : s = t := by
  cases s; cases t; simp_all

/-- What each step of a fold keeps, the fold keeps. -/
theorem foldl_keep {α β γ : Type} (f : β → α → β) (g : β → γ) (h : ∀ b a, g (f b a) = g b) (l : List α) (b : β) :
    g (l.foldl f b) = g b := by
  induction l generalizing b with
  | nil => rfl
  | cons a l ih => rw [List.foldl_cons, ih, h]

@[simp] theorem State.grants_frame (s : State) :
    (s.grants).pending = s.pending ∧ (s.grants).timebase = s.timebase ∧ (s.grants).meters = s.meters ∧
    (s.grants).scan = s.scan ∧ (s.grants).recipes = s.recipes ∧ (s.grants).arms = s.arms ∧
    (s.grants).settings = s.settings ∧ (s.grants).units = s.units ∧ (s.grants).records = s.records ∧
    (s.grants).stop = s.stop ∧ (s.grants).supervisor = s.supervisor ∧ (s.grants).armLines = s.armLines ∧
    (s.grants).clock = s.clock ∧ (s.grants).clockRemaining = s.clockRemaining ∧ (s.grants).address = s.address ∧
    (s.grants).addressPins = s.addressPins ∧ (s.grants).addressInputs = s.addressInputs := by
  unfold State.grants
  repeat' split
  all_goals simp

@[simp] theorem State.ethanolWanted_frame (s : State) (a : Arm) :
    (s.ethanolWanted a).pending = s.pending ∧ (s.ethanolWanted a).timebase = s.timebase ∧
    (s.ethanolWanted a).meters = s.meters ∧ (s.ethanolWanted a).scan = s.scan ∧
    (s.ethanolWanted a).recipes = s.recipes ∧ (s.ethanolWanted a).arms = s.arms ∧
    (s.ethanolWanted a).settings = s.settings ∧ (s.ethanolWanted a).units = s.units ∧
    (s.ethanolWanted a).records = s.records ∧ (s.ethanolWanted a).stop = s.stop ∧
    (s.ethanolWanted a).supervisor = s.supervisor ∧ (s.ethanolWanted a).armLines = s.armLines ∧
    (s.ethanolWanted a).clock = s.clock ∧ (s.ethanolWanted a).clockRemaining = s.clockRemaining ∧
    (s.ethanolWanted a).address = s.address ∧ (s.ethanolWanted a).addressPins = s.addressPins ∧
    (s.ethanolWanted a).addressInputs = s.addressInputs := by
  unfold State.ethanolWanted
  repeat' split
  all_goals simp

@[simp] theorem State.leaveHeader_frame (s : State) (a : Arm) :
    (s.leaveHeader a).pending = s.pending ∧ (s.leaveHeader a).timebase = s.timebase ∧
    (s.leaveHeader a).meters = s.meters ∧ (s.leaveHeader a).scan = s.scan ∧ (s.leaveHeader a).recipes = s.recipes ∧
    (s.leaveHeader a).settings = s.settings ∧ (s.leaveHeader a).units = s.units ∧
    (s.leaveHeader a).records = s.records ∧ (s.leaveHeader a).stop = s.stop ∧
    (s.leaveHeader a).supervisor = s.supervisor ∧ (s.leaveHeader a).armLines = s.armLines ∧
    (s.leaveHeader a).clock = s.clock ∧ (s.leaveHeader a).clockRemaining = s.clockRemaining ∧
    (s.leaveHeader a).address = s.address ∧ (s.leaveHeader a).addressPins = s.addressPins ∧
    (s.leaveHeader a).addressInputs = s.addressInputs := by
  unfold State.leaveHeader
  repeat' split
  all_goals simp

@[simp] theorem State.ethanolResult_frame (s : State) (a : Arm) :
    (s.ethanolResult a).pending = s.pending ∧ (s.ethanolResult a).timebase = s.timebase ∧
    (s.ethanolResult a).meters = s.meters ∧ (s.ethanolResult a).scan = s.scan ∧
    (s.ethanolResult a).recipes = s.recipes ∧ (s.ethanolResult a).settings = s.settings ∧
    (s.ethanolResult a).units = s.units ∧ (s.ethanolResult a).records = s.records ∧
    (s.ethanolResult a).stop = s.stop ∧ (s.ethanolResult a).supervisor = s.supervisor ∧
    (s.ethanolResult a).armLines = s.armLines ∧ (s.ethanolResult a).clock = s.clock ∧
    (s.ethanolResult a).clockRemaining = s.clockRemaining ∧ (s.ethanolResult a).address = s.address ∧
    (s.ethanolResult a).addressPins = s.addressPins ∧ (s.ethanolResult a).addressInputs = s.addressInputs := by
  unfold State.ethanolResult
  repeat' split
  all_goals simp

@[simp] theorem State.closeAll_frame (s : State) (l : List Arm) :
    (s.closeAll l).pending = s.pending ∧ (s.closeAll l).timebase = s.timebase ∧ (s.closeAll l).meters = s.meters ∧
    (s.closeAll l).scan = s.scan ∧ (s.closeAll l).recipes = s.recipes ∧ (s.closeAll l).settings = s.settings ∧
    (s.closeAll l).header = s.header ∧ (s.closeAll l).units = s.units ∧ (s.closeAll l).records = s.records ∧
    (s.closeAll l).stop = s.stop ∧ (s.closeAll l).supervisor = s.supervisor ∧ (s.closeAll l).armLines = s.armLines ∧
    (s.closeAll l).clock = s.clock ∧ (s.closeAll l).clockRemaining = s.clockRemaining ∧
    (s.closeAll l).address = s.address ∧ (s.closeAll l).addressPins = s.addressPins ∧
    (s.closeAll l).addressInputs = s.addressInputs := by
  unfold State.closeAll
  exact ⟨foldl_keep State.valveCloses State.pending (fun _ _ => rfl) _ _,
    foldl_keep State.valveCloses State.timebase (fun _ _ => rfl) _ _,
    foldl_keep State.valveCloses State.meters (fun _ _ => rfl) _ _,
    foldl_keep State.valveCloses State.scan (fun _ _ => rfl) _ _,
    foldl_keep State.valveCloses State.recipes (fun _ _ => rfl) _ _,
    foldl_keep State.valveCloses State.settings (fun _ _ => rfl) _ _,
    foldl_keep State.valveCloses State.header (fun _ _ => rfl) _ _,
    foldl_keep State.valveCloses State.units (fun _ _ => rfl) _ _,
    foldl_keep State.valveCloses State.records (fun _ _ => rfl) _ _,
    foldl_keep State.valveCloses State.stop (fun _ _ => rfl) _ _,
    foldl_keep State.valveCloses State.supervisor (fun _ _ => rfl) _ _,
    foldl_keep State.valveCloses State.armLines (fun _ _ => rfl) _ _,
    foldl_keep State.valveCloses State.clock (fun _ _ => rfl) _ _,
    foldl_keep State.valveCloses State.clockRemaining (fun _ _ => rfl) _ _,
    foldl_keep State.valveCloses State.address (fun _ _ => rfl) _ _,
    foldl_keep State.valveCloses State.addressPins (fun _ _ => rfl) _ _,
    foldl_keep State.valveCloses State.addressInputs (fun _ _ => rfl) _ _⟩

@[simp] theorem State.revokeFrom_frame (s : State) (n : Nat) :
    (s.revokeFrom n).pending = s.pending ∧ (s.revokeFrom n).timebase = s.timebase ∧
    (s.revokeFrom n).meters = s.meters ∧ (s.revokeFrom n).scan = s.scan ∧ (s.revokeFrom n).recipes = s.recipes ∧
    (s.revokeFrom n).settings = s.settings ∧ (s.revokeFrom n).units = s.units ∧ (s.revokeFrom n).records = s.records ∧
    (s.revokeFrom n).stop = s.stop ∧ (s.revokeFrom n).supervisor = s.supervisor ∧
    (s.revokeFrom n).armLines = s.armLines ∧ (s.revokeFrom n).clock = s.clock ∧
    (s.revokeFrom n).clockRemaining = s.clockRemaining ∧ (s.revokeFrom n).address = s.address ∧
    (s.revokeFrom n).addressPins = s.addressPins ∧ (s.revokeFrom n).addressInputs = s.addressInputs := by
  simp [State.revokeFrom]

@[simp] theorem State.revokeAll_frame (s : State) :
    (s.revokeAll).pending = s.pending ∧ (s.revokeAll).timebase = s.timebase ∧ (s.revokeAll).meters = s.meters ∧
    (s.revokeAll).scan = s.scan ∧ (s.revokeAll).recipes = s.recipes ∧ (s.revokeAll).settings = s.settings ∧
    (s.revokeAll).units = s.units ∧ (s.revokeAll).records = s.records ∧ (s.revokeAll).stop = s.stop ∧
    (s.revokeAll).supervisor = s.supervisor ∧ (s.revokeAll).armLines = s.armLines ∧ (s.revokeAll).clock = s.clock ∧
    (s.revokeAll).clockRemaining = s.clockRemaining ∧ (s.revokeAll).address = s.address ∧
    (s.revokeAll).addressPins = s.addressPins ∧ (s.revokeAll).addressInputs = s.addressInputs := by
  simp [State.revokeAll]

@[simp] theorem State.holdExpires_frame (s : State) (a : Arm) :
    (s.holdExpires a).pending = s.pending ∧ (s.holdExpires a).timebase = s.timebase ∧
    (s.holdExpires a).meters = s.meters ∧ (s.holdExpires a).scan = s.scan ∧ (s.holdExpires a).recipes = s.recipes ∧
    (s.holdExpires a).settings = s.settings ∧ (s.holdExpires a).units = s.units ∧
    (s.holdExpires a).records = s.records ∧ (s.holdExpires a).stop = s.stop ∧
    (s.holdExpires a).supervisor = s.supervisor ∧ (s.holdExpires a).armLines = s.armLines ∧
    (s.holdExpires a).clock = s.clock ∧ (s.holdExpires a).clockRemaining = s.clockRemaining ∧
    (s.holdExpires a).address = s.address ∧ (s.holdExpires a).addressPins = s.addressPins ∧
    (s.holdExpires a).addressInputs = s.addressInputs := by
  unfold State.holdExpires
  dsimp only
  repeat' split
  all_goals simp

@[simp] theorem State.takeHead_frame (s : State) (u : UnitNo) :
    (s.takeHead u).pending = s.pending ∧ (s.takeHead u).timebase = s.timebase ∧ (s.takeHead u).meters = s.meters ∧
    (s.takeHead u).scan = s.scan ∧ (s.takeHead u).recipes = s.recipes ∧ (s.takeHead u).settings = s.settings ∧
    (s.takeHead u).header = s.header ∧ (s.takeHead u).records = s.records ∧ (s.takeHead u).stop = s.stop ∧
    (s.takeHead u).supervisor = s.supervisor ∧ (s.takeHead u).armLines = s.armLines ∧ (s.takeHead u).clock = s.clock ∧
    (s.takeHead u).clockRemaining = s.clockRemaining ∧ (s.takeHead u).address = s.address ∧
    (s.takeHead u).addressPins = s.addressPins ∧ (s.takeHead u).addressInputs = s.addressInputs := by
  unfold State.takeHead
  dsimp only
  repeat' split
  all_goals simp

@[simp] theorem State.enqueue_frame (s : State) (u : UnitNo) (a : Arm) :
    (s.enqueue u a).pending = s.pending ∧ (s.enqueue u a).timebase = s.timebase ∧ (s.enqueue u a).meters = s.meters ∧
    (s.enqueue u a).scan = s.scan ∧ (s.enqueue u a).recipes = s.recipes ∧ (s.enqueue u a).settings = s.settings ∧
    (s.enqueue u a).header = s.header ∧ (s.enqueue u a).records = s.records ∧ (s.enqueue u a).stop = s.stop ∧
    (s.enqueue u a).supervisor = s.supervisor ∧ (s.enqueue u a).armLines = s.armLines ∧
    (s.enqueue u a).clock = s.clock ∧ (s.enqueue u a).clockRemaining = s.clockRemaining ∧
    (s.enqueue u a).address = s.address ∧ (s.enqueue u a).addressPins = s.addressPins ∧
    (s.enqueue u a).addressInputs = s.addressInputs := by
  simp [State.enqueue]

@[simp] theorem State.additiveDue_frame (s : State) (u : UnitNo) (a : Arm) :
    (s.additiveDue u a).pending = s.pending ∧ (s.additiveDue u a).timebase = s.timebase ∧
    (s.additiveDue u a).meters = s.meters ∧ (s.additiveDue u a).scan = s.scan ∧
    (s.additiveDue u a).recipes = s.recipes ∧ (s.additiveDue u a).settings = s.settings ∧
    (s.additiveDue u a).header = s.header ∧ (s.additiveDue u a).records = s.records ∧
    (s.additiveDue u a).stop = s.stop ∧ (s.additiveDue u a).supervisor = s.supervisor ∧
    (s.additiveDue u a).armLines = s.armLines ∧ (s.additiveDue u a).clock = s.clock ∧
    (s.additiveDue u a).clockRemaining = s.clockRemaining ∧ (s.additiveDue u a).address = s.address ∧
    (s.additiveDue u a).addressPins = s.addressPins ∧ (s.additiveDue u a).addressInputs = s.addressInputs := by
  unfold State.additiveDue
  dsimp only
  repeat' split
  all_goals simp

@[simp] theorem State.additiveResults_frame (s : State) (a : Arm) :
    (s.additiveResults a).pending = s.pending ∧ (s.additiveResults a).timebase = s.timebase ∧
    (s.additiveResults a).meters = s.meters ∧ (s.additiveResults a).scan = s.scan ∧
    (s.additiveResults a).recipes = s.recipes ∧ (s.additiveResults a).settings = s.settings ∧
    (s.additiveResults a).header = s.header ∧ (s.additiveResults a).records = s.records ∧
    (s.additiveResults a).stop = s.stop ∧ (s.additiveResults a).supervisor = s.supervisor ∧
    (s.additiveResults a).armLines = s.armLines ∧ (s.additiveResults a).clock = s.clock ∧
    (s.additiveResults a).clockRemaining = s.clockRemaining ∧ (s.additiveResults a).address = s.address ∧
    (s.additiveResults a).addressPins = s.addressPins ∧ (s.additiveResults a).addressInputs = s.addressInputs := by
  unfold State.additiveResults
  split
  · simp
  · refine ⟨?_, ?_, ?_, ?_, ?_, ?_, ?_, ?_, ?_, ?_, ?_, ?_, ?_, ?_, ?_, ?_⟩
    · exact foldl_keep _ State.pending (by intro b i; split <;> simp) _ _
    · exact foldl_keep _ State.timebase (by intro b i; split <;> simp) _ _
    · exact foldl_keep _ State.meters (by intro b i; split <;> simp) _ _
    · exact foldl_keep _ State.scan (by intro b i; split <;> simp) _ _
    · exact foldl_keep _ State.recipes (by intro b i; split <;> simp) _ _
    · exact foldl_keep _ State.settings (by intro b i; split <;> simp) _ _
    · exact foldl_keep _ State.header (by intro b i; split <;> simp) _ _
    · exact foldl_keep _ State.records (by intro b i; split <;> simp) _ _
    · exact foldl_keep _ State.stop (by intro b i; split <;> simp) _ _
    · exact foldl_keep _ State.supervisor (by intro b i; split <;> simp) _ _
    · exact foldl_keep _ State.armLines (by intro b i; split <;> simp) _ _
    · exact foldl_keep _ State.clock (by intro b i; split <;> simp) _ _
    · exact foldl_keep _ State.clockRemaining (by intro b i; split <;> simp) _ _
    · exact foldl_keep _ State.address (by intro b i; split <;> simp) _ _
    · exact foldl_keep _ State.addressPins (by intro b i; split <;> simp) _ _
    · exact foldl_keep _ State.addressInputs (by intro b i; split <;> simp) _ _

@[simp] theorem State.recordsWaiting_frame (s : State) :
    (s.recordsWaiting).pending = s.pending ∧ (s.recordsWaiting).timebase = s.timebase ∧
    (s.recordsWaiting).meters = s.meters ∧ (s.recordsWaiting).scan = s.scan ∧ (s.recordsWaiting).recipes = s.recipes ∧
    (s.recordsWaiting).arms = s.arms ∧ (s.recordsWaiting).settings = s.settings ∧
    (s.recordsWaiting).header = s.header ∧ (s.recordsWaiting).units = s.units ∧
    (s.recordsWaiting).records = s.records ∧ (s.recordsWaiting).stop = s.stop ∧
    (s.recordsWaiting).armLines = s.armLines ∧ (s.recordsWaiting).clock = s.clock ∧
    (s.recordsWaiting).clockRemaining = s.clockRemaining ∧ (s.recordsWaiting).address = s.address ∧
    (s.recordsWaiting).addressPins = s.addressPins ∧ (s.recordsWaiting).addressInputs = s.addressInputs := by
  simp [State.recordsWaiting]

@[simp] theorem State.triggerTest_frame (s : State) :
    (s.triggerTest).pending = s.pending ∧ (s.triggerTest).timebase = s.timebase ∧ (s.triggerTest).meters = s.meters ∧
    (s.triggerTest).scan = s.scan ∧ (s.triggerTest).recipes = s.recipes ∧ (s.triggerTest).arms = s.arms ∧
    (s.triggerTest).settings = s.settings ∧ (s.triggerTest).header = s.header ∧ (s.triggerTest).units = s.units ∧
    (s.triggerTest).records = s.records ∧ (s.triggerTest).stop = s.stop ∧ (s.triggerTest).armLines = s.armLines ∧
    (s.triggerTest).clock = s.clock ∧ (s.triggerTest).clockRemaining = s.clockRemaining ∧
    (s.triggerTest).address = s.address ∧ (s.triggerTest).addressPins = s.addressPins ∧
    (s.triggerTest).addressInputs = s.addressInputs := by
  unfold State.triggerTest
  repeat' split
  all_goals simp

@[simp] theorem State.handOff_frame (s : State) (a : Arm) :
    (s.handOff a).pending = s.pending ∧ (s.handOff a).timebase = s.timebase ∧ (s.handOff a).meters = s.meters ∧
    (s.handOff a).scan = s.scan ∧ (s.handOff a).settings = s.settings ∧ (s.handOff a).header = s.header ∧
    (s.handOff a).units = s.units ∧ (s.handOff a).stop = s.stop ∧ (s.handOff a).armLines = s.armLines ∧
    (s.handOff a).clock = s.clock ∧ (s.handOff a).clockRemaining = s.clockRemaining ∧
    (s.handOff a).address = s.address ∧ (s.handOff a).addressPins = s.addressPins ∧
    (s.handOff a).addressInputs = s.addressInputs := by
  unfold State.handOff
  dsimp only
  repeat' split
  all_goals simp

@[simp] theorem State.offer_frame (s : State) (a : Arm) :
    (s.offer a).pending = s.pending ∧ (s.offer a).timebase = s.timebase ∧ (s.offer a).meters = s.meters ∧
    (s.offer a).scan = s.scan ∧ (s.offer a).settings = s.settings ∧ (s.offer a).header = s.header ∧
    (s.offer a).units = s.units ∧ (s.offer a).stop = s.stop ∧ (s.offer a).armLines = s.armLines ∧
    (s.offer a).clock = s.clock ∧ (s.offer a).clockRemaining = s.clockRemaining ∧ (s.offer a).address = s.address ∧
    (s.offer a).addressPins = s.addressPins ∧ (s.offer a).addressInputs = s.addressInputs := by
  unfold State.offer
  dsimp only
  repeat' split
  all_goals simp

@[simp] theorem State.enterComplete_frame (s : State) (a : Arm) :
    (s.enterComplete a).pending = s.pending ∧ (s.enterComplete a).timebase = s.timebase ∧
    (s.enterComplete a).meters = s.meters ∧ (s.enterComplete a).scan = s.scan ∧
    (s.enterComplete a).settings = s.settings ∧ (s.enterComplete a).header = s.header ∧
    (s.enterComplete a).units = s.units ∧ (s.enterComplete a).stop = s.stop ∧ (s.enterComplete a).clock = s.clock ∧
    (s.enterComplete a).clockRemaining = s.clockRemaining ∧ (s.enterComplete a).address = s.address ∧
    (s.enterComplete a).addressPins = s.addressPins ∧ (s.enterComplete a).addressInputs = s.addressInputs := by
  unfold State.enterComplete
  dsimp only
  repeat' split
  all_goals simp

@[simp] theorem State.examine_frame (s : State) (a : Arm) :
    (s.examine a).pending = s.pending ∧ (s.examine a).timebase = s.timebase ∧ (s.examine a).meters = s.meters ∧
    (s.examine a).scan = s.scan ∧ (s.examine a).settings = s.settings ∧ (s.examine a).header = s.header ∧
    (s.examine a).units = s.units ∧ (s.examine a).stop = s.stop ∧ (s.examine a).clock = s.clock ∧
    (s.examine a).clockRemaining = s.clockRemaining ∧ (s.examine a).address = s.address ∧
    (s.examine a).addressPins = s.addressPins ∧ (s.examine a).addressInputs = s.addressInputs := by
  unfold State.examine
  repeat' split
  all_goals simp

@[simp] theorem State.setRestrict_frame (s : State) (a : Arm) (on : Bool) :
    (s.setRestrict a on).pending = s.pending ∧ (s.setRestrict a on).timebase = s.timebase ∧
    (s.setRestrict a on).meters = s.meters ∧ (s.setRestrict a on).scan = s.scan ∧
    (s.setRestrict a on).recipes = s.recipes ∧ (s.setRestrict a on).settings = s.settings ∧
    (s.setRestrict a on).header = s.header ∧ (s.setRestrict a on).units = s.units ∧
    (s.setRestrict a on).records = s.records ∧ (s.setRestrict a on).stop = s.stop ∧
    (s.setRestrict a on).supervisor = s.supervisor ∧ (s.setRestrict a on).clock = s.clock ∧
    (s.setRestrict a on).clockRemaining = s.clockRemaining ∧ (s.setRestrict a on).address = s.address ∧
    (s.setRestrict a on).addressPins = s.addressPins ∧ (s.setRestrict a on).addressInputs = s.addressInputs := by
  unfold State.setRestrict
  dsimp only
  repeat' split
  all_goals simp

@[simp] theorem State.enterFlowing_frame (s : State) (a : Arm) :
    (s.enterFlowing a).pending = s.pending ∧ (s.enterFlowing a).timebase = s.timebase ∧
    (s.enterFlowing a).meters = s.meters ∧ (s.enterFlowing a).scan = s.scan ∧ (s.enterFlowing a).recipes = s.recipes ∧
    (s.enterFlowing a).settings = s.settings ∧ (s.enterFlowing a).header = s.header ∧
    (s.enterFlowing a).units = s.units ∧ (s.enterFlowing a).records = s.records ∧ (s.enterFlowing a).stop = s.stop ∧
    (s.enterFlowing a).supervisor = s.supervisor ∧ (s.enterFlowing a).armLines = s.armLines ∧
    (s.enterFlowing a).clock = s.clock ∧ (s.enterFlowing a).clockRemaining = s.clockRemaining ∧
    (s.enterFlowing a).address = s.address ∧ (s.enterFlowing a).addressPins = s.addressPins ∧
    (s.enterFlowing a).addressInputs = s.addressInputs := by
  simp [State.enterFlowing]

@[simp] theorem State.enterPaused_frame (s : State) (a : Arm) (c : PauseCause) :
    (s.enterPaused a c).pending = s.pending ∧ (s.enterPaused a c).timebase = s.timebase ∧
    (s.enterPaused a c).meters = s.meters ∧ (s.enterPaused a c).scan = s.scan ∧
    (s.enterPaused a c).recipes = s.recipes ∧ (s.enterPaused a c).settings = s.settings ∧
    (s.enterPaused a c).records = s.records ∧ (s.enterPaused a c).stop = s.stop ∧
    (s.enterPaused a c).supervisor = s.supervisor ∧ (s.enterPaused a c).armLines = s.armLines ∧
    (s.enterPaused a c).clock = s.clock ∧ (s.enterPaused a c).clockRemaining = s.clockRemaining ∧
    (s.enterPaused a c).address = s.address ∧ (s.enterPaused a c).addressPins = s.addressPins ∧
    (s.enterPaused a c).addressInputs = s.addressInputs := by
  simp [State.enterPaused]

@[simp] theorem State.enterFlush_frame (s : State) (a : Arm) :
    (s.enterFlush a).pending = s.pending ∧ (s.enterFlush a).timebase = s.timebase ∧
    (s.enterFlush a).meters = s.meters ∧ (s.enterFlush a).scan = s.scan ∧ (s.enterFlush a).recipes = s.recipes ∧
    (s.enterFlush a).settings = s.settings ∧ (s.enterFlush a).units = s.units ∧ (s.enterFlush a).records = s.records ∧
    (s.enterFlush a).stop = s.stop ∧ (s.enterFlush a).supervisor = s.supervisor ∧ (s.enterFlush a).clock = s.clock ∧
    (s.enterFlush a).clockRemaining = s.clockRemaining ∧ (s.enterFlush a).address = s.address ∧
    (s.enterFlush a).addressPins = s.addressPins ∧ (s.enterFlush a).addressInputs = s.addressInputs := by
  simp [State.enterFlush]

@[simp] theorem State.enterHalted_frame (s : State) (a : Arm) (reason : HaltReason) :
    (s.enterHalted a reason).pending = s.pending ∧ (s.enterHalted a reason).timebase = s.timebase ∧
    (s.enterHalted a reason).meters = s.meters ∧ (s.enterHalted a reason).scan = s.scan ∧
    (s.enterHalted a reason).recipes = s.recipes ∧ (s.enterHalted a reason).settings = s.settings ∧
    (s.enterHalted a reason).records = s.records ∧ (s.enterHalted a reason).stop = s.stop ∧
    (s.enterHalted a reason).clock = s.clock ∧ (s.enterHalted a reason).clockRemaining = s.clockRemaining ∧
    (s.enterHalted a reason).address = s.address ∧ (s.enterHalted a reason).addressPins = s.addressPins ∧
    (s.enterHalted a reason).addressInputs = s.addressInputs := by
  simp [State.enterHalted]

@[simp] theorem State.halt_frame (s : State) (a : Arm) (reason : HaltReason) :
    (s.halt a reason).pending = s.pending ∧ (s.halt a reason).timebase = s.timebase ∧
    (s.halt a reason).meters = s.meters ∧ (s.halt a reason).scan = s.scan ∧ (s.halt a reason).recipes = s.recipes ∧
    (s.halt a reason).settings = s.settings ∧ (s.halt a reason).records = s.records ∧
    (s.halt a reason).stop = s.stop ∧ (s.halt a reason).clock = s.clock ∧
    (s.halt a reason).clockRemaining = s.clockRemaining ∧ (s.halt a reason).address = s.address ∧
    (s.halt a reason).addressPins = s.addressPins ∧ (s.halt a reason).addressInputs = s.addressInputs := by
  unfold State.halt
  repeat' split
  all_goals simp

@[simp] theorem State.enterFinishing_frame (s : State) (a : Arm) :
    (s.enterFinishing a).pending = s.pending ∧ (s.enterFinishing a).timebase = s.timebase ∧
    (s.enterFinishing a).meters = s.meters ∧ (s.enterFinishing a).scan = s.scan ∧
    (s.enterFinishing a).recipes = s.recipes ∧ (s.enterFinishing a).settings = s.settings ∧
    (s.enterFinishing a).records = s.records ∧ (s.enterFinishing a).stop = s.stop ∧
    (s.enterFinishing a).supervisor = s.supervisor ∧ (s.enterFinishing a).clock = s.clock ∧
    (s.enterFinishing a).clockRemaining = s.clockRemaining ∧ (s.enterFinishing a).address = s.address ∧
    (s.enterFinishing a).addressPins = s.addressPins ∧ (s.enterFinishing a).addressInputs = s.addressInputs := by
  simp [State.enterFinishing]

@[simp] theorem State.finalShot_frame (s : State) (a : Arm) (i : LoadItem) :
    (s.finalShot a i).pending = s.pending ∧ (s.finalShot a i).timebase = s.timebase ∧
    (s.finalShot a i).meters = s.meters ∧ (s.finalShot a i).scan = s.scan ∧ (s.finalShot a i).recipes = s.recipes ∧
    (s.finalShot a i).settings = s.settings ∧ (s.finalShot a i).header = s.header ∧
    (s.finalShot a i).records = s.records ∧ (s.finalShot a i).stop = s.stop ∧
    (s.finalShot a i).supervisor = s.supervisor ∧ (s.finalShot a i).armLines = s.armLines ∧
    (s.finalShot a i).clock = s.clock ∧ (s.finalShot a i).clockRemaining = s.clockRemaining ∧
    (s.finalShot a i).address = s.address ∧ (s.finalShot a i).addressPins = s.addressPins ∧
    (s.finalShot a i).addressInputs = s.addressInputs := by
  unfold State.finalShot
  dsimp only
  repeat' split
  all_goals simp

@[simp] theorem State.finalShots_frame (s : State) (a : Arm) :
    (s.finalShots a).pending = s.pending ∧ (s.finalShots a).timebase = s.timebase ∧
    (s.finalShots a).meters = s.meters ∧ (s.finalShots a).scan = s.scan ∧ (s.finalShots a).recipes = s.recipes ∧
    (s.finalShots a).settings = s.settings ∧ (s.finalShots a).header = s.header ∧
    (s.finalShots a).records = s.records ∧ (s.finalShots a).stop = s.stop ∧
    (s.finalShots a).supervisor = s.supervisor ∧ (s.finalShots a).armLines = s.armLines ∧
    (s.finalShots a).clock = s.clock ∧ (s.finalShots a).clockRemaining = s.clockRemaining ∧
    (s.finalShots a).address = s.address ∧ (s.finalShots a).addressPins = s.addressPins ∧
    (s.finalShots a).addressInputs = s.addressInputs := by
  unfold State.finalShots
  split
  · simp
  · refine ⟨?_, ?_, ?_, ?_, ?_, ?_, ?_, ?_, ?_, ?_, ?_, ?_, ?_, ?_, ?_, ?_⟩
    · exact foldl_keep _ State.pending (by simp) _ _
    · exact foldl_keep _ State.timebase (by simp) _ _
    · exact foldl_keep _ State.meters (by simp) _ _
    · exact foldl_keep _ State.scan (by simp) _ _
    · exact foldl_keep _ State.recipes (by simp) _ _
    · exact foldl_keep _ State.settings (by simp) _ _
    · exact foldl_keep _ State.header (by simp) _ _
    · exact foldl_keep _ State.records (by simp) _ _
    · exact foldl_keep _ State.stop (by simp) _ _
    · exact foldl_keep _ State.supervisor (by simp) _ _
    · exact foldl_keep _ State.armLines (by simp) _ _
    · exact foldl_keep _ State.clock (by simp) _ _
    · exact foldl_keep _ State.clockRemaining (by simp) _ _
    · exact foldl_keep _ State.address (by simp) _ _
    · exact foldl_keep _ State.addressPins (by simp) _ _
    · exact foldl_keep _ State.addressInputs (by simp) _ _

@[simp] theorem State.evalLow_frame (s : State) (u : UnitNo) :
    (s.evalLow u).pending = s.pending ∧ (s.evalLow u).timebase = s.timebase ∧ (s.evalLow u).meters = s.meters ∧
    (s.evalLow u).scan = s.scan ∧ (s.evalLow u).recipes = s.recipes ∧ (s.evalLow u).arms = s.arms ∧
    (s.evalLow u).settings = s.settings ∧ (s.evalLow u).header = s.header ∧ (s.evalLow u).records = s.records ∧
    (s.evalLow u).stop = s.stop ∧ (s.evalLow u).armLines = s.armLines ∧ (s.evalLow u).clock = s.clock ∧
    (s.evalLow u).clockRemaining = s.clockRemaining ∧ (s.evalLow u).address = s.address ∧
    (s.evalLow u).addressPins = s.addressPins ∧ (s.evalLow u).addressInputs = s.addressInputs := by
  unfold State.evalLow
  dsimp only
  repeat' split
  all_goals simp

@[simp] theorem State.loseUnit_frame (s : State) (u : UnitNo) (st : UnitState) (k : SupNotice) (d : Nat) :
    (s.loseUnit u st k d).pending = s.pending ∧ (s.loseUnit u st k d).timebase = s.timebase ∧
    (s.loseUnit u st k d).meters = s.meters ∧ (s.loseUnit u st k d).scan = s.scan ∧
    (s.loseUnit u st k d).recipes = s.recipes ∧ (s.loseUnit u st k d).settings = s.settings ∧
    (s.loseUnit u st k d).header = s.header ∧ (s.loseUnit u st k d).records = s.records ∧
    (s.loseUnit u st k d).stop = s.stop ∧ (s.loseUnit u st k d).clock = s.clock ∧
    (s.loseUnit u st k d).clockRemaining = s.clockRemaining ∧ (s.loseUnit u st k d).address = s.address ∧
    (s.loseUnit u st k d).addressPins = s.addressPins ∧ (s.loseUnit u st k d).addressInputs = s.addressInputs := by
  simp [State.loseUnit]

@[simp] theorem State.unitLost_frame (s : State) (u : UnitNo) (st : UnitState) (k : SupNotice) (d : Nat) :
    (s.unitLost u st k d).pending = s.pending ∧ (s.unitLost u st k d).timebase = s.timebase ∧
    (s.unitLost u st k d).meters = s.meters ∧ (s.unitLost u st k d).scan = s.scan ∧
    (s.unitLost u st k d).settings = s.settings ∧ (s.unitLost u st k d).header = s.header ∧
    (s.unitLost u st k d).stop = s.stop ∧ (s.unitLost u st k d).clock = s.clock ∧
    (s.unitLost u st k d).clockRemaining = s.clockRemaining ∧ (s.unitLost u st k d).address = s.address ∧
    (s.unitLost u st k d).addressPins = s.addressPins ∧ (s.unitLost u st k d).addressInputs = s.addressInputs := by
  unfold State.unitLost
  refine ⟨?_, ?_, ?_, ?_, ?_, ?_, ?_, ?_, ?_, ?_, ?_, ?_⟩
  · exact (foldl_keep _ State.pending (by simp) _ _).trans (by simp)
  · exact (foldl_keep _ State.timebase (by simp) _ _).trans (by simp)
  · exact (foldl_keep _ State.meters (by simp) _ _).trans (by simp)
  · exact (foldl_keep _ State.scan (by simp) _ _).trans (by simp)
  · exact (foldl_keep _ State.settings (by simp) _ _).trans (by simp)
  · exact (foldl_keep _ State.header (by simp) _ _).trans (by simp)
  · exact (foldl_keep _ State.stop (by simp) _ _).trans (by simp)
  · exact (foldl_keep _ State.clock (by simp) _ _).trans (by simp)
  · exact (foldl_keep _ State.clockRemaining (by simp) _ _).trans (by simp)
  · exact (foldl_keep _ State.address (by simp) _ _).trans (by simp)
  · exact (foldl_keep _ State.addressPins (by simp) _ _).trans (by simp)
  · exact (foldl_keep _ State.addressInputs (by simp) _ _).trans (by simp)

@[simp] theorem State.unitEmpties_frame (s : State) (u : UnitNo) :
    (s.unitEmpties u).pending = s.pending ∧ (s.unitEmpties u).timebase = s.timebase ∧
    (s.unitEmpties u).meters = s.meters ∧ (s.unitEmpties u).scan = s.scan ∧ (s.unitEmpties u).settings = s.settings ∧
    (s.unitEmpties u).header = s.header ∧ (s.unitEmpties u).stop = s.stop ∧ (s.unitEmpties u).clock = s.clock ∧
    (s.unitEmpties u).clockRemaining = s.clockRemaining ∧ (s.unitEmpties u).address = s.address ∧
    (s.unitEmpties u).addressPins = s.addressPins ∧ (s.unitEmpties u).addressInputs = s.addressInputs := by
  simp [State.unitEmpties]

@[simp] theorem State.unitServes_frame (s : State) (u : UnitNo) :
    (s.unitServes u).pending = s.pending ∧ (s.unitServes u).timebase = s.timebase ∧
    (s.unitServes u).meters = s.meters ∧ (s.unitServes u).scan = s.scan ∧ (s.unitServes u).settings = s.settings ∧
    (s.unitServes u).header = s.header ∧ (s.unitServes u).stop = s.stop ∧ (s.unitServes u).clock = s.clock ∧
    (s.unitServes u).clockRemaining = s.clockRemaining ∧ (s.unitServes u).address = s.address ∧
    (s.unitServes u).addressPins = s.addressPins ∧ (s.unitServes u).addressInputs = s.addressInputs := by
  unfold State.unitServes
  repeat' split
  all_goals simp

@[simp] theorem State.backToReady_frame (s : State) (u : UnitNo) (a : Arm) :
    (s.backToReady u a).pending = s.pending ∧ (s.backToReady u a).timebase = s.timebase ∧
    (s.backToReady u a).meters = s.meters ∧ (s.backToReady u a).scan = s.scan ∧
    (s.backToReady u a).recipes = s.recipes ∧ (s.backToReady u a).settings = s.settings ∧
    (s.backToReady u a).header = s.header ∧ (s.backToReady u a).records = s.records ∧
    (s.backToReady u a).stop = s.stop ∧ (s.backToReady u a).supervisor = s.supervisor ∧
    (s.backToReady u a).armLines = s.armLines ∧ (s.backToReady u a).clock = s.clock ∧
    (s.backToReady u a).clockRemaining = s.clockRemaining ∧ (s.backToReady u a).address = s.address ∧
    (s.backToReady u a).addressPins = s.addressPins ∧ (s.backToReady u a).addressInputs = s.addressInputs := by
  unfold State.backToReady
  dsimp only
  repeat' split
  all_goals simp

@[simp] theorem State.strokeConfirmed_frame (s : State) (u : UnitNo) (a : Arm) :
    (s.strokeConfirmed u a).pending = s.pending ∧ (s.strokeConfirmed u a).timebase = s.timebase ∧
    (s.strokeConfirmed u a).meters = s.meters ∧ (s.strokeConfirmed u a).scan = s.scan ∧
    (s.strokeConfirmed u a).settings = s.settings ∧ (s.strokeConfirmed u a).header = s.header ∧
    (s.strokeConfirmed u a).stop = s.stop ∧ (s.strokeConfirmed u a).clock = s.clock ∧
    (s.strokeConfirmed u a).clockRemaining = s.clockRemaining ∧ (s.strokeConfirmed u a).address = s.address ∧
    (s.strokeConfirmed u a).addressPins = s.addressPins ∧ (s.strokeConfirmed u a).addressInputs = s.addressInputs := by
  unfold State.strokeConfirmed
  dsimp only
  repeat' split
  all_goals simp

@[simp] theorem State.strokeFailed_frame (s : State) (u : UnitNo) (a : Arm) :
    (s.strokeFailed u a).pending = s.pending ∧ (s.strokeFailed u a).timebase = s.timebase ∧
    (s.strokeFailed u a).meters = s.meters ∧ (s.strokeFailed u a).scan = s.scan ∧
    (s.strokeFailed u a).settings = s.settings ∧ (s.strokeFailed u a).header = s.header ∧
    (s.strokeFailed u a).stop = s.stop ∧ (s.strokeFailed u a).clock = s.clock ∧
    (s.strokeFailed u a).clockRemaining = s.clockRemaining ∧ (s.strokeFailed u a).address = s.address ∧
    (s.strokeFailed u a).addressPins = s.addressPins ∧ (s.strokeFailed u a).addressInputs = s.addressInputs := by
  unfold State.strokeFailed
  dsimp only
  repeat' split
  all_goals simp

@[simp] theorem State.confirmation_frame (s : State) (u : UnitNo) :
    (s.confirmation u).pending = s.pending ∧ (s.confirmation u).timebase = s.timebase ∧
    (s.confirmation u).meters = s.meters ∧ (s.confirmation u).scan = s.scan ∧
    (s.confirmation u).settings = s.settings ∧ (s.confirmation u).header = s.header ∧
    (s.confirmation u).stop = s.stop ∧ (s.confirmation u).clock = s.clock ∧
    (s.confirmation u).clockRemaining = s.clockRemaining ∧ (s.confirmation u).address = s.address ∧
    (s.confirmation u).addressPins = s.addressPins ∧ (s.confirmation u).addressInputs = s.addressInputs := by
  unfold State.confirmation
  dsimp only
  repeat' split
  all_goals simp

@[simp] theorem State.setLatch_frame (s : State) (c : StopCause) :
    (s.setLatch c).pending = s.pending ∧ (s.setLatch c).timebase = s.timebase ∧ (s.setLatch c).meters = s.meters ∧
    (s.setLatch c).scan = s.scan ∧ (s.setLatch c).recipes = s.recipes ∧ (s.setLatch c).settings = s.settings ∧
    (s.setLatch c).header = s.header ∧ (s.setLatch c).units = s.units ∧ (s.setLatch c).records = s.records ∧
    (s.setLatch c).clock = s.clock ∧ (s.setLatch c).clockRemaining = s.clockRemaining ∧
    (s.setLatch c).address = s.address ∧ (s.setLatch c).addressPins = s.addressPins ∧
    (s.setLatch c).addressInputs = s.addressInputs := by
  unfold State.setLatch
  dsimp only
  repeat' split
  all_goals simp

@[simp] theorem State.clearLatch_frame (s : State) :
    (s.clearLatch).pending = s.pending ∧ (s.clearLatch).timebase = s.timebase ∧ (s.clearLatch).meters = s.meters ∧
    (s.clearLatch).scan = s.scan ∧ (s.clearLatch).recipes = s.recipes ∧ (s.clearLatch).arms = s.arms ∧
    (s.clearLatch).settings = s.settings ∧ (s.clearLatch).units = s.units ∧ (s.clearLatch).records = s.records ∧
    (s.clearLatch).clock = s.clock ∧ (s.clearLatch).clockRemaining = s.clockRemaining ∧
    (s.clearLatch).address = s.address ∧ (s.clearLatch).addressPins = s.addressPins ∧
    (s.clearLatch).addressInputs = s.addressInputs := by
  simp [State.clearLatch]

@[simp] theorem State.stopByEnable_frame (s : State) :
    (s.stopByEnable).pending = s.pending ∧ (s.stopByEnable).timebase = s.timebase ∧
    (s.stopByEnable).meters = s.meters ∧ (s.stopByEnable).scan = s.scan ∧ (s.stopByEnable).recipes = s.recipes ∧
    (s.stopByEnable).settings = s.settings ∧ (s.stopByEnable).header = s.header ∧ (s.stopByEnable).units = s.units ∧
    (s.stopByEnable).records = s.records ∧ (s.stopByEnable).clock = s.clock ∧
    (s.stopByEnable).clockRemaining = s.clockRemaining ∧ (s.stopByEnable).address = s.address ∧
    (s.stopByEnable).addressPins = s.addressPins ∧ (s.stopByEnable).addressInputs = s.addressInputs := by
  unfold State.stopByEnable
  repeat' split
  all_goals simp

@[simp] theorem State.deliveryTimers_frame (s : State) (a : Arm) (p : Phase) (m : Meter) :
    (s.deliveryTimers a p m).pending = s.pending ∧ (s.deliveryTimers a p m).timebase = s.timebase ∧
    (s.deliveryTimers a p m).meters = s.meters ∧ (s.deliveryTimers a p m).scan = s.scan ∧
    (s.deliveryTimers a p m).recipes = s.recipes ∧ (s.deliveryTimers a p m).settings = s.settings ∧
    (s.deliveryTimers a p m).units = s.units ∧ (s.deliveryTimers a p m).records = s.records ∧
    (s.deliveryTimers a p m).stop = s.stop ∧ (s.deliveryTimers a p m).supervisor = s.supervisor ∧
    (s.deliveryTimers a p m).armLines = s.armLines ∧ (s.deliveryTimers a p m).clock = s.clock ∧
    (s.deliveryTimers a p m).clockRemaining = s.clockRemaining ∧ (s.deliveryTimers a p m).address = s.address ∧
    (s.deliveryTimers a p m).addressPins = s.addressPins ∧ (s.deliveryTimers a p m).addressInputs = s.addressInputs := by
  unfold State.deliveryTimers
  repeat' split
  all_goals simp

@[simp] theorem State.restrictTest_frame (s : State) (a : Arm) :
    (s.restrictTest a).pending = s.pending ∧ (s.restrictTest a).timebase = s.timebase ∧
    (s.restrictTest a).meters = s.meters ∧ (s.restrictTest a).scan = s.scan ∧ (s.restrictTest a).recipes = s.recipes ∧
    (s.restrictTest a).settings = s.settings ∧ (s.restrictTest a).header = s.header ∧
    (s.restrictTest a).units = s.units ∧ (s.restrictTest a).records = s.records ∧ (s.restrictTest a).stop = s.stop ∧
    (s.restrictTest a).supervisor = s.supervisor ∧ (s.restrictTest a).clock = s.clock ∧
    (s.restrictTest a).clockRemaining = s.clockRemaining ∧ (s.restrictTest a).address = s.address ∧
    (s.restrictTest a).addressPins = s.addressPins ∧ (s.restrictTest a).addressInputs = s.addressInputs := by
  unfold State.restrictTest
  repeat' split
  all_goals simp

@[simp] theorem State.blendTests_frame (s : State) (a : Arm) :
    (s.blendTests a).pending = s.pending ∧ (s.blendTests a).timebase = s.timebase ∧
    (s.blendTests a).meters = s.meters ∧ (s.blendTests a).scan = s.scan ∧ (s.blendTests a).recipes = s.recipes ∧
    (s.blendTests a).settings = s.settings ∧ (s.blendTests a).records = s.records ∧ (s.blendTests a).stop = s.stop ∧
    (s.blendTests a).clock = s.clock ∧ (s.blendTests a).clockRemaining = s.clockRemaining ∧
    (s.blendTests a).address = s.address ∧ (s.blendTests a).addressPins = s.addressPins ∧
    (s.blendTests a).addressInputs = s.addressInputs := by
  unfold State.blendTests
  repeat' split
  all_goals simp

@[simp] theorem State.laterStages_frame (s : State) (a : Arm) (p : Phase) (v : Nat) :
    (s.laterStages a p v).pending = s.pending ∧ (s.laterStages a p v).timebase = s.timebase ∧
    (s.laterStages a p v).meters = s.meters ∧ (s.laterStages a p v).scan = s.scan ∧
    (s.laterStages a p v).recipes = s.recipes ∧ (s.laterStages a p v).settings = s.settings ∧
    (s.laterStages a p v).records = s.records ∧ (s.laterStages a p v).stop = s.stop ∧
    (s.laterStages a p v).clock = s.clock ∧ (s.laterStages a p v).clockRemaining = s.clockRemaining ∧
    (s.laterStages a p v).address = s.address ∧ (s.laterStages a p v).addressPins = s.addressPins ∧
    (s.laterStages a p v).addressInputs = s.addressInputs := by
  unfold State.laterStages
  repeat' split
  all_goals simp

@[simp] theorem State.judge_frame (s : State) (a : Arm) (p : Phase) (sat : Bool) (v : Nat) :
    (s.judge a p sat v).pending = s.pending ∧ (s.judge a p sat v).timebase = s.timebase ∧
    (s.judge a p sat v).meters = s.meters ∧ (s.judge a p sat v).scan = s.scan ∧
    (s.judge a p sat v).recipes = s.recipes ∧ (s.judge a p sat v).settings = s.settings ∧
    (s.judge a p sat v).records = s.records ∧ (s.judge a p sat v).stop = s.stop ∧
    (s.judge a p sat v).clock = s.clock ∧ (s.judge a p sat v).clockRemaining = s.clockRemaining ∧
    (s.judge a p sat v).address = s.address ∧ (s.judge a p sat v).addressPins = s.addressPins ∧
    (s.judge a p sat v).addressInputs = s.addressInputs := by
  unfold State.judge
  repeat' split
  all_goals simp

@[simp] theorem State.deliver_frame (s : State) (a : Arm) (d : Delivery) :
    (s.deliver a d).pending = s.pending ∧ (s.deliver a d).timebase = s.timebase ∧ (s.deliver a d).meters = s.meters ∧
    (s.deliver a d).scan = s.scan ∧ (s.deliver a d).recipes = s.recipes ∧ (s.deliver a d).settings = s.settings ∧
    (s.deliver a d).records = s.records ∧ (s.deliver a d).stop = s.stop ∧ (s.deliver a d).clock = s.clock ∧
    (s.deliver a d).clockRemaining = s.clockRemaining ∧ (s.deliver a d).address = s.address ∧
    (s.deliver a d).addressPins = s.addressPins ∧ (s.deliver a d).addressInputs = s.addressInputs := by
  unfold State.deliver
  dsimp only
  repeat' split
  all_goals simp

@[simp] theorem State.unassigned_frame (s : State) (a : Arm) (k : Nat) :
    (s.unassigned a k).pending = s.pending ∧ (s.unassigned a k).timebase = s.timebase ∧
    (s.unassigned a k).scan = s.scan ∧ (s.unassigned a k).recipes = s.recipes ∧ (s.unassigned a k).arms = s.arms ∧
    (s.unassigned a k).settings = s.settings ∧ (s.unassigned a k).header = s.header ∧
    (s.unassigned a k).units = s.units ∧ (s.unassigned a k).records = s.records ∧ (s.unassigned a k).stop = s.stop ∧
    (s.unassigned a k).armLines = s.armLines ∧ (s.unassigned a k).clock = s.clock ∧
    (s.unassigned a k).clockRemaining = s.clockRemaining ∧ (s.unassigned a k).address = s.address ∧
    (s.unassigned a k).addressPins = s.addressPins ∧ (s.unassigned a k).addressInputs = s.addressInputs := by
  unfold State.unassigned
  dsimp only
  repeat' split
  all_goals simp

@[simp] theorem State.pulseToLoad_frame (s : State) (a : Arm) (m : Meter) (fast : Bool) :
    (s.pulseToLoad a m fast).pending = s.pending ∧ (s.pulseToLoad a m fast).timebase = s.timebase ∧
    (s.pulseToLoad a m fast).scan = s.scan ∧ (s.pulseToLoad a m fast).recipes = s.recipes ∧
    (s.pulseToLoad a m fast).settings = s.settings ∧ (s.pulseToLoad a m fast).records = s.records ∧
    (s.pulseToLoad a m fast).stop = s.stop ∧ (s.pulseToLoad a m fast).clock = s.clock ∧
    (s.pulseToLoad a m fast).clockRemaining = s.clockRemaining ∧ (s.pulseToLoad a m fast).address = s.address ∧
    (s.pulseToLoad a m fast).addressPins = s.addressPins ∧ (s.pulseToLoad a m fast).addressInputs = s.addressInputs := by
  simp [State.pulseToLoad]

@[simp] theorem State.pulse_frame (s : State) (a : Arm) (m : Meter) :
    (s.pulse a m).pending = s.pending ∧ (s.pulse a m).timebase = s.timebase ∧ (s.pulse a m).scan = s.scan ∧
    (s.pulse a m).recipes = s.recipes ∧ (s.pulse a m).settings = s.settings ∧ (s.pulse a m).records = s.records ∧
    (s.pulse a m).stop = s.stop ∧ (s.pulse a m).clock = s.clock ∧ (s.pulse a m).clockRemaining = s.clockRemaining ∧
    (s.pulse a m).address = s.address ∧ (s.pulse a m).addressPins = s.addressPins ∧
    (s.pulse a m).addressInputs = s.addressInputs := by
  unfold State.pulse
  dsimp only
  repeat' split
  all_goals simp

@[simp] theorem State.convertTemperature_frame (s : State) (c : Fin 9) (code : Nat) :
    (s.convertTemperature c code).pending = s.pending ∧ (s.convertTemperature c code).timebase = s.timebase ∧
    (s.convertTemperature c code).meters = s.meters ∧ (s.convertTemperature c code).recipes = s.recipes ∧
    (s.convertTemperature c code).arms = s.arms ∧ (s.convertTemperature c code).settings = s.settings ∧
    (s.convertTemperature c code).header = s.header ∧ (s.convertTemperature c code).units = s.units ∧
    (s.convertTemperature c code).records = s.records ∧ (s.convertTemperature c code).stop = s.stop ∧
    (s.convertTemperature c code).armLines = s.armLines ∧ (s.convertTemperature c code).clock = s.clock ∧
    (s.convertTemperature c code).clockRemaining = s.clockRemaining ∧
    (s.convertTemperature c code).address = s.address ∧ (s.convertTemperature c code).addressPins = s.addressPins ∧
    (s.convertTemperature c code).addressInputs = s.addressInputs := by
  unfold State.convertTemperature
  dsimp only
  repeat' split
  all_goals simp

@[simp] theorem State.convertPressure_frame (s : State) (code : Nat) :
    (s.convertPressure code).pending = s.pending ∧ (s.convertPressure code).timebase = s.timebase ∧
    (s.convertPressure code).meters = s.meters ∧ (s.convertPressure code).recipes = s.recipes ∧
    (s.convertPressure code).settings = s.settings ∧ (s.convertPressure code).units = s.units ∧
    (s.convertPressure code).records = s.records ∧ (s.convertPressure code).stop = s.stop ∧
    (s.convertPressure code).armLines = s.armLines ∧ (s.convertPressure code).clock = s.clock ∧
    (s.convertPressure code).clockRemaining = s.clockRemaining ∧ (s.convertPressure code).address = s.address ∧
    (s.convertPressure code).addressPins = s.addressPins ∧ (s.convertPressure code).addressInputs = s.addressInputs := by
  unfold State.convertPressure
  dsimp only
  repeat' split
  all_goals simp

@[simp] theorem State.convertReference_frame (s : State) (r : Fin 3) (code : Nat) :
    (s.convertReference r code).pending = s.pending ∧ (s.convertReference r code).timebase = s.timebase ∧
    (s.convertReference r code).meters = s.meters ∧ (s.convertReference r code).recipes = s.recipes ∧
    (s.convertReference r code).arms = s.arms ∧ (s.convertReference r code).settings = s.settings ∧
    (s.convertReference r code).header = s.header ∧ (s.convertReference r code).units = s.units ∧
    (s.convertReference r code).records = s.records ∧ (s.convertReference r code).stop = s.stop ∧
    (s.convertReference r code).armLines = s.armLines ∧ (s.convertReference r code).clock = s.clock ∧
    (s.convertReference r code).clockRemaining = s.clockRemaining ∧ (s.convertReference r code).address = s.address ∧
    (s.convertReference r code).addressPins = s.addressPins ∧
    (s.convertReference r code).addressInputs = s.addressInputs := by
  unfold State.convertReference
  dsimp only
  repeat' split
  all_goals simp

@[simp] theorem State.takeCode_frame (s : State) (code : Nat) :
    (s.takeCode code).pending = s.pending ∧ (s.takeCode code).timebase = s.timebase ∧
    (s.takeCode code).meters = s.meters ∧ (s.takeCode code).recipes = s.recipes ∧
    (s.takeCode code).settings = s.settings ∧ (s.takeCode code).units = s.units ∧
    (s.takeCode code).records = s.records ∧ (s.takeCode code).stop = s.stop ∧
    (s.takeCode code).armLines = s.armLines ∧ (s.takeCode code).clock = s.clock ∧
    (s.takeCode code).clockRemaining = s.clockRemaining ∧ (s.takeCode code).address = s.address ∧
    (s.takeCode code).addressPins = s.addressPins ∧ (s.takeCode code).addressInputs = s.addressInputs := by
  unfold State.takeCode
  dsimp only
  repeat' split
  all_goals simp

@[simp] theorem State.aborted_frame (s : State) (a : Arm) (r : LoadRecord) :
    (s.aborted a r).pending = s.pending ∧ (s.aborted a r).timebase = s.timebase ∧ (s.aborted a r).meters = s.meters ∧
    (s.aborted a r).scan = s.scan ∧ (s.aborted a r).settings = s.settings ∧ (s.aborted a r).stop = s.stop ∧
    (s.aborted a r).clock = s.clock ∧ (s.aborted a r).clockRemaining = s.clockRemaining ∧
    (s.aborted a r).address = s.address ∧ (s.aborted a r).addressPins = s.addressPins ∧
    (s.aborted a r).addressInputs = s.addressInputs := by
  unfold State.aborted
  dsimp only
  repeat' split
  all_goals simp

@[simp] theorem State.waitHandOff_frame (s : State) :
    (s.waitHandOff).pending = s.pending ∧ (s.waitHandOff).timebase = s.timebase ∧ (s.waitHandOff).meters = s.meters ∧
    (s.waitHandOff).scan = s.scan ∧ (s.waitHandOff).settings = s.settings ∧ (s.waitHandOff).header = s.header ∧
    (s.waitHandOff).units = s.units ∧ (s.waitHandOff).stop = s.stop ∧ (s.waitHandOff).armLines = s.armLines ∧
    (s.waitHandOff).clock = s.clock ∧ (s.waitHandOff).clockRemaining = s.clockRemaining ∧
    (s.waitHandOff).address = s.address ∧ (s.waitHandOff).addressPins = s.addressPins ∧
    (s.waitHandOff).addressInputs = s.addressInputs := by
  unfold State.waitHandOff
  dsimp only
  repeat' split
  all_goals simp

@[simp] theorem State.removed_frame (s : State) (rest : List DeliveryRecord) :
    (s.removed rest).pending = s.pending ∧ (s.removed rest).timebase = s.timebase ∧
    (s.removed rest).meters = s.meters ∧ (s.removed rest).scan = s.scan ∧ (s.removed rest).settings = s.settings ∧
    (s.removed rest).header = s.header ∧ (s.removed rest).units = s.units ∧ (s.removed rest).stop = s.stop ∧
    (s.removed rest).armLines = s.armLines ∧ (s.removed rest).clock = s.clock ∧
    (s.removed rest).clockRemaining = s.clockRemaining ∧ (s.removed rest).address = s.address ∧
    (s.removed rest).addressPins = s.addressPins ∧ (s.removed rest).addressInputs = s.addressInputs := by
  simp [State.removed]

@[simp] theorem State.slotsChanged_frame (s : State) (old : Nat) :
    (s.slotsChanged old).pending = s.pending ∧ (s.slotsChanged old).timebase = s.timebase ∧
    (s.slotsChanged old).meters = s.meters ∧ (s.slotsChanged old).scan = s.scan ∧
    (s.slotsChanged old).recipes = s.recipes ∧ (s.slotsChanged old).settings = s.settings ∧
    (s.slotsChanged old).units = s.units ∧ (s.slotsChanged old).records = s.records ∧
    (s.slotsChanged old).stop = s.stop ∧ (s.slotsChanged old).supervisor = s.supervisor ∧
    (s.slotsChanged old).armLines = s.armLines ∧ (s.slotsChanged old).clock = s.clock ∧
    (s.slotsChanged old).clockRemaining = s.clockRemaining ∧ (s.slotsChanged old).address = s.address ∧
    (s.slotsChanged old).addressPins = s.addressPins ∧ (s.slotsChanged old).addressInputs = s.addressInputs := by
  unfold State.slotsChanged
  repeat' split
  all_goals simp

@[simp] theorem State.refill_frame (s : State) (u : UnitNo) (v : Nat) :
    (s.refill u v).pending = s.pending ∧ (s.refill u v).timebase = s.timebase ∧ (s.refill u v).meters = s.meters ∧
    (s.refill u v).scan = s.scan ∧ (s.refill u v).recipes = s.recipes ∧ (s.refill u v).settings = s.settings ∧
    (s.refill u v).header = s.header ∧ (s.refill u v).records = s.records ∧ (s.refill u v).stop = s.stop ∧
    (s.refill u v).armLines = s.armLines ∧ (s.refill u v).clock = s.clock ∧
    (s.refill u v).clockRemaining = s.clockRemaining ∧ (s.refill u v).address = s.address ∧
    (s.refill u v).addressPins = s.addressPins ∧ (s.refill u v).addressInputs = s.addressInputs := by
  unfold State.refill
  dsimp only
  repeat' split
  all_goals simp

@[simp] theorem State.heard_frame (s : State) (l : Line) :
    (s.heard l).pending = s.pending ∧ (s.heard l).timebase = s.timebase ∧ (s.heard l).meters = s.meters ∧
    (s.heard l).scan = s.scan ∧ (s.heard l).recipes = s.recipes ∧ (s.heard l).settings = s.settings ∧
    (s.heard l).header = s.header ∧ (s.heard l).units = s.units ∧ (s.heard l).records = s.records ∧
    (s.heard l).stop = s.stop ∧ (s.heard l).supervisor = s.supervisor ∧ (s.heard l).armLines = s.armLines ∧
    (s.heard l).clock = s.clock ∧ (s.heard l).clockRemaining = s.clockRemaining ∧ (s.heard l).address = s.address ∧
    (s.heard l).addressPins = s.addressPins ∧ (s.heard l).addressInputs = s.addressInputs := by
  unfold State.heard
  repeat' split
  all_goals simp

end Sys2Proof.Machine
end

