-- ==== Sys2Proof/Laws/Header.lean ====
section
/-! SUPPORT. The Header Arbiter's operations, each said once: grants in closed form, and what leaving the header and a
revocation do to the two collections and to the load records. -/

namespace Sys2Proof.Machine

/-- Grants in closed form: as many arms from the head of the queue as slots are free. -/
theorem grantLoop_eq (h : Header) (hs : List Holder) (w : List Arm) :
    grantLoop h hs w = (hs ++ (w.take (h.slots - hs.length)).map h.newHolder, w.drop (h.slots - hs.length)) := by
  induction w generalizing hs with
  | nil => simp [grantLoop]
  | cons a rest ih =>
    unfold grantLoop
    split
    · next hlt =>
      rw [ih]
      obtain ⟨k, hk⟩ : ∃ k, h.slots - hs.length = k + 1 := ⟨h.slots - hs.length - 1, by omega⟩
      have hk' : h.slots - (hs ++ [h.newHolder a]).length = k := by simp; omega
      rw [hk, hk']; simp
    · next hge =>
      have hk : h.slots - hs.length = 0 := by omega
      rw [hk]; simp

/-- The header after every grant that its free slots allow. -/
theorem Header.grantAll_eq (h : Header) :
    h.grantAll = { h with
      holders := h.holders ++ (h.wait.take (h.slots - h.holders.length)).map h.newHolder
      wait := h.wait.drop (h.slots - h.holders.length) } := by
  simp [Header.grantAll, grantLoop_eq]

theorem Header.holds_iff (h : Header) (a : Arm) : h.holds a = true ↔ a ∈ h.armsHolding := by simp [Header.holds]

theorem Header.waits_iff (h : Header) (a : Arm) : h.waits a = true ↔ a ∈ h.wait := by simp [Header.waits]

@[simp] theorem Header.release_armsHolding (h : Header) (a : Arm) :
    (h.release a).armsHolding = h.armsHolding.filter fun x => x ≠ a := by
  simp only [Header.armsHolding, Header.release, List.filter_map]; rfl

@[simp] theorem Header.release_wait (h : Header) (a : Arm) : (h.release a).wait = h.wait := rfl

@[simp] theorem Header.release_slots (h : Header) (a : Arm) : (h.release a).slots = h.slots := rfl

@[simp] theorem Header.unwait_armsHolding (h : Header) (a : Arm) : (h.unwait a).armsHolding = h.armsHolding := rfl

@[simp] theorem Header.unwait_wait (h : Header) (a : Arm) : (h.unwait a).wait = h.wait.filter fun x => x ≠ a := rfl

@[simp] theorem Header.unwait_slots (h : Header) (a : Arm) : (h.unwait a).slots = h.slots := rfl

@[simp] theorem Header.join_armsHolding (h : Header) (a : Arm) : (h.join a).armsHolding = h.armsHolding := rfl

@[simp] theorem Header.join_wait (h : Header) (a : Arm) : (h.join a).wait = h.wait ++ [a] := rfl

@[simp] theorem Header.join_slots (h : Header) (a : Arm) : (h.join a).slots = h.slots := rfl

/-- Grants move arms from the head of the queue to the end of the holder list: together the two lists stay as they were. -/
theorem Header.grantAll_armsHolding_append_wait (h : Header) :
    h.grantAll.armsHolding ++ h.grantAll.wait = h.armsHolding ++ h.wait := by
  simp [Header.grantAll_eq, Header.armsHolding, Function.comp_def, Header.newHolder]

@[simp] theorem Header.grantAll_slots (h : Header) : h.grantAll.slots = h.slots := rfl

/-- The gates of R115 are open when pressure is NORMAL and the latch is clear. -/
theorem State.gatesOpen_iff (s : State) :
    s.gatesOpen = true ↔ s.scan.pressure = .normal ∧ s.stop.latch = none := by
  simp [State.gatesOpen]

/-- The header after the grants of R115. -/
@[simp] theorem State.grants_header (s : State) :
    s.grants.header = if s.gatesOpen then s.header.grantAll else s.header := by
  unfold State.grants; split <;> rfl

/-- An arm's leaving of the header opens no load record but its own, of which it clears the closed-valve volume. -/
@[simp] theorem State.leaveHeader_arms (s : State) (a : Arm) :
    (s.leaveHeader a).arms = if s.header.holds a then
      s.arms.upd a (ArmCtl.mapRecord fun r => { r with acc := { r.acc with closedValve := 0 } }) else s.arms := by
  unfold State.leaveHeader; split
  · simp [State.releaseHolder]
  · split <;> rfl

/-- The header after an arm leaves it. -/
theorem State.leaveHeader_header (s : State) (a : Arm) :
    (s.leaveHeader a).header =
      if s.header.holds a then (if s.gatesOpen then (s.header.release a).grantAll else s.header.release a)
      else if s.header.waits a then s.header.unwait a else s.header := by
  have hg : (s.releaseHolder a).gatesOpen = s.gatesOpen := rfl
  unfold State.leaveHeader; split
  · rw [State.grants_header, hg]; simp
  · split <;> rfl

/-- An arm that was not both a holder and a waiter stands NONE once it has left the header. -/
theorem State.leaveHeader_none (s : State) (a : Arm)
    (h : ¬ (s.header.holds a = true ∧ s.header.waits a = true)) :
    (s.leaveHeader a).header.holds a = false ∧ (s.leaveHeader a).header.waits a = false := by
  have key : ∀ x : Header, a ∉ x.armsHolding ++ x.wait → x.holds a = false ∧ x.waits a = false := by
    intro x hx; simp at hx; simp [Header.holds, Header.waits, hx]
  apply key
  rw [State.leaveHeader_header]
  by_cases h1 : s.header.holds a = true
  · have h2 : a ∉ s.header.wait := fun hw => h ⟨h1, (s.header.waits_iff a).2 hw⟩
    rw [if_pos h1]
    split
    · rw [Header.grantAll_armsHolding_append_wait]; simp [h2]
    · simp [h2]
  · rw [if_neg h1]
    have h1' : a ∉ s.header.armsHolding := fun hw => h1 ((s.header.holds_iff a).2 hw)
    by_cases h2 : s.header.waits a = true
    · rw [if_pos h2]; simp [h1']
    · rw [if_neg h2]
      have : a ∉ s.header.wait := fun hw => h2 ((s.header.waits_iff a).2 hw)
      simp [h1', this]

/-- Closing the valves of a list of arms clears the closed-valve volume of their loads, and of no other. -/
theorem State.closeAll_arms_get (s : State) (l : List Arm) (a : Arm) :
    (s.closeAll l).arms.get a = if a ∈ l then
      (s.arms.get a).mapRecord fun r => { r with acc := { r.acc with closedValve := 0 } } else s.arms.get a := by
  unfold State.closeAll
  induction l generalizing s with
  | nil => simp
  | cons b l ih =>
    rw [List.foldl_cons, ih]
    simp only [State.valveCloses_arms, Bank.get_upd]
    by_cases hb : a = b
    · subst hb; by_cases hl : a ∈ l
      · simp [hl, ArmCtl.mapRecord, Occupancy.mapRecord]; cases (s.arms.get a).occ <;> rfl
      · simp [hl]
    · by_cases hl : a ∈ l <;> simp [hb, hl]

/-- A revocation from place `n` on: the newest holders go to the head of the queue in grant order. -/
@[simp] theorem State.revokeFrom_header (s : State) (n : Nat) :
    (s.revokeFrom n).header = { s.header with
      holders := s.header.holders.take n, wait := (s.header.holders.drop n).map Holder.arm ++ s.header.wait } := by
  simp [State.revokeFrom]

/-- A revocation clears the closed-valve volumes of the loads whose holders it revokes, and changes no other load. -/
theorem State.revokeFrom_arms_get (s : State) (n : Nat) (a : Arm) :
    (s.revokeFrom n).arms.get a = if a ∈ s.header.armsHolding.drop n then
      (s.arms.get a).mapRecord fun r => { r with acc := { r.acc with closedValve := 0 } } else s.arms.get a := by
  have hd : (s.header.holders.drop n).map Holder.arm = s.header.armsHolding.drop n := by
    simp [Header.armsHolding, List.map_drop]
  unfold State.revokeFrom
  rw [State.closeAll_arms_get, hd]

end Sys2Proof.Machine
end

