-- ==== Sys2Proof/Laws/Loads.lean ====
section
/-! SUPPORT. The load state machine's operations, each said once: what an entry into a load state leaves in every Arm Controller,
in the header, in the shot queues and in the notice sets. -/

namespace Sys2Proof.Machine

/-! ### Records of arms -/

theorem State.record_eq_some (s : State) (a : Arm) (r : LoadRecord) :
    s.record a = some r ↔ (s.arms.get a).occ = .loaded r := by
  unfold State.record; cases (s.arms.get a).occ <;> simp [Occupancy.record]

theorem State.record_congr {s t : State} {a : Arm} (h : t.arms.get a = s.arms.get a) : t.record a = s.record a := by
  unfold State.record; rw [h]

theorem State.phase_eq_some (s : State) (a : Arm) (p : Phase) :
    s.phase a = some p ↔ ∃ r, s.record a = some r ∧ r.phase = p := by
  unfold State.phase; simp

@[simp] theorem Occupancy.record_mapRecord (o : Occupancy) (f : LoadRecord → LoadRecord) :
    (o.mapRecord f).record = o.record.map f := by cases o <;> rfl

@[simp] theorem Occupancy.mapRecord_mapRecord (o : Occupancy) (f g : LoadRecord → LoadRecord) :
    (o.mapRecord f).mapRecord g = o.mapRecord fun r => g (f r) := by cases o <;> rfl

theorem Occupancy.mapRecord_congr {o : Occupancy} {f g : LoadRecord → LoadRecord}
    (h : ∀ r, o.record = some r → f r = g r) : o.mapRecord f = o.mapRecord g := by
  cases o with
  | loaded r => simp only [Occupancy.mapRecord]; rw [h r rfl]
  | _ => rfl

@[simp] theorem Occupancy.mapRecord_id (o : Occupancy) : (o.mapRecord fun r => r) = o := by cases o <;> rfl

@[simp] theorem ArmCtl.mapRecord_occ (c : ArmCtl) (f : LoadRecord → LoadRecord) :
    (c.mapRecord f).occ = c.occ.mapRecord f := rfl

@[simp] theorem ArmCtl.mapRecord_noFlow (c : ArmCtl) (f : LoadRecord → LoadRecord) :
    (c.mapRecord f).noFlow = c.noFlow := rfl

@[simp] theorem ArmCtl.mapRecord_linkSilence (c : ArmCtl) (f : LoadRecord → LoadRecord) :
    (c.mapRecord f).linkSilence = c.linkSilence := rfl

@[simp] theorem ArmCtl.mapRecord_window (c : ArmCtl) (f : LoadRecord → LoadRecord) :
    (c.mapRecord f).window = c.window := rfl

@[simp] theorem ArmCtl.mapRecord_settle (c : ArmCtl) (f : LoadRecord → LoadRecord) :
    (c.mapRecord f).settle = c.settle := rfl

@[simp] theorem ArmCtl.mapRecord_lastSummary (c : ArmCtl) (f : LoadRecord → LoadRecord) :
    (c.mapRecord f).lastSummary = c.lastSummary := rfl

@[simp] theorem State.modRecord_record (s : State) (a b : Arm) (f : LoadRecord → LoadRecord) :
    (s.modRecord a f).record b = if b = a then (s.record a).map f else s.record b := by
  simp only [State.record, State.modRecord_arms, Bank.get_upd]; split <;> simp

/-! ### Leaving the shot queues -/

@[simp] theorem State.leaveQueues_units_get (s : State) (a : Arm) (u : UnitNo) :
    (s.leaveQueues a).units.get u = { s.units.get u with queue := (s.units.get u).queue.filter fun x => x ≠ a } := by
  simp [State.leaveQueues]

/-! ### The restrict state -/

/-- The restrict state becomes `on`, whatever it was. -/
theorem State.setRestrict_arms (s : State) (a : Arm) (on : Bool) :
    (s.setRestrict a on).arms =
      s.arms.upd a (ArmCtl.mapRecord fun r => { r with acc := { r.acc with restrictOn := on } }) := by
  unfold State.setRestrict
  split
  · next h =>
    rw [Bank.upd_eq_self]
    unfold ArmCtl.mapRecord
    rw [show ((s.arms.get a).occ.mapRecord _) = (s.arms.get a).occ by
      unfold State.record at h; cases ho : (s.arms.get a).occ <;> simp_all [Occupancy.record, Occupancy.mapRecord]]
  · next r h =>
    split
    · next hr =>
      rw [Bank.upd_eq_self]
      rw [State.record_eq_some] at h
      unfold ArmCtl.mapRecord
      rw [h]; subst hr
      simp only [Occupancy.mapRecord]
      rw [← h]
    · rfl

/-- A change of the restrict state raises RESTRICT_CHANGED on the arm's line, and nothing else is raised. -/
theorem State.setRestrict_armLines_get (s : State) (a b : Arm) (on : Bool) :
    (s.setRestrict a on).armLines.get b =
      if b = a ∧ (s.record a).any (fun r => decide (r.acc.restrictOn ≠ on)) = true then
        { s.armLines.get b with notices := raiseIn ArmNotice.key .restrictChanged none (s.armLines.get b).notices }
      else s.armLines.get b := by
  unfold State.setRestrict
  cases h : s.record a with
  | none => simp
  | some r =>
    simp only [Option.any_some]
    by_cases hr : r.acc.restrictOn = on
    · simp [hr]
    · by_cases hb : b = a
      · subst hb; simp [hr]
      · simp [hr, Bank.get_upd, hb]

/-! ### Entries into load states -/

/-- The accounts with the closed-valve volume at 0 where the arm's valve closes (R117). -/
def Accounts.closedIf (holds : Bool) (x : Accounts) : Accounts := if holds then { x with closedValve := 0 } else x

@[simp] theorem Accounts.closedIf_false (x : Accounts) : x.closedIf false = x := rfl

/-- Closing the valve changes the closed-valve volume alone. -/
theorem Accounts.closedIf_eq (holds : Bool) (x : Accounts) :
    x.closedIf holds = { x with closedValve := if holds then 0 else x.closedValve } := by
  cases holds <;> rfl

/-- The Arm Controllers after an entry into FLOWING. -/
theorem State.enterFlowing_arms (s : State) (a : Arm) :
    (s.enterFlowing a).arms = s.arms.upd a fun c =>
      { c.mapRecord (fun r => { r with phase := .flowing }) with
        window := .stopped, noFlow := Timer.startSeconds s.settings.noFlow } := by
  simp [State.enterFlowing]

/-- The Arm Controllers after an entry into PAUSED. -/
theorem State.enterPaused_arms (s : State) (a : Arm) (p : PauseCause) :
    (s.enterPaused a p).arms = s.arms.upd a fun c =>
      { c.mapRecord (fun r => { r with phase := .paused p, acc := r.acc.closedIf (s.header.holds a) }) with
        noFlow := .stopped } := by
  simp only [State.enterPaused, State.leaveQueues_arms, State.leaveHeader_arms, State.modArm_arms, State.setPhase_arms,
    State.modArm_header, State.setPhase_header, Bank.upd_upd]
  by_cases h : s.header.holds a = true
  · simp only [h, if_true]; apply Bank.upd_congr; simp [ArmCtl.mapRecord, Accounts.closedIf]
  · simp only [h]; simp [Accounts.closedIf]

/-- The Arm Controllers after an entry into FLUSH. -/
theorem State.enterFlush_arms (s : State) (a : Arm) :
    (s.enterFlush a).arms = s.arms.upd a fun c =>
      { c.mapRecord (fun r =>
          { r with phase := .flush, acc := { r.acc with restrictOn := false }.closedIf (s.header.holds a) }) with
        noFlow := .stopped } := by
  simp only [State.enterFlush, State.leaveHeader_arms, State.setRestrict_arms, State.setRestrict_frame, State.modArm_arms,
    State.setPhase_arms, State.modArm_header, State.setPhase_header, Bank.upd_upd]
  by_cases h : s.header.holds a = true
  · simp only [h, if_true]; apply Bank.upd_congr; simp [ArmCtl.mapRecord, Accounts.closedIf]
  · simp only [h, Bool.false_eq_true, if_false]; apply Bank.upd_congr; simp [ArmCtl.mapRecord]

/-- The Arm Controllers after an entry into HALTED. -/
theorem State.enterHalted_arms (s : State) (a : Arm) (why : HaltReason) :
    (s.enterHalted a why).arms = s.arms.upd a fun c =>
      { c.mapRecord (fun r =>
          { r with phase := .halted, haltReason := some (r.haltReason.getD why),
                   acc := { r.acc with restrictOn := false }.closedIf (s.header.holds a) }) with
        noFlow := .stopped, linkSilence := .stopped, window := .stopped } := by
  simp only [State.enterHalted, State.raiseSup_arms, State.raiseArm_arms, State.leaveQueues_arms, State.leaveHeader_arms,
    State.setRestrict_arms, State.setRestrict_frame, State.modArm_arms, State.modRecord_arms, State.modArm_header,
    State.modRecord_header, Bank.upd_upd]
  by_cases h : s.header.holds a = true
  · simp only [h, if_true]; apply Bank.upd_congr; simp [ArmCtl.mapRecord, Accounts.closedIf]
  · simp only [h, Bool.false_eq_true, if_false]; apply Bank.upd_congr; simp [ArmCtl.mapRecord]

/-- The Arm Controllers after an entry into FINISHING. -/
theorem State.enterFinishing_arms (s : State) (a : Arm) :
    (s.enterFinishing a).arms = s.arms.upd a fun c =>
      { c.mapRecord (fun r =>
          { r with phase := .finishing, acc := { r.acc with restrictOn := false }.closedIf (s.header.holds a) }) with
        noFlow := .stopped, linkSilence := .stopped, window := .stopped,
        settle := Timer.startSeconds s.settings.settle } := by
  simp only [State.enterFinishing, State.leaveQueues_arms, State.leaveHeader_arms, State.setRestrict_arms,
    State.setRestrict_frame, State.modArm_arms, State.setPhase_arms, State.modArm_header, State.setPhase_header,
    Bank.upd_upd]
  by_cases h : s.header.holds a = true
  · simp only [h, if_true]; apply Bank.upd_congr; simp [ArmCtl.mapRecord, Accounts.closedIf]
  · simp only [h, Bool.false_eq_true, if_false]; apply Bank.upd_congr; simp [ArmCtl.mapRecord]

/-! ### The load records after an entry -/

theorem State.enterFlowing_record (s : State) (a b : Arm) :
    (s.enterFlowing a).record b =
      if b = a then (s.record a).map (fun r => { r with phase := .flowing }) else s.record b := by
  simp only [State.record, State.enterFlowing_arms, Bank.get_upd]; split <;> simp

theorem State.enterPaused_record (s : State) (a b : Arm) (p : PauseCause) :
    (s.enterPaused a p).record b = if b = a then
      (s.record a).map (fun r => { r with phase := .paused p, acc := r.acc.closedIf (s.header.holds a) })
      else s.record b := by
  simp only [State.record, State.enterPaused_arms, Bank.get_upd]; split <;> simp

theorem State.enterFlush_record (s : State) (a b : Arm) :
    (s.enterFlush a).record b = if b = a then
      (s.record a).map (fun r =>
        { r with phase := .flush, acc := { r.acc with restrictOn := false }.closedIf (s.header.holds a) })
      else s.record b := by
  simp only [State.record, State.enterFlush_arms, Bank.get_upd]; split <;> simp

theorem State.enterHalted_record (s : State) (a b : Arm) (why : HaltReason) :
    (s.enterHalted a why).record b = if b = a then
      (s.record a).map (fun r =>
        { r with phase := .halted, haltReason := some (r.haltReason.getD why),
                 acc := { r.acc with restrictOn := false }.closedIf (s.header.holds a) })
      else s.record b := by
  simp only [State.record, State.enterHalted_arms, Bank.get_upd]; split <;> simp

theorem State.enterFinishing_record (s : State) (a b : Arm) :
    (s.enterFinishing a).record b = if b = a then
      (s.record a).map (fun r =>
        { r with phase := .finishing, acc := { r.acc with restrictOn := false }.closedIf (s.header.holds a) })
      else s.record b := by
  simp only [State.record, State.enterFinishing_arms, Bank.get_upd]; split <;> simp

/-! ### The header and the shot queues after an entry -/

/-- Leaving the header depends on the header, the pressure state and the latch alone. -/
theorem State.leaveHeader_header_congr {s t : State} (a : Arm) (h : s.header = t.header) (hp : s.scan = t.scan)
    (hl : s.stop = t.stop) : (s.leaveHeader a).header = (t.leaveHeader a).header := by
  have hg : s.gatesOpen = t.gatesOpen := by unfold State.gatesOpen; rw [hp, hl]
  rw [State.leaveHeader_header, State.leaveHeader_header, hg, h]

theorem State.enterPaused_header (s : State) (a : Arm) (p : PauseCause) :
    (s.enterPaused a p).header = (s.leaveHeader a).header := by
  simp only [State.enterPaused, State.leaveQueues_header]
  exact State.leaveHeader_header_congr a rfl rfl rfl

theorem State.enterFlush_header (s : State) (a : Arm) : (s.enterFlush a).header = (s.leaveHeader a).header := by
  simp only [State.enterFlush]
  exact State.leaveHeader_header_congr a (by simp) (by simp) (by simp)

theorem State.enterHalted_header (s : State) (a : Arm) (why : HaltReason) :
    (s.enterHalted a why).header = (s.leaveHeader a).header := by
  simp only [State.enterHalted, State.raiseSup_header, State.raiseArm_header, State.leaveQueues_header]
  exact State.leaveHeader_header_congr a (by simp) (by simp) (by simp)

theorem State.enterFinishing_header (s : State) (a : Arm) :
    (s.enterFinishing a).header = (s.leaveHeader a).header := by
  simp only [State.enterFinishing, State.leaveQueues_header]
  exact State.leaveHeader_header_congr a (by simp) (by simp) (by simp)

theorem State.enterPaused_units_get (s : State) (a : Arm) (p : PauseCause) (u : UnitNo) :
    (s.enterPaused a p).units.get u =
      { s.units.get u with queue := (s.units.get u).queue.filter fun x => x ≠ a } := by
  simp [State.enterPaused]

theorem State.enterHalted_units_get (s : State) (a : Arm) (why : HaltReason) (u : UnitNo) :
    (s.enterHalted a why).units.get u =
      { s.units.get u with queue := (s.units.get u).queue.filter fun x => x ≠ a } := by
  simp [State.enterHalted]

theorem State.enterFinishing_units_get (s : State) (a : Arm) (u : UnitNo) :
    (s.enterFinishing a).units.get u =
      { s.units.get u with queue := (s.units.get u).queue.filter fun x => x ≠ a } := by
  simp [State.enterFinishing]

/-! ### Halts -/

/-- A halt of a load that a halt event halts is the entry into HALTED. -/
theorem State.halt_of_haltable {s : State} {a : Arm} {r : LoadRecord} (h : s.record a = some r)
    (hp : r.phase.haltable = true) (why : HaltReason) : s.halt a why = s.enterHalted a why := by
  simp [State.halt, h, hp]

/-- A halt of a load in HALTED, FINISHING or COMPLETE changes nothing (R96). -/
theorem State.halt_of_not_haltable {s : State} {a : Arm} {r : LoadRecord} (h : s.record a = some r)
    (hp : r.phase.haltable = false) (why : HaltReason) : s.halt a why = s := by
  simp [State.halt, h, hp]

/-- The supervisor line after an entry into HALTED: ARM_HALTED(a) is raised with the code of the reason. -/
theorem State.enterHalted_supervisor (s : State) (a : Arm) (why : HaltReason) :
    (s.enterHalted a why).supervisor = { s.supervisor with
      notices := raiseIn SupNotice.key (.armHalted a) (some (haltCode why)) s.supervisor.notices } := by
  simp [State.enterHalted]

/-! ### Notice sets -/

/-- A raised notice is in the set. -/
theorem raiseIn_mem {κ : Type} (key : κ → Nat) (hk : Function.Injective key) (k : κ) (d : Option Nat)
    (l : List (κ × Option Nat)) : ∃ p ∈ raiseIn key k d l, p.1 = k := by
  induction l with
  | nil => exact ⟨(k, d), by simp [raiseIn], rfl⟩
  | cons p rest ih =>
    unfold raiseIn
    split
    · next h => exact ⟨p, by simp, (hk h).symm⟩
    · split
      · exact ⟨(k, d), by simp, rfl⟩
      · obtain ⟨q, hq, e⟩ := ih
        exact ⟨q, by simp [hq], e⟩

/-- What is in a set stays in it when a notice is raised. -/
theorem mem_raiseIn {κ : Type} (key : κ → Nat) (k : κ) (d : Option Nat) (l : List (κ × Option Nat))
    {p : κ × Option Nat} (h : p ∈ l) : p ∈ raiseIn key k d l := by
  induction l with
  | nil => simp at h
  | cons q rest ih =>
    unfold raiseIn
    split
    · exact h
    · split
      · simp_all
      · rcases List.mem_cons.1 h with rfl | h
        · simp
        · simp [ih h]

theorem ArmNotice.key_injective : Function.Injective ArmNotice.key := by
  intro x y h
  cases x <;> cases y <;> simp only [ArmNotice.key, ArmNotice.priority, ArmNotice.index, Option.getD] at h <;>
    first | rfl | (congr 1; apply Fin.ext; omega) | omega

theorem SupNotice.key_injective : Function.Injective SupNotice.key := by
  intro x y h
  cases x <;> cases y <;> simp only [SupNotice.key, SupNotice.priority, SupNotice.index, Option.getD] at h <;>
    first | rfl | (congr 1; apply Fin.ext; omega) | omega

end Sys2Proof.Machine
end

