-- ==== Sys2Proof/Laws/Queues.lean ====
section
/-! SUPPORT. The shot queues' operations, each said once: what a unit's taking of its head, a joining and a decided final shot
leave in the units and in the load records. -/

namespace Sys2Proof.Machine

/-! ### Taking the head -/

/-- A unit in READY with a queue begins a stroke for its head; nothing else in the units changes. -/
theorem State.takeHead_units_get (s : State) (u v : UnitNo) :
    (s.takeHead u).units.get v =
      match (s.units.get u).queue with
      | [] => s.units.get v
      | a :: rest => if v = u ∧ (s.units.get u).state = .ready then (s.units.get u).begin a rest else s.units.get v := by
  unfold State.takeHead; dsimp only
  cases h : (s.units.get u).queue with
  | nil => rfl
  | cons a rest =>
    by_cases hr : (s.units.get u).state = .ready
    · by_cases hv : v = u
      · subst hv; simp [hr]
      · simp [hr, hv, Bank.get_put]
    · simp [hr]

/-- The arm taken from the head has its final-shot mark for the unit cleared; nothing else in the arms changes. -/
theorem State.takeHead_arms_get (s : State) (u : UnitNo) (b : Arm) :
    (s.takeHead u).arms.get b =
      if (s.units.get u).queue.head? = some b ∧ (s.units.get u).state = .ready then
        (s.arms.get b).mapRecord fun r => r.modItem u fun i => { i with finalShot := false }
      else s.arms.get b := by
  unfold State.takeHead; dsimp only
  split
  · next h => simp [h]
  · next a rest h =>
    by_cases hr : (s.units.get u).state = .ready
    · by_cases hb : b = a
      · subst hb; simp [hr, h]
      · simp [hr, h, Bank.get_upd, hb, Ne.symm hb]
    · simp [hr, h]

/-- A unit that is not in READY, or has no queue, takes nothing. -/
theorem State.takeHead_eq_self (s : State) (u : UnitNo)
    (h : (s.units.get u).state ≠ .ready ∨ (s.units.get u).queue = []) : s.takeHead u = s := by
  unfold State.takeHead; dsimp only
  rcases h with h | h
  · split
    · rfl
    · rw [if_neg h]
  · rw [h]

/-- A stroke that begins leaves the unit in ROUTING or STROKING with the arm in flight. -/
theorem AdditiveUnit.begin_state (x : AdditiveUnit) (a : Arm) (rest : List Arm) :
    (x.begin a rest).state = .routing ∨ (x.begin a rest).state = .stroking := by
  unfold AdditiveUnit.begin; dsimp only
  repeat' split
  all_goals simp [AdditiveUnit.stroke]

/-- A stroke that begins changes the state, the route, the arm in flight, the two timers and the queue alone. -/
theorem AdditiveUnit.begin_eq (x : AdditiveUnit) (a : Arm) (rest : List Arm) :
    x.begin a rest = { x with
      state := (x.begin a rest).state, route := some a, inFlight := some a, queue := rest,
      settleTimer := (x.begin a rest).settleTimer, strokeTimer := (x.begin a rest).strokeTimer } := by
  unfold AdditiveUnit.begin; dsimp only
  repeat' split
  all_goals simp_all [AdditiveUnit.stroke]

/-- A joining changes the queue alone. -/
theorem AdditiveUnit.join_eq (x : AdditiveUnit) (a : Arm) : x.join a = { x with queue := (x.join a).queue } := by
  unfold AdditiveUnit.join; split <;> rfl

/-- A joining at a unit other than `u` leaves `u` alone. -/
theorem State.enqueue_units_get_of_ne (s : State) {u v : UnitNo} (a : Arm) (h : v ≠ u) :
    (s.enqueue u a).units.get v = s.units.get v := by
  unfold State.enqueue
  rw [State.takeHead_units_get]
  split
  · simp [Bank.get_upd, h]
  · simp [Bank.get_upd, h]

/-- A joining at a unit whose queue is empty whenever it is READY touches no load but the arm's own. -/
theorem State.enqueue_arms_get_of_ne (s : State) (u : UnitNo) {a b : Arm} (hb : b ≠ a)
    (hq : (s.units.get u).state = .ready → (s.units.get u).queue = []) :
    (s.enqueue u a).arms.get b = s.arms.get b := by
  unfold State.enqueue
  rw [State.takeHead_arms_get, if_neg]
  · simp
  · simp only [State.modUnit_units, Bank.get_upd_same]
    rintro ⟨h1, h2⟩
    rw [AdditiveUnit.join_eq] at h2
    have := hq h2
    simp only [AdditiveUnit.join, this, List.not_mem_nil, if_false, List.nil_append, List.head?_cons,
      Option.some.injEq] at h1
    exact hb h1.symm

/-- No unit has a stroke in flight for the arm (R81). -/
theorem State.noStroke_iff (s : State) (a : Arm) :
    s.noStroke a = true ↔ ∀ u : UnitNo, (s.units.get u).inFlight ≠ some a := by
  simp only [State.noStroke, List.all_eq_true, decide_eq_true_eq, List.mem_finRange, true_implies]

/-- The completion condition of R81, for the load record the arm holds. -/
theorem State.completes_iff (s : State) (a : Arm) {r : LoadRecord} (h : s.record a = some r) :
    s.completes a = true ↔ r.phase = .finishing ∧ (s.arms.get a).settle = .expired ∧
      (∀ u : UnitNo, (s.units.get u).inFlight ≠ some a) ∧ ∀ i ∈ r.items, i.finalShot = false := by
  unfold State.completes
  rw [h]
  simp only [Bool.and_eq_true, decide_eq_true_eq, State.noStroke_iff, List.all_eq_true,
    Bool.not_eq_eq_eq_not, Bool.not_true, and_assoc]

end Sys2Proof.Machine
end

