-- ==== Sys2Proof/Laws/Records.lean ====
section
/-! SUPPORT. Completion, hand-offs and the loss of a unit, each said once: which arms and units they leave alone, and what they
leave in the Record Queue. -/

namespace Sys2Proof.Machine

/-! ### Hand-off and completion -/

/-- The trigger test leaves the queue, the arms and the units alone. -/
@[simp] theorem State.handOff_records (s : State) (a : Arm) :
    (s.handOff a).records = match s.record a with
      | none => s.records
      | some r => { s.records with
          records := s.records.records ++ [s.deliveryRecord a r]
          ageTimer :=
            if s.records.records = [] then Timer.startSeconds s.records.ageTimeout else s.records.ageTimer } := by
  unfold State.handOff; cases s.record a <;> simp

/-- A hand-off makes its arm IDLE and changes no other arm. -/
theorem State.handOff_arms_get (s : State) (a b : Arm) :
    (s.handOff a).arms.get b =
      if b = a ∧ (s.record a).isSome = true then { s.arms.get b with occ := .idle } else s.arms.get b := by
  unfold State.handOff
  cases h : s.record a with
  | none => simp
  | some r =>
    by_cases hb : b = a
    · subst hb; simp
    · simp [Bank.get_upd, hb]

/-- A hand-off lowers the reference count of the entry of the load's snapshot, and changes no other entry. -/
theorem State.handOff_recipes (s : State) (a : Arm) :
    (s.handOff a).recipes = match s.record a with
      | none => s.recipes
      | some r => s.recipes.upd r.snap.entry RecipeEntry.dropReference := by
  unfold State.handOff; cases s.record a <;> simp

/-- An offer changes no other arm. -/
theorem State.offer_arms_get_of_ne (s : State) {a b : Arm} (h : b ≠ a) :
    (s.offer a).arms.get b = s.arms.get b := by
  unfold State.offer; split
  · rw [State.handOff_arms_get]; simp [h]
  · rfl

/-- A completion changes no other arm. -/
theorem State.enterComplete_arms_get_of_ne (s : State) {a b : Arm} (h : b ≠ a) :
    (s.enterComplete a).arms.get b = s.arms.get b := by
  unfold State.enterComplete
  cases s.record a with
  | none => rfl
  | some r => dsimp only; rw [State.offer_arms_get_of_ne _ h]; simp [Bank.get_upd, h]

/-- A load that is not in FINISHING is not completed. -/
theorem State.examine_eq_self (s : State) (a : Arm) (h : s.phase a ≠ some .finishing) : s.examine a = s := by
  unfold State.examine
  rw [if_neg]
  cases hr : s.record a with
  | none => simp [State.completes, hr]
  | some r =>
    rw [State.completes_iff s a hr]
    rintro ⟨hp, -⟩
    exact h ((s.phase_eq_some a _).2 ⟨r, hr, hp⟩)

/-- An examination of the completion condition leaves every arm alone whose load is not in FINISHING. -/
theorem State.examine_arms_get (s : State) (a b : Arm) (h : s.phase b ≠ some .finishing) :
    (s.examine a).arms.get b = s.arms.get b := by
  by_cases hb : b = a
  · subst hb; rw [State.examine_eq_self s b h]
  · unfold State.examine; split
    · exact State.enterComplete_arms_get_of_ne s hb
    · rfl

/-- Examinations in turn leave every arm alone whose load is not in FINISHING. -/
theorem State.foldl_examine_arms_get (l : List Arm) (s : State) (b : Arm) (h : s.phase b ≠ some .finishing) :
    (l.foldl State.examine s).arms.get b = s.arms.get b := by
  induction l generalizing s with
  | nil => rfl
  | cons a l ih =>
    rw [List.foldl_cons, ih]
    · exact State.examine_arms_get s a b h
    · unfold State.phase; rw [State.record_congr (State.examine_arms_get s a b h)]; exact h

/-! ### Notices of the supervisor line -/

/-- No operation that only raises notices takes one away: what the supervisor set held before a hand-off it holds after. -/
theorem State.mem_handOff_notices (s : State) (a : Arm) {p : SupNotice × Option Nat} (h : p ∈ s.supervisor.notices) :
    p ∈ (s.handOff a).supervisor.notices := by
  unfold State.handOff
  cases s.record a with
  | none => exact h
  | some r =>
    dsimp only [State.triggerTest]; split
    · exact mem_raiseIn _ _ _ _ h
    · exact h

theorem State.mem_enterComplete_notices (s : State) (a : Arm) {p : SupNotice × Option Nat}
    (h : p ∈ s.supervisor.notices) : p ∈ (s.enterComplete a).supervisor.notices := by
  unfold State.enterComplete
  cases s.record a with
  | none => exact h
  | some r =>
    dsimp only [State.offer]; split
    · exact State.mem_handOff_notices _ _ h
    · exact h

theorem State.mem_examine_notices (s : State) (a : Arm) {p : SupNotice × Option Nat}
    (h : p ∈ s.supervisor.notices) : p ∈ (s.examine a).supervisor.notices := by
  unfold State.examine; split
  · exact State.mem_enterComplete_notices s a h
  · exact h

theorem State.mem_foldl_examine_notices (l : List Arm) (s : State) {p : SupNotice × Option Nat}
    (h : p ∈ s.supervisor.notices) : p ∈ (l.foldl State.examine s).supervisor.notices := by
  induction l generalizing s with
  | nil => exact h
  | cons a l ih => exact ih _ (State.mem_examine_notices s a h)

/-! ### The loss of a unit -/

/-- Completions leave every unit as it is. -/
theorem State.foldl_examine_units (l : List Arm) (s : State) : (l.foldl State.examine s).units = s.units :=
  foldl_keep _ State.units (by simp) _ _

/-- A lost unit is in its new state with its queue empty; no other unit changes. -/
theorem State.unitLost_units (s : State) (u : UnitNo) (st : UnitState) (k : SupNotice) (d : Nat) :
    (s.unitLost u st k d).units = s.units.upd u fun x => { x with state := st, queue := [] } := by
  unfold State.unitLost; rw [State.foldl_examine_units]; simp [State.loseUnit]

/-- A unit's loss does its part to every load record; then only loads in FINISHING can change, by completing. -/
theorem State.unitLost_arms_get (s : State) (u : UnitNo) (st : UnitState) (k : SupNotice) (d : Nat) (b : Arm)
    (h : s.phase b ≠ some .finishing) :
    (s.unitLost u st k d).arms.get b = (s.arms.get b).mapRecord fun r => r.loseUnit u := by
  have hget : (s.loseUnit u st k d).arms.get b = (s.arms.get b).mapRecord fun r => r.loseUnit u := by
    simp [State.loseUnit]
  have hph : ∀ r : LoadRecord, (r.loseUnit u).phase = r.phase := by
    intro r; unfold LoadRecord.loseUnit LoadRecord.modItem; dsimp only; repeat' split
    all_goals rfl
  unfold State.unitLost
  rw [State.foldl_examine_arms_get, hget]
  unfold State.phase State.record at h ⊢
  rw [hget]
  cases ho : (s.arms.get b).occ <;> simp_all [Occupancy.mapRecord, Occupancy.record]

/-- The notice of a unit's loss is in the supervisor set. -/
theorem State.unitLost_notice (s : State) (u : UnitNo) (st : UnitState) (k : SupNotice) (d : Nat) :
    ∃ p ∈ (s.unitLost u st k d).supervisor.notices, p.1 = k := by
  have hm : ∃ p ∈ (s.loseUnit u st k d).supervisor.notices, p.1 = k := by
    simpa [State.loseUnit] using raiseIn_mem SupNotice.key SupNotice.key_injective k (some d) s.supervisor.notices
  obtain ⟨p, hp, e⟩ := hm
  exact ⟨p, State.mem_foldl_examine_notices _ _ hp, e⟩

/-- With no load in FINISHING, a unit's loss completes no load. -/
theorem State.unitLost_eq (s : State) (u : UnitNo) (st : UnitState) (k : SupNotice) (d : Nat)
    (h : ∀ b, s.phase b ≠ some .finishing) : s.unitLost u st k d = s.loseUnit u st k d := by
  have hph : ∀ r : LoadRecord, (r.loseUnit u).phase = r.phase := by
    intro r; unfold LoadRecord.loseUnit LoadRecord.modItem; dsimp only; repeat' split
    all_goals rfl
  have h' : ∀ b, (s.loseUnit u st k d).phase b ≠ some .finishing := by
    intro b hb
    apply h b
    unfold State.phase State.record at *
    simp only [State.loseUnit, State.raiseSup_arms, Bank.get_tab] at hb
    cases ho : (s.arms.get b).occ <;> simp_all [Occupancy.mapRecord, Occupancy.record]
  unfold State.unitLost
  generalize s.markedArms u = l
  induction l with
  | nil => rfl
  | cons a l ih => rw [List.foldl_cons, State.examine_eq_self _ a (h' a), ih]

/-! ### The low mark -/

/-- The low mark evaluated, in closed form (R146). -/
theorem State.evalLow_units (s : State) (u : UnitNo) :
    (s.evalLow u).units = s.units.upd u fun x => { x with lowMark := decide (x.inventory < x.low) } := by
  unfold State.evalLow; dsimp only
  split
  · rw [State.raiseSup_units, State.modUnit_units]; apply Bank.upd_congr; rfl
  · rw [State.modUnit_units]; apply Bank.upd_congr; rfl

/-- UNIT_LOW(u) is raised when the low mark goes from clear to set (R146, R154). -/
theorem State.evalLow_supervisor (s : State) (u : UnitNo) :
    (s.evalLow u).supervisor = { s.supervisor with
      notices := if (s.units.get u).inventory < (s.units.get u).low ∧ (s.units.get u).lowMark = false
        then raiseIn SupNotice.key (.unitLow u) (some (s.units.get u).inventory) s.supervisor.notices
        else s.supervisor.notices } := by
  unfold State.evalLow; dsimp only
  by_cases h : (s.units.get u).inventory < (s.units.get u).low ∧ (s.units.get u).lowMark = false
  · rw [if_pos (by simp [h.1, h.2]), if_pos h]; rfl
  · rw [if_neg (by simpa using h), if_neg h]; rfl

end Sys2Proof.Machine
end

