-- ==== Sys2Proof/Laws/Deliveries.lean ====
section
/-! SUPPORT. A pulse delivery's stages, each said once: the accounting in closed form, what the queues' operations leave of a load
record, and which of its tests a delivery takes. -/

namespace Sys2Proof.Machine

/-! ### What the shot queues leave of a load record -/

/-- The record with every final-shot mark clear: what the shot queues' operations never change. -/
def LoadRecord.unmarked (r : LoadRecord) : LoadRecord :=
  { r with items := r.items.map fun i => { i with finalShot := false } }

@[simp] theorem LoadRecord.unmarked_phase (r : LoadRecord) : r.unmarked.phase = r.phase := rfl
@[simp] theorem LoadRecord.unmarked_acc (r : LoadRecord) : r.unmarked.acc = r.acc := rfl
@[simp] theorem LoadRecord.unmarked_haltReason (r : LoadRecord) : r.unmarked.haltReason = r.haltReason := rfl
@[simp] theorem LoadRecord.unmarked_flags (r : LoadRecord) : r.unmarked.flags = r.flags := rfl
@[simp] theorem LoadRecord.unmarked_snap (r : LoadRecord) : r.unmarked.snap = r.snap := rfl

/-- Clearing a mark leaves the unmarked record as it is. -/
theorem LoadRecord.unmarked_clear (r : LoadRecord) (u : UnitNo) :
    (r.modItem u fun i => { i with finalShot := false }).unmarked = r.unmarked := by
  simp only [LoadRecord.unmarked, LoadRecord.modItem, List.map_map]
  congr 1
  apply List.map_congr_left
  intro i _; simp only [Function.comp]; split <;> rfl

theorem State.takeHead_unmarked (s : State) (u : UnitNo) (b : Arm) :
    ((s.takeHead u).arms.get b).mapRecord LoadRecord.unmarked = (s.arms.get b).mapRecord LoadRecord.unmarked := by
  rw [State.takeHead_arms_get]; split
  · simp only [ArmCtl.mapRecord, Occupancy.mapRecord_mapRecord, LoadRecord.unmarked_clear]
  · rfl

theorem State.additiveDue_unmarked (s : State) (u : UnitNo) (a b : Arm) :
    ((s.additiveDue u a).arms.get b).mapRecord LoadRecord.unmarked = (s.arms.get b).mapRecord LoadRecord.unmarked := by
  unfold State.additiveDue; dsimp only; split
  · unfold State.enqueue; rw [State.takeHead_unmarked]; rfl
  · rfl

/-- The additive-due results of a delivery change no load record but for final-shot marks. -/
theorem State.additiveResults_unmarked (s : State) (a b : Arm) :
    ((s.additiveResults a).arms.get b).mapRecord LoadRecord.unmarked =
      (s.arms.get b).mapRecord LoadRecord.unmarked := by
  unfold State.additiveResults
  cases s.record a with
  | none => rfl
  | some r =>
    refine foldl_keep _ (fun t : State => (t.arms.get b).mapRecord LoadRecord.unmarked) ?_ _ _
    intro t i; split
    · exact State.additiveDue_unmarked t i.unit a b
    · rfl

/-- Records that are alike but for marks, found from their arms. -/
theorem State.record_unmarked {s t : State} {b : Arm}
    (h : (t.arms.get b).mapRecord LoadRecord.unmarked = (s.arms.get b).mapRecord LoadRecord.unmarked) :
    (t.record b).map LoadRecord.unmarked = (s.record b).map LoadRecord.unmarked := by
  have := congrArg (fun c : ArmCtl => c.occ.record) h
  simpa [State.record] using this

theorem AdditiveUnit.begin_settings (x : AdditiveUnit) (a : Arm) (rest : List Arm) :
    (x.begin a rest).shot = x.shot ∧ (x.begin a rest).inventory = x.inventory ∧
    (x.begin a rest).failures = x.failures := by
  rw [AdditiveUnit.begin_eq]; simp

/-! ### Ethanol results -/

/-- An ethanol result changes the arm's own load alone, and of it the closed-valve volume alone. -/
theorem State.ethanolResult_arms (s : State) (a : Arm) :
    (s.ethanolResult a).arms = s.arms ∨
    (s.ethanolResult a).arms =
      s.arms.upd a (ArmCtl.mapRecord fun r => { r with acc := { r.acc with closedValve := 0 } }) := by
  unfold State.ethanolResult
  cases s.record a with
  | none => exact .inl rfl
  | some r =>
    dsimp only; split
    · simp
    · split
      · rw [State.leaveHeader_arms]; split
        · exact .inr rfl
        · exact .inl rfl
      · exact .inl rfl

/-! ### Accounting -/

/-- The accounts after stages 3 to 5, field by field: totals grow by what they had room for (R55 to R57). -/
theorem LoadRecord.accountsAfter_totals (r : LoadRecord) (d : Delivery) (x : Readings) :
    (r.accountsAfter d x).totalGross = r.acc.totalGross + r.grossAdded d ∧
    (r.accountsAfter d x).totalStd = r.acc.totalStd + r.stdAdded d x ∧
    (r.accountsAfter d x).owed = r.acc.owed ∧ (r.accountsAfter d x).restrictOn = r.acc.restrictOn := by
  unfold LoadRecord.accountsAfter Accounts.addGross Accounts.addStandard Accounts.addClosed
  dsimp only
  cases d.meter <;> dsimp only <;> split <;> exact ⟨rfl, rfl, rfl, rfl⟩

/-- What the accounting of a delivery leaves of the record. -/
theorem LoadRecord.account_keeps (r : LoadRecord) (d : Delivery) (x : Readings) :
    (r.account d x).phase = r.phase ∧ (r.account d x).haltReason = r.haltReason ∧ (r.account d x).snap = r.snap ∧
    (r.account d x).number = r.number ∧ (r.account d x).preset = r.preset ∧
    (r.account d x).flags.additiveShort = r.flags.additiveShort := ⟨rfl, rfl, rfl, rfl, rfl, rfl⟩

end Sys2Proof.Machine
end

