-- ==== Sys2Proof/Laws/Requests.lean ====
section
/-! SUPPORT. How a request is served: what the slot of its line lets its owner do, in the terms of the statements. -/

namespace Sys2Proof.Machine

variable {s : State} {l : Line} {c : Instr} {type : Nat} {x : Answer}

/-- A request that waits in its line's slot is taken. -/
theorem State.takes_of_awaits (h : s.awaits l c) : s.takes l c = true := by
  unfold State.awaits at h; unfold State.takes; rw [h]; simp

/-- A waiting request that is no RESTART is answered: the slot holds the reply, and the owner's effect is the rest. -/
theorem State.serve_answered (h : s.awaits l c) (hr : x.restart = false) :
    s.serve l c type x = x.state.answered l c type x.code x.fields := by
  unfold State.serve State.answered
  rw [State.takes_of_awaits h]
  unfold State.awaits at h
  simp only [if_true]
  congr 1; funext y; rw [h]; simp [answeredSlot, hr]

/-- A broadcast that waits is taken by its owner, and leaves the slot empty. -/
theorem State.serve_broadcast (h : s.awaitsBroadcast c) :
    s.serve .supervisor c type x = x.state.emptied .supervisor := by
  unfold State.serve State.emptied
  have ht : s.takes .supervisor c = true := by
    unfold State.awaitsBroadcast at h; unfold State.takes; simp only [State.line]; rw [h]; simp
  rw [ht]
  unfold State.awaitsBroadcast at h
  simp only [if_true]
  congr 1; funext y; simp only [State.line]; rw [h]; simp [answeredSlot]

/-- A request that is not taken has no effect. -/
theorem State.serve_of_not_takes (h : s.takes l c = false) : s.serve l c type x = s := by
  unfold State.serve; rw [h]; simp

/-- Whatever the slot, a served request leaves the state or its owner's effect with a new slot. -/
theorem State.serve_cases (s : State) (l : Line) (c : Instr) (type : Nat) (x : Answer) :
    s.serve l c type x = s ∨ ∃ p, s.serve l c type x = x.state.modLine l fun y => { y with slot := p } := by
  unfold State.serve; split
  · exact .inr ⟨_, rfl⟩
  · exact .inl rfl

end Sys2Proof.Machine
end

