-- ==== Sys2Proof/Laws/Times.lean ====
section
/-! SUPPORT. When the end of a time has come: each test that an expiry, a gap or a restart makes of the state's counts, said once
in the terms of the statements. -/

namespace Sys2Proof.Machine

/-- A timer expires exactly where it runs with a remaining time of 0 (R97). -/
@[simp] theorem Timer.due_eq_true (t : Timer) : t.due = true ↔ t = .running 0 := by
  cases t with
  | running n => cases n <;> simp [Timer.due]
  | _ => simp [Timer.due]

/-- A timer that is due runs. -/
theorem Timer.runs_of_due {t : Timer} (h : t.due = true) : t.runs = true := by
  rw [(Timer.due_eq_true t).mp h]; rfl

/-- A timer restarted for a second or more is not due: after a retrigger taken first the expiry does not occur (R97). -/
theorem Timer.startSeconds_not_due {n : Nat} (h : 1 ≤ n) : (Timer.startSeconds n).due = false := by
  rw [Bool.eq_false_iff, Ne, Timer.due_eq_true]
  simp [Timer.startSeconds, Config.ticksPerSecond]; omega

/-- Cap and idle expiry find so many ticks since the last-edge time, and nothing where there is none (R5, R6). -/
theorem MeterInput.quietFor_eq_true (x : MeterInput) (now : BitVec 32) (ticks : Nat) :
    x.quietFor now ticks = true ↔ ∃ e, x.lastEdge = some e ∧ ticks ≤ (now - e).toNat := by
  cases h : x.lastEdge <;> simp [MeterInput.quietFor, h]

/-- After a pulse no expiry of its input occurs at the same instant (R5, R6). -/
theorem MeterInput.quietFor_of_lastEdge_now {x : MeterInput} {now : BitVec 32} {ticks : Nat} (h : x.lastEdge = some now)
    (ht : 1 ≤ ticks) : x.quietFor now ticks = false := by
  simp [MeterInput.quietFor, h]; omega

/-- The gap within a telegram has lasted 20 ms (R181). -/
theorem LineState.gapDue_eq_true (y : LineState) :
    y.gapDue = true ↔ ∃ b, y.assembly = some b ∧ 2000 ≤ b.gap := by
  cases h : y.assembly with
  | none => simp [LineState.gapDue, h]
  | some b =>
    have : y.gapDue = decide (2000 ≤ b.gap) := by rw [LineState.gapDue, h]; rfl
    simp [this]

/-- A hold timer of the arm expires (R118, R119). -/
theorem Header.holdDue_eq_true (h : Header) (a : Arm) :
    h.holdDue a = true ↔ ∃ x ∈ h.holders, x.arm = a ∧ x.hold = 0 := by
  simp [Header.holdDue]

/-- An ethanol-flow timer of the arm expires (R121). -/
theorem Header.flowDue_eq_true (h : Header) (a : Arm) :
    h.flowDue a = true ↔ ∃ x ∈ h.holders, x.arm = a ∧ x.flow = 0 := by
  simp [Header.flowDue]

/-- A station restart is a reset at the levels presented, which leaves the waiting commands and takes the first of the address
levels from outside (R183, R192). -/
theorem State.restarted_eq (s : State) : s.restarted =
    { State.resetWith s.presentedPins with pending := s.pending, addressInputs := s.addressInputs.tail } := rfl

end Sys2Proof.Machine
end

