-- ==== Sys2Proof/Tests/Slice0.lean ====
section
/-! SUPPORT. Tests of the model on small states: ill-formed commands refused, the spec's own worked figures, and for every
statement with hypotheses a state and operands that meet them. Expected values are the spec's tables and examples, or
worked out by hand from its rules. A request statement's hypothesis that its line holds the request is met by `asks`
(`test_asks_awaits`, `test_casts_awaits`), for every state, line and request. -/

namespace Sys2Proof.Tests

open Sys2Proof.Machine

-- One theorem after another: the kernel's evaluations below would otherwise each hold a thread of their own.
set_option Elab.async false

/-! ### Helpers -/

/-- The state with request `c` waiting in the slot of line `l`. -/
def asks (s : State) (l : Line) (c : Instr) : State :=
  s.modLine l fun y => { y with slot := some { handed := some c, broadcast := false, reply := none, restart := false } }

/-- The state with request `c` waiting in the supervisor line's slot as a broadcast. -/
def casts (s : State) (c : Instr) : State :=
  s.modLine .supervisor fun y =>
    { y with slot := some { handed := some c, broadcast := true, reply := none, restart := false } }

/-- The next state of a command. -/
def after (c : Instr) (s : State) : State :=
  match exec c s with
  | .next t => t
  | _ => s

/-- The reply body in the slot of a line. -/
def reply (s : State) (l : Line) : Option (List Byte) := (s.line l).slot.bind Slot.reply

/-- The reply body to request `c` on line `l`. -/
def answer (s : State) (l : Line) (c : Instr) : Option (List Byte) := reply (after c (asks s l c)) l

/-- The load of 04_blend_arithmetic 4.11 (arm 3 on E10), in load state `p`. -/
def e10 (p : Phase) : LoadRecord :=
  { number := 1207, bill := [84], preset := 3000, authTime := 52140, phase := p, haltReason := none,
    snap := { entry := 4, revision := 1, code := 110, ratio := 1000, tolerance := 50, alpha := 1150, flush := 100,
              step := 2000, restrict := 20000, hard := 60000 },
    acc := Accounts.zero, flags := ExceptionFlags.clear, finalRatio := none, endTime := none, stopHalt := false,
    lostHalts := [],
    items := [{ unit := 0, rate := 250, required := true, delivered := 0, shots := 0, owed := 0, short := false,
                finalShot := false }] }

/-- The load record put on arm `a`. -/
def loaded (s : State) (a : Arm) (r : LoadRecord) : State := s.modArm a fun c => { c with occ := .loaded r }

/-- The setting of 4.11: arm 3's K-factors, channels 3 and 8, entry 4, unit 0 READY, header slot count 2. -/
def lane : State :=
  let s := State.reset
  let s := s.modMeters 3 fun x =>
    { x with base := { x.base with k := 25000 }, ethanol := { x.ethanol with k := 10000 } }
  { s with
    scan := { s.scan with
      temps := (s.scan.temps.put 3 { code := some 2693, value := 273, status := .good }).put 8
        { code := some 2488, value := 222, status := .good } }
    header := { s.header with slots := 2 }
    arms := s.arms.upd 3 fun c => { c with occ := .idle }
    records := { s.records with nextNumber := 1207 }
    recipes := s.recipes.upd 4 fun e =>
      { e with state := .active, revision := 1, code := 110, ratio := 1000, tolerance := 50, alpha := 1150, flush := 100,
               step := 2000, restrict := 20000, hard := 60000, permitted := 8
               items := [{ unit := 0, rate := 250, required := true }] }
    units := s.units.upd 0 fun x => { x with state := .ready, shot := 25, inventory := 20000, low := 2000 } }

/-- An input of arm 3 in whose filter test a rising level is about to succeed. -/
def edge (s : State) (m : Meter) : State := s.modMeter 3 m fun x => { x with presented := true, test := some 0 }

/-- Arm 3 in a load state, at that edge of input `m`. -/
def due (p : Phase) (m : Meter) : State := edge (loaded lane 3 (e10 p)) m

/-- The pulse taken at arm 3. -/
def pulsed (s : State) (m : Meter) : State := after (.meterPulseAcceptance 3 m) (edge s m)

/-- Arm 3's accounts. -/
def acc (s : State) : Accounts := ((s.record 3).map LoadRecord.acc).getD Accounts.zero

/-- Arm 3's load record changed. -/
def load3 (s : State) (f : LoadRecord → LoadRecord) : State := s.modRecord 3 f

/-! ### Requests waiting -/

/-- Every request can wait in a line's slot: the hypothesis of the request statements. -/
theorem test_asks_awaits (s : State) (l : Line) (c : Instr) : (asks s l c).awaits l c := by
  cases l <;> simp [asks, State.awaits, State.modLine, State.line]

/-- Every broadcast can wait in the supervisor line's slot. -/
theorem test_casts_awaits (s : State) (c : Instr) : (casts s c).awaitsBroadcast c := rfl

/-! ### Well-formedness: an ill-formed command for each check -/

theorem test_wf_setMeters : Instr.wf (.setMeters 256 1 1 0 0 1 1) = false ∧ Instr.wf (.setMeters 0 4294967296 1 0 0 1 1) = false ∧
    Instr.wf (.setMeters 0 1 4294967296 0 0 1 1) = false ∧ Instr.wf (.setMeters 0 1 1 256 0 1 1) = false ∧
    Instr.wf (.setMeters 0 1 1 0 256 1 1) = false ∧ Instr.wf (.setMeters 0 1 1 0 0 65536 1) = false ∧
    Instr.wf (.setMeters 0 1 1 0 0 1 65536) = false ∧ Instr.wf (.setMeters 255 4294967295 1 255 0 65535 1) = true := by
  decide

theorem test_wf_one_character : Instr.wf (.readMeters 256) = false ∧ Instr.wf (.withdrawRecipe 256) = false ∧
    Instr.wf (.readRecipe 256) = false ∧ Instr.wf (.readLoad 256) = false ∧
    Instr.wf (.lastSummarySupervisor 256) = false ∧ Instr.wf (.clearUnit 256) = false ∧
    Instr.wf (.readUnit 256) = false ∧ Instr.wf (.restart 256) = false := by decide

theorem test_wf_two_fields : Instr.wf (.setArmService 256 0) = false ∧ Instr.wf (.setArmService 0 256) = false ∧
    Instr.wf (.abortLoad 256 0) = false ∧ Instr.wf (.abortLoad 0 65536) = false ∧
    Instr.wf (.setUnitService 256 0) = false ∧ Instr.wf (.setUnitService 0 256) = false ∧
    Instr.wf (.refillUnit 256 0) = false ∧ Instr.wf (.refillUnit 0 4294967296) = false ∧
    Instr.wf (.setRecordNotice 256 0) = false ∧ Instr.wf (.setRecordNotice 0 256) = false ∧
    Instr.wf (.removeRecord 65536) = false ∧ Instr.wf (.setClock 4294967296) = false := by decide

theorem test_wf_authorize : Instr.wf (.authorize 0 65536 1 [65]) = false ∧
    Instr.wf (.authorize 0 1 4294967296 [65]) = false ∧ Instr.wf (.authorize 0 1 1 []) = false ∧
    Instr.wf (.authorize 0 1 1 (List.replicate 17 65)) = false ∧
    Instr.wf (.authorize 0 1 1 (List.replicate 16 65)) = true := by decide

theorem test_wf_settings : Instr.wf (.setStation 65536 0 0 0 0) = false ∧ Instr.wf (.setStation 0 256 0 0 0) = false ∧
    Instr.wf (.setStation 0 0 65536 0 0) = false ∧ Instr.wf (.setStation 0 0 0 256 0) = false ∧
    Instr.wf (.setStation 0 0 0 0 65536) = false ∧ Instr.wf (.setHeader 256 0 0 0 0) = false ∧
    Instr.wf (.setHeader 0 65536 0 0 0) = false ∧ Instr.wf (.setHeader 0 0 256 0 0) = false ∧
    Instr.wf (.setHeader 0 0 0 65536 0) = false ∧ Instr.wf (.setHeader 0 0 0 0 65536) = false ∧
    Instr.wf (.setUnit 256 0 0 0 0) = false ∧ Instr.wf (.setUnit 0 256 0 0 0) = false ∧
    Instr.wf (.setUnit 0 0 4294967296 0 0) = false ∧ Instr.wf (.setUnit 0 0 0 65536 0) = false ∧
    Instr.wf (.setUnit 0 0 0 0 65536) = false ∧ Instr.wf (.setStopInputs 256 0 0 0) = false ∧
    Instr.wf (.setStopInputs 0 256 0 0) = false ∧ Instr.wf (.setStopInputs 0 0 256 0) = false ∧
    Instr.wf (.setStopInputs 0 0 0 256) = false := by decide

/-- The E10 recipe of section 3.10 as DEFINE RECIPE sends it, for entry 4, permitted on arm 3. -/
def e10Fields : RecipeFields :=
  { entry := 4, code := 110, ratio := 1000, tolerance := 50, alpha := 1150, flush := 100, step := 2000, restrict := 20000,
    hard := 60000, permitted := 8, items := [{ unit := 0, rate := 250, required := 1 }] }

theorem test_wf_recipe : e10Fields.wf = true ∧ RecipeFields.wf { e10Fields with entry := 256 } = false ∧
    RecipeFields.wf { e10Fields with code := 65536 } = false ∧ RecipeFields.wf { e10Fields with ratio := 65536 } = false ∧
    RecipeFields.wf { e10Fields with tolerance := 65536 } = false ∧
    RecipeFields.wf { e10Fields with alpha := 65536 } = false ∧ RecipeFields.wf { e10Fields with flush := 65536 } = false ∧
    RecipeFields.wf { e10Fields with step := 65536 } = false ∧
    RecipeFields.wf { e10Fields with restrict := 4294967296 } = false ∧
    RecipeFields.wf { e10Fields with hard := 4294967296 } = false ∧
    RecipeFields.wf { e10Fields with permitted := 256 } = false := by decide

theorem test_wf_recipe_items : RecipeFields.wf { e10Fields with items := [⟨256, 1, 0⟩] } = false ∧
    RecipeFields.wf { e10Fields with items := [⟨0, 65536, 0⟩] } = false ∧
    RecipeFields.wf { e10Fields with items := [⟨0, 1, 256⟩] } = false ∧
    RecipeFields.wf { e10Fields with items := List.replicate 58 ⟨0, 1, 0⟩ } = false ∧
    RecipeFields.wf { e10Fields with items := List.replicate 57 ⟨0, 1, 0⟩ } = true := by decide

/-! ### Telegrams -/

/-- The check value of R180 over the nine characters "123456789": the published check of the cyclic code with this polynomial,
start value 65,535 and no final inversion. -/
theorem test_check_value :
    checkValue [0x31, 0x32, 0x33, 0x34, 0x35, 0x36, 0x37, 0x38, 0x39] = 0x29B1#16 := by decide +kernel

/-- READ STATION to station 1: head 1, length 1, body 2, and the check over them (Table 10-8, R180). -/
theorem test_frame_parts : splitTelegram (frame 1 [2]) = some (1, [2], (checkValue [1, 1, 2]).toNat) ∧
    parseRequest .supervisor [2] = .request .readStation ∧ parseRequest .supervisor [2, 0] = .badLength ∧
    parseRequest .supervisor [6] = .unknown ∧ parseRequest (.arm 3) [8] = .unknown := by decide +kernel

/-- AUTHORIZE as Table 10-9 lays it out: type 1, code 110, preset 3,000, bill "T". -/
theorem test_authorize_body : requestBody (.authorize 3 110 3000 [84]) = some [1, 0, 110, 0, 0, 11, 184, 84] ∧
    parseRequest (.arm 3) [1, 0, 110, 0, 0, 11, 184, 84] = .request (.authorize 3 110 3000 [84]) ∧
    parseRequest (.arm 3) [1, 0, 110, 0, 0, 11, 184] = .badLength := by decide

/-- The hypotheses of RequestBodiesReadBack, on both kinds of line. -/
theorem test_witness_RequestBodiesReadBack :
    (Instr.wf (.setClock 4294967295) = true ∧ requestLine (.setClock 4294967295) = some .supervisor ∧
      requestBody (.setClock 4294967295) = some [1, 255, 255, 255, 255]) ∧
    (Instr.wf (.pause 7) = true ∧ requestLine (.pause 7) = some (.arm 7) ∧ requestBody (.pause 7) = some [2]) ∧
    Instr.wf (.defineRecipe e10Fields) = true ∧ requestLine (.defineRecipe e10Fields) = some .supervisor := by decide

/-- The hypotheses of WholeTelegramReachesItsOwner at reset, and the run: READ STATION to station 1, PAUSE to arm 3. -/
theorem test_witness_WholeTelegramReachesItsOwner :
    State.reset.address ≠ 0 ∧ State.reset.supervisor.transmitting = false ∧ State.reset.address.toNat = 1 ∧
    (State.reset.line .supervisor).received = [] ∧ (State.reset.line .supervisor).slot = none ∧
    (State.reset.line (.arm 3)).received = [] ∧ (State.reset.line (.arm 3)).slot = none := by decide

/-- The slot of a line after a whole telegram, character by character, from reset. -/
def sent (l : Line) (head : Byte) (body : List Byte) : Option Slot :=
  match Host.Core.run Sys2Proof.core (body.length + 5)
    { State.reset with pending :=
        .characterReceived l head true true :: ((frame head body).tail.map fun b => .characterReceived l b false true) ++
          [.telegramReceived l] } with
  | .next t => State.line t l |>.slot
  | _ => none

/-- READ STATION to station 1 and PAUSE to arm 3 reach their owners; as broadcast SET CLOCK does, and READ STATION does not
(Table 10-1). -/
theorem test_whole_telegram_runs :
    sent .supervisor 1 [2] = some { handed := some .readStation, broadcast := false, reply := none, restart := false } ∧
    sent (.arm 3) 35 [2] = some { handed := some (.pause 3), broadcast := false, reply := none, restart := false } ∧
    sent .supervisor 0 [1, 0, 0, 1, 0] =
      some { handed := some (.setClock 256), broadcast := true, reply := none, restart := false } ∧
    sent .supervisor 0 [2] = none := by decide +kernel

/-! ### Meter inputs -/

/-- The hypotheses of FilterTestsRunTheirTime, and its tests: 20 µs and 200 µs (Table 1-2, R139), 5 ms (R170), and filter
code 0 at once. -/
theorem test_witness_FilterTestsRunTheirTime :
    ((State.reset.meter 0 .base).filterCode ≠ 0 ∧
      ((after (.meterLevelChange 0 .base true) State.reset).meter 0 .base).test = some 2) ∧
    (let s := State.reset.modMeter 0 .base fun x => { x with filterCode := 0 }
     (s.meter 0 .base).filterCode = 0 ∧ (s.meter 0 .base).accepted = false ∧ (s.meter 0 .base).test = none ∧
     ((after (.meterLevelChange 0 .base true) s).meter 0 .base).accepted = true) ∧
    (let s := State.reset.modMeter 0 .base fun x => { x with accepted := true, test := some 0 }
     (s.meter 0 .base).test ≠ none ∧ (s.meter 0 .base).presented = false ∧ (s.meter 0 .base).accepted = true ∧
     ((after (.meterAcceptedFallingEdge 0 .base) s).meter 0 .base).accepted = false) ∧
    (let s := State.reset.modUnit 2 fun x => { x with accepted := true, test := some 0 }
     (s.units.get 2).test ≠ none ∧ (s.units.get 2).presented = false ∧ (s.units.get 2).accepted = true ∧
     ((after (.confirmAcceptedFallingEdge 2) s).units.get 2).accepted = false) ∧
    ((after (.strokeConfirmLevelChange 2 true) State.reset).units.get 2).test = some 20 ∧
    ((after (.stopInputLevelChange 1 false) State.reset).stop.inputs.get 1).test = some 500 := by decide +kernel

/-- Log entry 24: a level that returns as the filter time runs out, its change taken first, abandons the test, and no edge is
accepted; with the edge's command taken first the edge is accepted. -/
theorem test_return_as_the_filter_time_ends :
    let s := lane.modMeter 3 .base fun x => { x with presented := true, test := some 0 }
    let back := after (.meterLevelChange 3 .base false) s
    (back.meter 3 .base).test = none ∧ after (.meterPulseAcceptance 3 .base) back = back ∧
    ((after (.meterLevelChange 3 .base false) (after (.meterPulseAcceptance 3 .base) s)).meter 3 .base).test = some 2 := by
  decide +kernel

/-- The input E5 of section 1.10 at a timebase, its load in FLOWING. -/
def e5 (s : State) (now : Nat) : State :=
  after (.meterPulseAcceptance 5 .ethanol)
    ({ s with timebase := BitVec.ofNat 32 now }.modMeter 5 .ethanol fun x =>
      { x with presented := true, accepted := false, test := some 0 })

/-- Arm 5 before the first pulse of section 1.10. -/
def e5Start : State :=
  (loaded lane 5 (e10 .flowing)).modMeter 5 .ethanol fun x => { x with k := 10250, minInterval := 5 }

/-- Table 1-5, pulse by pulse: flow rate, residue after and overspeed so far. -/
theorem test_table_1_5 :
    let show3 (s : State) : Nat × Nat × Bool :=
      ((s.meter 5 .ethanol).flowRate, (s.meter 5 .ethanol).residue, (s.record 5).any fun r => r.flags.overspeedEth)
    show3 (e5 e5Start 1000000) = (0, 250, false) ∧
    show3 (e5 (e5 e5Start 1000000) 1000041) = (15000, 500, true) ∧
    show3 (e5 (e5 (e5 e5Start 1000000) 1000041) 1000082) = (15000, 750, true) ∧
    show3 (e5 (e5 (e5 (e5 e5Start 1000000) 1000041) 1000082) 1000132) = (12300, 0, true) ∧
    show3 (e5 (e5 e5Start 1000000) 1000050) = (12300, 500, false) := by decide +kernel

/-- The hypotheses of the pulse statements: a rising edge about to be accepted, on an arm that receives its pulses and on one
that does not, with the last edge 1,000,000 ticks old, the oldest that gives an interval (R5). -/
theorem test_witness_pulses :
    (∀ m : Bool, let i := if m then Meter.base else .ethanol
      let s := { due .flowing i with timebase := 1000000 }.modMeter 3 i fun x => { x with lastEdge := some 0 }
      (s.meter 3 i).test ≠ none ∧ (s.meter 3 i).presented = true ∧ (s.meter 3 i).accepted = false ∧
      ((s.timebase - 0).toNat ≤ 1000000) ∧ s.phase 3 = some .flowing ∧ (s.record 3).map LoadRecord.haltReason = some none ∧
      ((after (.meterPulseAcceptance 3 i) s).meter 3 i).lastInterval = some 1000000 ∧
      ((after (.meterPulseAcceptance 3 i) s).meter 3 i).flowRate = 0) ∧
    (due .complete .base).phase 3 = some .complete ∧ (edge lane .base).phase 3 = none ∧
    ((pulsed lane .base).meters.get 3).unassignedMl = 25 ∧
    (pulsed lane .base).supervisor.notices = [(.unassignedFlow 3, some 0)] ∧
    ((after (.meterPulseAcceptance 3 .base) (due .complete .base)).meters.get 3).unassignedMl = 25 := by decide +kernel

/-- The unassigned counter at its end (R12): 99,999,999 mL and 999 µL. -/
theorem test_unassigned_saturates : unassignedAfter 99999974 999 25000 = (99999999, 999) ∧
    unassignedAfter 99999975 0 25000 = (99999999, 999) ∧ unassignedAfter 5 5 0 = (5, 5) := by decide

/-- The hypotheses of EndedLoadsOnlyAccount in both of its load states, and the standing owed. -/
theorem test_witness_EndedLoadsOnlyAccount :
    (due .halted .base).header.holds 3 = false ∧ (due .halted .base).phase 3 = some .halted ∧
    (due .finishing .ethanol).phase 3 = some .finishing ∧ (due .finishing .ethanol).header.holds 3 = false ∧
    (acc (pulsed (loaded lane 3 (e10 .halted)) .base)).totalGross = 25 ∧
    (acc (pulsed (loaded lane 3 (e10 .halted)) .base)).owed = 0 := by decide +kernel

/-- The clauses of CapAndIdleExpiry at the last tick before and the first tick of each expiry (R5, R6), with no last edge, and
with a pulse taken first at the instant of both: neither expiry then occurs. -/
theorem test_witness_CapAndIdleExpiry :
    let at' (now : Nat) : State := { State.reset with timebase := BitVec.ofNat 32 (7 + now) }.modMeter 6 .ethanol
      fun x => { x with k := 1000, lastEdge := some 7, flowRate := 30 }
    let pulse (s : State) : State := after (.meterPulseAcceptance 6 .ethanol)
      (s.modMeter 6 .ethanol fun x => { x with presented := true, test := some 0 })
    let view (s : State) : Option (BitVec 32) × Option Nat × Nat :=
      ((s.meter 6 .ethanol).lastEdge, (s.meter 6 .ethanol).lastInterval, (s.meter 6 .ethanol).flowRate)
    view (after (.capExpiry 6 .ethanol) (at' 999999)) = (some 7, none, 30) ∧
    view (after (.capExpiry 6 .ethanol) (at' 1000000)) = (none, some 1000000, 0) ∧
    view (after (.idleExpiry 6 .ethanol) (at' 199999)) = (some 7, none, 30) ∧
    view (after (.idleExpiry 6 .ethanol) (at' 200000)) = (some 7, none, 0) ∧
    view (after (.capExpiry 6 .ethanol) State.reset) = (none, none, 0) ∧
    view (after (.capExpiry 6 .ethanol) (pulse (at' 1000000))) = (some 1000007, some 1000000, 0) ∧
    view (after (.idleExpiry 6 .ethanol) (pulse (at' 200000))) = (some 200007, some 200000, 0) := by decide +kernel

/-- The clauses of MeterRequests at their bounds (R14 to R16). -/
theorem test_witness_MeterRequests :
    answer State.reset .supervisor (.setMeters 8 100 100 0 0 1 1) = some [10, 3] ∧
    answer lane .supervisor (.setMeters 3 100 100 0 0 1 1) = some [10, 10] ∧ (lane.arms.get 3).occ ≠ .outOfService ∧
    (State.reset.arms.get 7).occ = .outOfService ∧
    answer State.reset .supervisor (.setMeters 7 99 100 0 0 1 1) = some [10, 3] ∧
    answer State.reset .supervisor (.setMeters 7 100 500001 0 0 1 1) = some [10, 3] ∧
    answer State.reset .supervisor (.setMeters 7 100 100 0 4 1 1) = some [10, 3] ∧
    answer State.reset .supervisor (.setMeters 7 100 500000 0 3 1 1000) =
      some [10, 0, 7, 0, 0, 0, 100, 0, 7, 161, 32, 0, 3, 0, 1, 3, 232] ∧
    answer State.reset .supervisor (.setMeters 7 100 500000 0 3 0 1001) =
      some [10, 1, 7, 0, 0, 0, 100, 0, 7, 161, 32, 0, 3, 0, 1, 3, 232] ∧
    answer State.reset .supervisor (.readMeters 8) = some [11, 3] ∧
    (answer State.reset .supervisor (.readMeters 7)).map List.length = some 39 := by decide +kernel

/-! ### Scan -/

/-- A conversion of the channel at position `p`. -/
def conv (s : State) (p : Fin 13) (code : BitVec 12) : State :=
  after (.scanConversionComplete code) { s with scan := { s.scan with position := p, remaining := 0 } }

/-- The value and status of a temperature channel. -/
def temp (s : State) (c : Fin 9) : Int × TempStatus := ((s.scan.temps.get c).value, (s.scan.temps.get c).status)

/-- Table 2-2. -/
theorem test_table_2_2 : temp (conv State.reset 0 40) 0 = (-390, .good) ∧ temp (conv State.reset 1 1000) 1 = (-150, .good) ∧
    temp (conv State.reset 2 2200) 2 = (150, .good) ∧ temp (conv State.reset 8 2488) 8 = (222, .good) ∧
    temp (conv State.reset 3 2693) 3 = (273, .good) ∧ temp (conv State.reset 4 4003) 4 = (600, .good) ∧
    temp (conv State.reset 5 4004) 5 = (600, .clamped) ∧ temp (conv State.reset 7 4056) 7 = (600, .clamped) := by
  decide +kernel

/-- The clauses of TemperatureConversion: a probe fault below and above the window, announced once (R22, R23), and a
conversion discarded in a reference fault (R27). -/
theorem test_witness_TemperatureConversion :
    State.reset.scan.reference = .ok ∧ State.reset.scan.position.val = 0 ∧
    temp (conv lane 3 39) 3 = (273, .held) ∧ (conv lane 3 39).supervisor.notices = [(.probeFault 3, some 0)] ∧
    temp (conv lane 3 4057) 3 = (273, .held) ∧
    (conv { conv lane 3 39 with supervisor := State.reset.supervisor } 3 0).supervisor.notices = [] ∧
    (let s := { lane with scan := { lane.scan with reference := .fault } }
     s.scan.reference = .fault ∧ temp (conv s 3 2200) 3 = (273, .good) ∧ (conv s 3 2200).scan.position = 4) := by
  decide +kernel

/-- Arm 3 in FLOWING, holding the one slot of its header. -/
def holder (p : Phase) : State :=
  let s := loaded lane 3 (e10 p)
  { s with header := { s.header with threshold := 1200, holders := [{ arm := 3, hold := 60 * 100000, flow := 5 * 100000 }] } }

/-- The clauses of PressureConversion (R27, R29): one reading below the threshold is not LOW, two are, a reading at the
threshold is clear, and LOW revokes the holder to the head of the queue (R122), NORMAL grants it again (R123). -/
theorem test_witness_PressureConversion :
    let low := conv (conv (holder .flowing) 9 1199) 9 1199
    let back := conv (conv low 9 1200) 9 1200
    (holder .flowing).scan.reference = .ok ∧ (conv (holder .flowing) 9 1199).scan.pressure = .normal ∧
    low.scan.pressure = .low ∧ low.header.holders = [] ∧ low.header.wait = [3] ∧
    low.supervisor.notices = [(.pressureChanged, none)] ∧ (conv low 9 1200).scan.pressure = .low ∧
    back.scan.pressure = .normal ∧ back.header.armsHolding = [3] ∧ back.header.wait = [] ∧
    (let s := { lane with scan := { lane.scan with reference := .fault } }
     s.scan.reference = .fault ∧ (conv s 9 0).scan.belowRun = 0) := by decide +kernel

/-- The clauses of ReferenceConversion: the windows of Table 2-3 at their bounds, a fault, its end at channel 12 with all three
references in, and no end at channel 11 (R25, R26, R28). -/
theorem test_witness_ReferenceConversion :
    let ref (s : State) : RefState := s.scan.reference
    ref (conv lane 10 370) = .ok ∧ ref (conv lane 10 450) = .ok ∧ ref (conv lane 10 369) = .fault ∧
    ref (conv lane 10 451) = .fault ∧ ref (conv lane 11 2008) = .ok ∧ ref (conv lane 11 2089) = .fault ∧
    ref (conv lane 12 3726) = .ok ∧ ref (conv lane 12 3645) = .fault ∧
    temp (conv lane 12 3645) 3 = (273, .held) ∧
    (let f := conv lane 10 0
     ref (conv (conv (conv f 10 410) 11 2048) 12 3686) = .ok ∧ ref (conv (conv f 10 410) 11 2048) = .fault ∧
     ref (conv (conv (conv f 10 410) 11 0) 12 3686) = .fault) := by decide +kernel

/-- A tick before its time an edge is not accepted and a conversion not taken, and a reset taken first abandons the conversion that
would have ended (R1, R139, R170, R18, R33). -/
theorem test_before_their_time :
    let s := { lane with scan := { lane.scan with remaining := 1 } }
    let t := (lane.modMeter 3 .base fun x => { x with presented := true, test := some 1 }).modUnit 0 fun x =>
      { x with presented := true, test := some 1 }
    let u := lane.modStop 2 fun x => { x with presented := false, test := some 1 }
    let done := { lane with scan := { lane.scan with position := 3, remaining := 0 } }
    let p : Pins := { base := 0, ethanol := 0, confirm := 0, stop := 15, address := 1 }
    after (.scanConversionComplete 2200) s = s ∧ after (.meterPulseAcceptance 3 .base) t = t ∧
    after (.strokeConfirmation 0) t = t ∧ after (.stopInputAcceptedEdge 2) u = u ∧
    (after (.scanConversionComplete 2200) done).scan.position = 4 ∧
    (after (.scanConversionComplete 2200) (after (.powerOnReset p) done)).scan.position = 0 := by decide +kernel

/-! ### Blend arithmetic -/

/-- Table 4-4. -/
theorem test_table_4_4 : vcf 1150 273 = 9859 ∧ vcf 1100 222 = 9921 ∧ vcf 1150 283 = 9847 ∧ vcf 1000 155 = 9995 ∧
    vcf 100 155 = 10000 ∧ vcf 300 145 = 10001 ∧ vcf 900 145 = 10004 ∧ vcf 900 146 = 10004 ∧ vcf 2000 600 = 9100 ∧
    vcf 2000 (-400) = 11000 := by decide

/-- The pulse of an input of arm 3, whose accepted level has gone low since the one before. -/
def next (s : State) (m : Meter) : State := pulsed (s.modMeter 3 m fun x => { x with accepted := false }) m

/-- Table 4-6: base gross, ethanol gross, total gross, base standard and residue, ethanol standard and residue, total
standard and owed, and the grant that the first delivery brings. -/
theorem test_table_4_6 :
    let row (s : State) : List Nat × Int :=
      let x := acc s
      ([x.baseGross, x.ethGross, x.totalGross, x.baseStd, x.baseStdRes, x.ethStd, x.ethStdRes, x.totalStd], x.owed)
    let one := next (loaded lane 3 (e10 .authorized)) .base
    let two := next one .base
    row one = ([25, 0, 25, 24, 6475000, 0, 0, 24], 10957) ∧ one.phase 3 = some .flowing ∧ one.valveOpen 3 = true ∧
    row two = ([50, 0, 50, 49, 2950000, 0, 0, 49], 10959) ∧
    row (next two .ethanol) = ([50, 10, 60, 49, 2950000, 9, 9210000, 58], 10950) := by decide +kernel

/-- What the tests of a base delivery in FLOWING leave: load state, halt reason, owed and restrict state. -/
def tested (f : Accounts → Accounts) : Option (Phase × Option HaltReason × Int × Bool) :=
  let r := e10 .flowing
  ((pulsed (loaded lane 3 { r with acc := f r.acc }) .base).record 3).map fun r =>
    (r.phase, r.haltReason, r.acc.owed, r.acc.restrictOn)

/-- The clauses of DeliveryTestsInOrder at the bounds of their tests (R57, R61 to R65): saturation, overrun at 3,050,000 mL, under
blend at 60,000, over blend at -60,000, flush entry at 2,900,000, and the restrict state at 20,000 and below 10,000. -/
theorem test_witness_DeliveryTestsInOrder :
    ([fun x => { x with totalGross := 99999990 }, fun x => { x with totalGross := 3049975 },
      fun x => { x with totalGross := 3049974 }, fun x => { x with baseStd := 441386 },
      fun x => { x with ethStd := 70957 }, fun x => { x with ethStd := 70956 },
      fun x => { x with totalGross := 2899975 }, fun x => { x with totalGross := 2899974 },
      fun x => { x with baseStd := 81386 }, fun x => { x with ethStd := 957, restrictOn := true },
      fun x => { x with ethStd := 958, restrictOn := true }] : List (Accounts → Accounts)).map tested =
    [some (.halted, some .overCapacity, 0, false), some (.halted, some .presetOverrun, 0, false),
     some (.flush, none, 10957, false), some (.halted, some .underBlend, 60000, false),
     some (.halted, some .overBlend, -60000, false), some (.flowing, none, -59999, false),
     some (.flush, none, 10957, false), some (.flowing, none, 10957, false), some (.flowing, none, 20000, true),
     some (.flowing, none, 10000, true), some (.flowing, none, 9999, false)] := by decide +kernel

/-- A base delivery in AUTHORIZED and in PAUSED with cause NO_FLOW begins FLOWING, stops the window and starts the no-flow timer
(R51, R76); in PAUSED with cause DRIVER it is tested and the pause stays, and in FLUSH only saturation and overrun are tested;
an ethanol delivery in AUTHORIZED begins nothing. -/
theorem test_deliveries_by_state :
    let run (p : Phase) (m : Meter) (ethStd : Nat) : Option (Phase × Int) × Timer × Timer :=
      let r := e10 p
      let s := (loaded lane 3 { r with acc := { r.acc with ethStd := ethStd } }).modArm 3 fun c =>
        { c with window := if p = .authorized then .running 7 else .stopped }
      let t := pulsed s m
      ((t.record 3).map fun q => (q.phase, q.acc.owed), (t.arms.get 3).window, (t.arms.get 3).noFlow)
    run .authorized .base 0 = (some (.flowing, 10957), .stopped, .running 3000000) ∧
    run (.paused .noFlow) .base 0 = (some (.flowing, 10957), .stopped, .running 3000000) ∧
    run (.paused .driver) .base 0 = (some (.paused .driver, 10957), .stopped, .stopped) ∧
    run .authorized .ethanol 0 = (some (.authorized, 10945), .running 7, .stopped) ∧
    (run (.paused .driver) .base 70957).1 = some (.halted, -60000) ∧
    (run .flush .base 70957).1 = some (.flush, 0) := by decide +kernel

/-- The notices of a delivery (R84, R106, R107): restrict going ON, and an under-blend halt with restrict ON, which goes OFF. -/
theorem test_delivery_notices :
    let run (baseStd : Nat) (on : Bool) : State :=
      pulsed (load3 (loaded lane 3 (e10 .flowing)) fun r =>
        { r with acc := { r.acc with baseStd := baseStd, restrictOn := on } }) .base
    ((run 81386 false).armLines.get 3).notices = [(.restrictChanged, none)] ∧
    ((run 81386 true).armLines.get 3).notices = [] ∧ (run 81386 false).supervisor.notices = [] ∧
    ((run 441386 true).armLines.get 3).notices = [(.halted, some 1), (.restrictChanged, none)] ∧
    ((run 441386 false).armLines.get 3).notices = [(.halted, some 1)] ∧
    (run 441386 true).supervisor.notices = [(.armHalted 3, some 1)] := by decide +kernel

/-- A delivery's ethanol result at the header (R64, R112, R113, R115): owed 2,000 mL joins and is granted, 1,999 mL does not join,
and a holder that owes nothing leaves. -/
theorem test_delivery_ethanol_results :
    let run (s : State) (ethStd : Nat) : List Arm × List Arm :=
      let t := pulsed (load3 s fun r => { r with acc := { r.acc with ethStd := ethStd } }) .base
      (t.header.armsHolding, t.header.wait)
    let behind := { loaded lane 3 (e10 .flowing) with header := { (holder .flowing).header with
      holders := [{ arm := 5, hold := 1, flow := 1 }] } }
    run (loaded lane 3 (e10 .flowing)) 8957 = ([3], []) ∧ run (loaded lane 3 (e10 .flowing)) 8958 = ([], []) ∧
    run { loaded lane 3 (e10 .flowing) with scan := { lane.scan with pressure := .low } } 8957 = ([], [3]) ∧
    run (holder .flowing) 10956 = ([3], []) ∧ run (holder .flowing) 10957 = ([], []) ∧
    run { behind with header := { behind.header with slots := 1 } } 8957 = ([5], [3]) := by decide +kernel

/-- R66: 500 mL through a closed valve leave no mark, 501 mL do. -/
theorem test_closed_valve :
    let flag (n : Nat) : Option Bool :=
      let r := e10 .flowing
      ((pulsed (loaded lane 3 { r with acc := { r.acc with closedValve := n, ethStd := 10000 } }) .ethanol).record 3).map fun r =>
        r.flags.ethWhileClosed
    flag 490 = some false ∧ flag 491 = some true := by decide +kernel

/-! ### Reading requests -/

/-- One delivery record with a load number, of arm 5. -/
def queued (n : Nat) : DeliveryRecord :=
  { arm := 5, baseResidue := 0, ethResidue := 0, figures := { (e10 .complete).figures with number := n } }

/-- A queue of records numbered from 1,961, with the age timer running. -/
def withRecords (s : State) (n : Nat) : State :=
  { s with records := { s.records with
      records := (List.range n).map fun k => queued (1961 + k)
      ageTimer := .running 5 } }

/-- The clauses of ReadsChangeNothing, refusals and absences first (R32, R48, R103 to R105, R129, R153, R162, R191). -/
theorem test_witness_ReadsChangeNothing :
    [answer lane .supervisor (.readRecipe 32), answer lane .supervisor (.readUnit 4), answer lane .supervisor .readRecord,
     answer lane (.arm 3) (.loadStatus 3), answer lane .supervisor (.readLoad 8), answer lane (.arm 3) (.lastSummaryArm 3),
     answer lane .supervisor (.lastSummarySupervisor 8), answer lane .supervisor (.lastSummarySupervisor 7)] =
    [some [22, 3], some [54, 3], some [60, 11, 0, 0], some [5, 17, 1], some [32, 3], some [6, 17], some [34, 3],
     some [34, 17]] := by decide +kernel

/-- READ LOAD of an idle arm: NO_LOAD, the arm state and the station settings after reset (R104). -/
theorem test_readLoad_idle :
    answer lane .supervisor (.readLoad 3) = some [32, 17, 1, 0, 30, 10, 1, 44, 3, 0, 50] := by decide +kernel

/-- READ UNIT and READ RECIPE on the setting of 4.11 (R153, R48). -/
theorem test_reports :
    answer lane .supervisor (.readUnit 0) =
      some [54, 0, 1, 25, 0, 0, 7, 208, 3, 232, 0, 200, 0, 0, 78, 32, 1, 0, 255, 255, 0, 0, 0, 0, 0, 0, 0, 0, 0, 0, 0, 0, 0] ∧
    answer lane .supervisor (.readRecipe 4) =
      some [22, 0, 4, 1, 1, 0, 0, 110, 3, 232, 0, 50, 4, 126, 0, 100, 7, 208, 0, 0, 78, 32, 0, 0, 234, 96, 1, 0, 0, 250, 1, 8] := by
  decide +kernel

/-- READ HEADER with arm 3 holding (R129), READ METERS of arm 3 (R16), and LAST SUMMARY's fields in their order (R105). -/
theorem test_report_bytes :
    let s := (holder .flowing).modArm 3 fun c => { c with lastSummary := some (e10 .complete).figures }
    answer s .supervisor .readHeader =
      some [41, 0, 2, 0, 60, 5, 4, 76, 4, 176, 0, 0, 1, 3, 0, 60, 5, 0, 1, 1, 1, 0, 1, 1, 1, 1] ∧
    answer s .supervisor (.readMeters 3) =
      some [11, 0, 3, 0, 0, 97, 168, 0, 0, 39, 16, 1, 1, 0, 1, 0, 1, 0, 0, 0, 0, 0, 0, 0, 0, 0, 0, 0, 0, 0, 0, 0, 0, 0, 0, 0,
        0, 0, 0] ∧
    (answer s (.arm 3) (.lastSummaryArm 3)).map (List.take 14) = some [6, 0, 4, 183, 1, 84, 4, 1, 0, 110, 0, 0, 11, 184] ∧
    (answer s (.arm 3) (.lastSummaryArm 3)).map (List.drop 38) =
      some [0, 0, 1, 0, 0, 0, 0, 0, 0, 0, 0, 0, 0, 0, 0, 203, 172, 0, 0, 0, 0] := by decide +kernel

/-- The loads, summaries and records of ReadsChangeNothing's other clauses, by the lengths of Table 10-10 and 10.9: 62 + 13n
characters and 74 + 7n. -/
theorem test_witness_reads_held :
    let s := (withRecords (loaded lane 3 (e10 .flowing)) 2).modArm 3 fun c => { c with lastSummary := some (e10 .complete).figures }
    (answer s (.arm 3) (.loadStatus 3)).map List.length = some 75 ∧ (answer s .supervisor .readRecord).map List.length = some 81 ∧
    (answer s .supervisor .readRecord).map (List.take 6) = some [60, 0, 2, 0, 7, 169] ∧
    (answer s (.arm 3) (.lastSummaryArm 3)).map (List.take 4) = some [6, 0, 4, 183] ∧
    (answer s .supervisor (.readLoad 3)).map (List.take 7) = some [32, 0, 3, 0, 0, 4, 183] ∧
    (e10 .complete).bill.length ≤ 16 := by decide +kernel

/-- READ SCAN, READ HEADER and READ STATION after reset: reference OK, pressure NORMAL, eight closed valves, address 1. -/
theorem test_station_reports :
    (answer State.reset .supervisor .readScan).map List.length = some 64 ∧
    (answer State.reset .supervisor .readHeader) =
      some [41, 0, 1, 0, 60, 5, 4, 76, 0, 0, 0, 0, 0, 0, 1, 1, 1, 1, 1, 1, 1, 1] ∧
    (answer State.reset .supervisor .readStation).map (List.take 7) = some [2, 0, 1, 0, 0, 0, 0] := by decide +kernel

/-! ### Recipes -/

/-- The clauses of RecipeRequests (R38 to R40, R42) at the bounds of Table 3-3. -/
theorem test_witness_RecipeRequests :
    [answer lane .supervisor (.defineRecipe { e10Fields with entry := 32 }), answer lane .supervisor (.defineRecipe e10Fields),
     answer lane .supervisor (.defineRecipe { e10Fields with entry := 31, step := 20000 }),
     answer lane .supervisor (.defineRecipe { e10Fields with entry := 31 }),
     answer lane .supervisor (.defineRecipe { e10Fields with entry := 31, code := 111 }),
     answer lane .supervisor (.withdrawRecipe 32), answer lane .supervisor (.withdrawRecipe 31),
     answer lane .supervisor (.withdrawRecipe 4)] =
    [some [20, 3, 32], some [20, 10, 4], some [20, 3, 31], some [20, 14, 31], some [20, 0, 31, 1], some [21, 3], some [21, 2],
     some [21, 0, 4, 0, 0]] := by decide +kernel

/-- A revision of 255 is followed by 1 (R36), and a withdrawn entry that a load names stays WITHDRAWN (R42). -/
theorem test_revision_and_withdrawal :
    nextRevision 254 = 255 ∧ nextRevision 255 = 1 ∧
    answer { lane with recipes := lane.recipes.upd 4 fun e => { e with refCount := 2 } } .supervisor (.withdrawRecipe 4) =
      some [21, 0, 4, 2, 2] := by decide +kernel

/-! ### Loads -/

/-- The clauses of ArmServiceByTable (Table 5-2). -/
theorem test_witness_ArmServiceByTable :
    let out := lane.modArm 3 fun c => { c with occ := .outOfService }
    [answer lane .supervisor (.setArmService 8 0), answer lane .supervisor (.setArmService 3 2),
     answer out .supervisor (.setArmService 3 0), answer State.reset .supervisor (.setArmService 0 0),
     answer lane .supervisor (.setArmService 3 0), answer out .supervisor (.setArmService 3 1),
     answer lane .supervisor (.setArmService 3 1),
     answer (loaded lane 3 (e10 .complete)) .supervisor (.setArmService 3 1)] =
    [some [30, 3], some [30, 3], some [30, 0, 3, 1], some [30, 13, 0, 0], some [30, 0, 3, 1], some [30, 0, 3, 0],
     some [30, 0, 3, 0], some [30, 10, 3, 8]] := by decide +kernel

/-- The latch SET by the supervisor at clock 5. -/
def stopped (s : State) : State := { s with stop := { s.stop with latch := some { cause := .supervisor, time := 5 } } }

/-- The clauses of AuthorizeChecksInOrder (R85), and the preset and bill at both bounds. -/
theorem test_witness_AuthorizeChecksInOrder :
    let bar (s : State) (code preset : Nat) (bill : List Byte) := answer s (.arm 3) (.authorize 3 code preset bill)
    [bar (stopped lane) 110 3000 [84], bar State.reset 110 3000 [84], bar (loaded lane 3 (e10 .complete)) 110 3000 [84],
     bar (loaded lane 3 (e10 .authorized)) 110 3000 [84], bar lane 111 3000 [84],
     bar { lane with recipes := lane.recipes.upd 4 fun e => { e with permitted := 4 } } 110 3000 [84],
     bar lane 110 199 [84], bar lane 110 99001 [84], bar lane 110 3000 [31], bar lane 110 3000 [127],
     bar (lane.modUnit 0 fun x => { x with state := .offline }) 110 3000 [84]] =
    [some [1, 9], some [1, 13], some [1, 8], some [1, 2], some [1, 5], some [1, 6], some [1, 3], some [1, 3], some [1, 3],
     some [1, 3], some [1, 7]] := by decide +kernel

/-- The hypotheses of AuthorizeCreatesTheLoad at the lowest preset of its recipe, and the load it creates (11.1 event 1). -/
theorem test_witness_AuthorizeCreatesTheLoad :
    let c := Instr.authorize 3 110 200 [32, 126]
    let t := after c (asks lane (.arm 3) c)
    lane.stop.latch = none ∧ (lane.arms.get 3).occ = .idle ∧ (lane.recipes.get 4).state = .active ∧
    (∀ i, (lane.recipes.get i).state = .active → (lane.recipes.get i).code = (lane.recipes.get 4).code → i = 4) ∧
    (lane.recipes.get 4).permitted.getLsbD 3 = true ∧ 2 * (lane.recipes.get 4).flush ≤ 200 ∧
    (∀ i ∈ (lane.recipes.get 4).items, i.required = true → (lane.units.get i.unit).state = .ready) ∧
    reply t (.arm 3) = some [1, 0, 4, 183, 4, 1] ∧ t.phase 3 = some .authorized ∧ t.records.nextNumber = 1208 ∧
    (t.recipes.get 4).refCount = 1 ∧ (t.arms.get 3).window = .running 30000000 := by decide +kernel

/-- The load numbers wrap from 65,535 to 1 and pass over numbers in use (R161). -/
theorem test_load_numbers : freeLoadNumber [] 41 65535 = 65535 ∧ nextLoadNumber 65535 = 1 ∧
    freeLoadNumber [65535, 1, 2] 41 65535 = 3 := by decide

/-- The seven load states and idle: the replies of PAUSE (R88, R89). -/
theorem test_witness_PauseAndResumeByState :
    ([Phase.authorized, .flowing, .paused .driver, .paused .noFlow, .flush, .halted, .finishing, .complete].map fun p =>
      answer (loaded lane 3 (e10 p)) (.arm 3) (.pause 3)) =
      [some [2, 2, 2, 0], some [2, 0, 4, 1], some [2, 0, 4, 1], some [2, 0, 4, 1], some [2, 2, 5, 0], some [2, 2, 6, 0],
       some [2, 2, 7, 0], some [2, 2, 8, 0]] ∧
    ([Phase.authorized, .flowing, .paused .driver, .paused .noFlow, .flush, .halted, .finishing, .complete].map fun p =>
      answer (loaded lane 3 (e10 p)) (.arm 3) (.resume 3)) =
      [some [3, 2, 2], some [3, 0, 3], some [3, 0, 3], some [3, 0, 3], some [3, 2, 5], some [3, 2, 6], some [3, 2, 7],
       some [3, 2, 8]] ∧
    answer lane (.arm 3) (.pause 3) = some [2, 17, 1, 0] ∧ answer lane (.arm 3) (.resume 3) = some [3, 17, 1] := by
  decide +kernel

/-- PAUSE of a holder with an arm waiting: the valve's closing sets the closed-valve volume to 0 and the freed slot is granted
(R77, R114, R115, R117). -/
theorem test_pause_leaves_the_header :
    let s := load3 (holder .flowing) fun r => { r with acc := { r.acc with closedValve := 7, restrictOn := true } }
    let one := { s with header := { s.header with slots := 1, wait := [5] } }
    let t := after (.pause 3) (asks one (.arm 3) (.pause 3))
    t.header.holders = [{ arm := 5, hold := 6000000, flow := 500000 }] ∧ t.header.wait = [] ∧ (acc t).closedValve = 0 ∧
    (acc t).restrictOn = true ∧ (t.armLines.get 3).notices = [] ∧
    ((after (.endLoad 3) (asks one (.arm 3) (.endLoad 3))).armLines.get 3).notices = [(.restrictChanged, none)] := by
  decide +kernel

/-- The Header Arbiter's law, a hypothesis of the load statements, in the states these tests use. -/
theorem test_headerLaw_met : (∀ p, (loaded lane 3 (e10 p)).headerLaw) ∧ (holder .flowing).headerLaw ∧
    (asks (holder .flowing) (.arm 3) (.pause 3)).headerLaw ∧ (asks (holder .flowing) (.arm 3) (.endLoad 3)).headerLaw ∧
    (asks (holder .flowing) .supervisor (.abortLoad 3 1207)).headerLaw := by
  refine ⟨fun p => ?_, ?_, ?_, ?_, ?_⟩
  · have h1 : ∀ a : Arm, lane.header.holds a = false := by decide +kernel
    have h2 : ∀ a : Arm, lane.header.waits a = false := by decide +kernel
    have h3 : lane.header.holders.length ≤ lane.header.slots ∧ lane.header.armsHolding.Nodup ∧ lane.header.wait.Nodup := by
      decide +kernel
    refine ⟨h3.1, h3.2.1, h3.2.2, fun a h => ?_, fun a h => ?_⟩
    · exact absurd h.1 (by rw [show (loaded lane 3 (e10 p)).header = lane.header from rfl, h1 a]; decide)
    · rw [show (loaded lane 3 (e10 p)).header = lane.header from rfl, h1 a, h2 a] at h
      exact absurd h (by decide)
  all_goals (unfold State.headerLaw; decide +kernel)

/-- Every unit's law, a hypothesis of END's statement. -/
theorem test_unitLaw_met : (asks (holder .flowing) (.arm 3) (.endLoad 3)).unitLaw := by
  unfold State.unitLaw AdditiveUnit.lawful; decide +kernel

/-- Arm 3's load with its item owed `n` millilitres. -/
def owing (p : Phase) (n : Int) : LoadRecord :=
  { e10 p with items := (e10 p).items.map fun i => { i with owed := n } }

/-- The clauses of EndEntersFinishing: the replies, and R91's test at 12 and 13 mL owed to a unit of shot 25. -/
theorem test_witness_EndEntersFinishing :
    let ended (r : LoadRecord) : State := after (.endLoad 3) (asks (loaded lane 3 r) (.arm 3) (.endLoad 3))
    [answer lane (.arm 3) (.endLoad 3), reply (ended (e10 .finishing)) (.arm 3), reply (ended (e10 .complete)) (.arm 3),
     reply (ended (e10 .authorized)) (.arm 3), reply (ended (e10 .flowing)) (.arm 3), reply (ended (e10 .halted)) (.arm 3)] =
    [some [4, 17, 255, 255, 1], some [4, 2, 4, 183, 7], some [4, 2, 4, 183, 8], some [4, 0, 4, 183, 7],
     some [4, 0, 4, 183, 7], some [4, 0, 4, 183, 7]] ∧
    ((ended (owing .flowing 12)).units.get 0).inFlight = none ∧
    ((ended (owing .flowing 13)).units.get 0).inFlight = some 3 ∧
    ((ended (owing .halted 13)).units.get 0).inFlight = none ∧
    (let at' (f : AdditiveUnit → AdditiveUnit) (owed : Int) : List Bool × List Arm :=
       let s := (loaded lane 3 (owing .flush owed)).modUnit 0 f
       let t := after (.endLoad 3) (asks s (.arm 3) (.endLoad 3))
       (((t.record 3).map fun r => r.items.map LoadItem.finalShot).getD [], (t.units.get 0).queue)
     at' (fun x => { x with state := .routing, route := some 5, inFlight := some 5 }) 13 = ([true], [3]) ∧
     at' (fun x => { x with state := .routing, route := some 5, inFlight := some 5 }) 12 = ([false], []) ∧
     at' (fun x => { x with state := .stroking, route := some 3, inFlight := some 3 }) 38 = ([true], []) ∧
     at' (fun x => { x with state := .stroking, route := some 3, inFlight := some 3 }) 37 = ([false], []) ∧
     at' (fun x => { x with state := .faulted }) 13 = ([false], [])) ∧
    ((ended (e10 .flowing)).arms.get 3).settle = .running 300000 := by decide +kernel

/-- The clauses of AbortLoadByChecks (R93), with the completion that the clearing of a mark brings behind 31 and 32 records. -/
theorem test_witness_AbortLoadByChecks :
    [answer lane .supervisor (.abortLoad 8 1207), answer lane .supervisor (.abortLoad 3 1207),
     answer (loaded lane 3 (e10 .complete)) .supervisor (.abortLoad 3 1207),
     answer (loaded lane 3 (e10 .flowing)) .supervisor (.abortLoad 3 1206),
     answer (loaded lane 3 (e10 .flowing)) .supervisor (.abortLoad 3 1207),
     answer (loaded lane 3 (e10 .finishing)) .supervisor (.abortLoad 3 1207)] =
    [some [31, 3], some [31, 2], some [31, 2], some [31, 12], some [31, 0, 3, 4, 183, 7], some [31, 0, 3, 4, 183, 7]] ∧
    (let waits (n : Nat) : State :=
       let s := loaded lane 3 { e10 .finishing with items := (e10 .finishing).items.map fun i => { i with finalShot := true } }
       let s := s.modArm 3 fun c => { c with settle := .expired }
       { s with records := { s.records with records := (List.range n).map fun k =>
           { arm := 5, baseResidue := 0, ethResidue := 0, figures := { (e10 .complete).figures with number := 1 + k } } } }
     answer (waits 31) .supervisor (.abortLoad 3 1207) = some [31, 0, 3, 4, 183, 1] ∧
     answer (waits 32) .supervisor (.abortLoad 3 1207) = some [31, 0, 3, 4, 183, 8]) := by decide +kernel

/-- Arm 3's load with every arm timer that its state has. -/
def timed (p : Phase) : State :=
  (loaded lane 3 (e10 p)).modArm 3 fun c =>
    { c with noFlow := .running 0, linkSilence := .running 0, window := .running 0, settle := .running 0 }

/-- The hypotheses of ArmTimersExpire in every load state that its clauses name; the link-silence timer restarted first by a
telegram at the instant of its expiry does not expire (R99). -/
theorem test_witness_ArmTimersExpire :
    (∀ p : Phase, ((timed p).arms.get 3).noFlow = .running 0 ∧ ((timed p).arms.get 3).linkSilence = .running 0 ∧
      ((timed p).arms.get 3).window = .running 0) ∧ (timed .flowing).headerLaw ∧
    (let s := after (.telegramReceived (.arm 3)) ((timed .flowing).modLine (.arm 3) fun y =>
       { y with received := [{ chars := frame 35 [2], poisoned := false }] })
     (s.arms.get 3).linkSilence = .running 1000000 ∧ (after (.linkSilenceExpiry 3) s).phase 3 = some .flowing) ∧
    (after (.noFlowExpiry 3) (timed .flowing)).phase 3 = some (.paused .noFlow) ∧
    ((after (.linkSilenceExpiry 3) (timed .authorized)).record 3).map LoadRecord.haltReason = some (some .linkSilent) ∧
    ((after (.linkSilenceExpiry 3) (timed .flush)).record 3).map LoadRecord.haltReason = some (some .linkSilent) ∧
    (after (.authorizationWindowExpiry 3) (timed .authorized)).phase 3 = some .finishing := by
  refine ⟨fun _ => ⟨rfl, rfl, rfl⟩, ?_, ?_⟩
  · unfold State.headerLaw; decide +kernel
  · decide +kernel

/-- The clauses of SettleExpiryCompletes: time left, a stroke in flight, a set mark, 31 records and 32 records in the queue, and
the notices, the flags and the age timer of a completion into an empty queue (R70, R71, R82, R166, R167). -/
theorem test_witness_SettleExpiryCompletes :
    let s := timed .finishing
    let flight := s.modUnit 0 fun x => { x with inFlight := some 3 }
    let marked := load3 s fun r => { r with items := r.items.map fun i => { i with finalShot := true } }
    let off := load3 s fun r => { r with acc := { r.acc with totalGross := 100000, totalStd := 100, ethStd := 9 } }
    let early := s.modArm 3 fun c => { c with settle := .running 1 }
    (s.record 3).isSome ∧ s.phase 3 = some .finishing ∧ (s.arms.get 3).settle = .running 0 ∧
    (after (.settleExpiry 3) early).phase 3 = some .finishing ∧
    (let t := after (.settleExpiry 3) off
     (t.records.records.map fun d => (d.figures.finalRatio, d.figures.flags.word)) = [(900, 272)] ∧
     t.records.ageTimer = .running 3000000 ∧ t.supervisor.notices = [(.recordsWaiting, none)] ∧
     (t.armLines.get 3).notices.map Prod.fst = [.loadComplete, .additiveShort 0]) ∧
    (after (.settleExpiry 3) flight).phase 3 = some .finishing ∧
    ((after (.settleExpiry 3) flight).arms.get 3).settle = .expired ∧
    ((after (.settleExpiry 3) marked).arms.get 3).settle = .expired ∧
    ((after (.settleExpiry 3) (withRecords s 31)).arms.get 3).occ = .idle ∧
    (after (.settleExpiry 3) (withRecords s 31)).records.records.length = 32 ∧
    (after (.settleExpiry 3) (withRecords s 32)).phase 3 = some .complete ∧
    (after (.settleExpiry 3) (withRecords s 32)).records.wait = [3] := by decide +kernel

/-- The figures of 11.1 event 9: final ratio 999 from 295,943 of 2,959,549 mL, within the tolerance. -/
theorem test_final_ratio :
    Accounts.finalRatio { Accounts.zero with ethStd := 295943, totalStd := 2959549 } = 999 ∧
    Accounts.finalRatio Accounts.zero = 0 := by decide

/-- The hypotheses of HandedHaltsAreTaken: in a state that halts, and in one that does not. -/
theorem test_witness_HandedHaltsAreTaken :
    let handed (p : Phase) : State := load3 (loaded lane 3 (e10 p)) fun r => { r with stopHalt := true, lostHalts := [2] }
    (handed .flowing).headerLaw ∧ ((handed .flowing).record 3).map LoadRecord.lostHalts = some [2] ∧
    Phase.haltable .flowing = true ∧ Phase.haltable .finishing = false ∧
    (after (.terminalStopHalt 3) (handed .flowing)).phase 3 = some .halted ∧
    (after (.terminalStopHalt 3) (handed .finishing)).phase 3 = some .finishing ∧
    ((after (.additiveLostHalt 3 2) (handed .flowing)).record 3).map LoadRecord.haltReason = some (some (.additiveLost 2)) ∧
    ((after (.additiveLostHalt 3 2) (handed .finishing)).record 3).map LoadRecord.lostHalts = some [] := by
  refine ⟨?_, ?_⟩
  · unfold State.headerLaw; decide +kernel
  · decide +kernel

/-- SET STATION at its bounds, clamped below and above, and as broadcast (R102). -/
theorem test_set_station :
    answer lane .supervisor (.setStation 5 2 30 1 0) = some [33, 0, 0, 5, 2, 0, 30, 1, 0, 0] ∧
    answer lane .supervisor (.setStation 4 1 29 0 0) = some [33, 1, 0, 5, 2, 0, 30, 1, 0, 0] ∧
    answer lane .supervisor (.setStation 601 61 3601 31 1001) = some [33, 1, 2, 88, 60, 14, 16, 30, 3, 232] ∧
    (after (.setStation 5 2 30 1 0) (casts lane (.setStation 5 2 30 1 0))).settings.noFlow = 5 ∧
    ((after (.setStation 5 2 30 1 0) (casts lane (.setStation 5 2 30 1 0))).line .supervisor).slot = none := by
  decide +kernel

/-! ### Ethanol header -/

/-- Arms 1, 4 and 6 of section 6.9, each with a load in FLOWING that owes `n` millilitres. -/
def island (n : Int) : State :=
  let r := { e10 .flowing with acc := { Accounts.zero with owed := n } }
  { loaded (loaded (loaded lane 1 r) 4 r) 6 r with header := { lane.header with slots := 2 } }

/-- Every hold and ethanol-flow timer at its end. -/
def ripe (s : State) : State :=
  { s with header := { s.header with holders := s.header.holders.map fun x => { x with hold := 0, flow := 0 } } }

/-- A header's holders and queue. -/
def standing (s : State) : List Arm × List Arm := (s.header.armsHolding, s.header.wait)

/-- Table 6-3, events 1 to 3 and 6 to 10: joins and grants, a hold expiry whose holder rejoins, a lowered slot count, and a
pressure drop and its end. -/
theorem test_table_6_3 :
    let s := island 3120
    let three := ((s.ethanolWanted 1).ethanolWanted 4).ethanolWanted 6
    let five := (three.leaveHeader 1).ethanolWanted 1
    let six := after (.holdTimerExpiry 4) (ripe five)
    let c := Instr.setHeader 1 60 5 1100 0
    let seven := after c (asks six .supervisor c)
    standing (s.ethanolWanted 1) = ([1], []) ∧ standing three = ([1, 4], [6]) ∧
    standing (three.leaveHeader 1) = ([4, 6], []) ∧ standing five = ([4, 6], [1]) ∧ standing six = ([6, 1], [4]) ∧
    standing seven = ([6], [1, 4]) ∧ standing seven.revokeAll = ([], [6, 1, 4]) ∧
    standing seven.revokeAll.grants = ([6], [1, 4]) := by decide +kernel

/-- The clauses of HoldTimerExpires: time is left, nobody waits, the holder owes the step and rejoins, and it owes less and does
not. -/
theorem test_witness_HoldTimerExpires :
    let wait (n : Int) : State :=
      (((island n).ethanolWanted 1).ethanolWanted 4).ethanolWanted 6
    (∃ x ∈ (ripe (wait 2000)).header.holders, x.arm = 1 ∧ x.hold = 0) ∧ (∀ x ∈ (wait 2000).header.holders, x.hold ≠ 0) ∧
    ((island 0).ethanolWanted 1).header.wait = [] ∧ (wait 2000).header.wait ≠ [] ∧ ((wait 2000).record 1).isSome ∧
    standing (after (.holdTimerExpiry 1) (wait 2000)) = ([1, 4], [6]) ∧
    standing (after (.holdTimerExpiry 1) (ripe (wait 2000))) = ([4, 6], [1]) ∧
    standing (after (.holdTimerExpiry 1) (ripe (wait 1999))) = ([4, 6], []) ∧
    (after (.holdTimerExpiry 1) (ripe ((island 0).ethanolWanted 1))).header.holders =
      [{ arm := 1, hold := 6000000, flow := 0 }] := by decide +kernel

/-- The hypotheses of EthanolFlowTimerExpires, its halt, and a timer with time left. -/
theorem test_witness_EthanolFlowTimerExpires :
    (ripe (holder .flowing)).headerLaw ∧ (∃ x ∈ (ripe (holder .flowing)).header.holders, x.arm = 3 ∧ x.flow = 0) ∧
    ((holder .flowing).record 3).map LoadRecord.haltReason = some none ∧
    (after (.ethanolFlowTimerExpiry 3) (holder .flowing)).phase 3 = some .flowing ∧
    (after (.ethanolFlowTimerExpiry 3) (ripe (holder .flowing))).phase 3 = some .halted ∧
    (after (.ethanolFlowTimerExpiry 3) (ripe (holder .flowing))).supervisor.notices = [(.armHalted 3, some 5)] := by
  refine ⟨?_, ?_⟩
  · unfold State.headerLaw; decide +kernel
  · decide +kernel

/-- SET HEADER at its bounds and clamped (R127), for each of the three clauses of SetHeaderTakesEffect. -/
theorem test_set_header :
    answer lane .supervisor (.setHeader 2 5 1 0 0) = some [40, 0, 2, 0, 5, 1, 0, 0, 0, 0] ∧
    answer lane .supervisor (.setHeader 8 600 60 2000 4095) = some [40, 0, 8, 2, 88, 60, 7, 208, 15, 255] ∧
    answer lane .supervisor (.setHeader 0 4 0 0 0) = some [40, 1, 1, 0, 5, 1, 0, 0, 0, 0] ∧
    answer lane .supervisor (.setHeader 9 601 61 2001 5000) = some [40, 1, 8, 2, 88, 60, 7, 208, 15, 255] := by
  decide +kernel

/-! ### Additive units -/

/-- Unit 0 in STROKING for arm 3's load in state `p`, with so much in its tank, its confirmation due. -/
def striking (p : Phase) (inventory : Nat) : State :=
  (loaded lane 3 (owing p 25)).modUnit 0 fun x =>
    { x with state := .stroking, route := some 3, inFlight := some 3, inventory := inventory, low := 0, presented := true,
             test := some 0, strokeTimer := .running 0 }

/-- A state whose recipes and loads list one item each keeps the item law. -/
theorem test_itemLaw_of {s : State} (h : ∀ e : EntryNo, (s.recipes.get e).items.length ≤ 1)
    (g : ∀ a : Arm, ((s.record a).all fun r => decide (r.items.length ≤ 1)) = true) : s.itemLaw := by
  have one {α β : Type} (f : α → β) : ∀ l : List α, l.length ≤ 1 → (l.map f).Nodup
    | [], _ => by simp
    | [_], _ => by simp
    | _ :: _ :: _, hl => by simp at hl
  refine ⟨fun e => one _ _ (h e), fun a => ?_⟩
  cases hr : s.record a with
  | none => trivial
  | some r => have := g a; rw [hr] at this; exact one _ _ (by simpa using this)

/-- The hypotheses of StrokesAreCredited, FailedStrokes and END's statement on the items and the shot queues. -/
theorem test_itemLaw_met : (striking .flowing 50).itemLaw ∧ (striking .finishing 50).itemLaw ∧
    (striking .flowing 50).shotQueueLaw ∧ (asks (holder .flowing) (.arm 3) (.endLoad 3)).itemLaw := by
  refine ⟨test_itemLaw_of ?_ ?_, test_itemLaw_of ?_ ?_, ?_, test_itemLaw_of ?_ ?_⟩
  case refine_5 =>
    intro u; have h : ((striking .flowing 50).units.get u).queue = [] := by revert u; decide +kernel
    rw [h]; simp
  all_goals decide +kernel

/-- R68, R133, R136 and R137: at 25 mL owed to a unit of shot 25 the arm joins its queue, and at 24 mL it does not; a READY
unit routes for it, or strokes at once where the route names it; a unit at work keeps it queued; in AUTHORIZED's first
delivery and in FLUSH it joins as well, and with the item short it does not. -/
theorem test_additive_due :
    let run (p : Phase) (gross : Nat) (short : Bool) (f : AdditiveUnit → AdditiveUnit) : UnitState × Option Arm × List Arm :=
      let s := load3 (loaded lane 3 (e10 p)) fun r =>
        { r with acc := { r.acc with totalGross := gross }, items := r.items.map fun i => { i with short := short } }
      let x := (pulsed (s.modUnit 0 f) .base).units.get 0
      (x.state, x.inFlight, x.queue)
    let busy (x : AdditiveUnit) : AdditiveUnit := { x with state := .stroking, route := some 5, inFlight := some 5 }
    run .flowing 99974 false id = (.ready, none, []) ∧ run .flowing 99975 false id = (.routing, some 3, []) ∧
    run .flowing 99975 true id = (.ready, none, []) ∧
    run .flowing 99975 false (fun x => { x with route := some 3 }) = (.stroking, some 3, []) ∧
    run .flowing 99975 false busy = (.stroking, some 5, [3]) ∧
    run .authorized 99975 false busy = (.stroking, some 5, [3]) ∧ run .flush 99975 false busy = (.stroking, some 5, [3]) ∧
    run (.paused .driver) 99975 false busy = (.stroking, some 5, []) ∧
    run .flowing 99975 false (fun x => { x with state := .empty }) = (.empty, none, []) := by decide +kernel

/-- The clauses of StrokesAreCredited: routing with time left and at its end, a stray confirmation, a stroke that leaves 50 and 49
mL to a unit of shot 25, and a load that still owes two shots rejoins (R137, R140, R141, R143, R147). -/
theorem test_witness_StrokesAreCredited :
    let routed := lane.modUnit 0 fun x => { x with state := .routing, settleTimer := .running 0 }
    let waits := lane.modUnit 0 fun x => { x with state := .routing, settleTimer := .running 1 }
    let again := after (.strokeConfirmation 0) (load3 (striking .flowing 50) fun r =>
      { r with acc := { r.acc with totalGross := 300000 } })
    (striking .flowing 50).fire 0 = true ∧ (striking .flowing 50).routeEnable 0 = true ∧
    (striking .flowing 50).routeLines 0 = 3 ∧
    ((after (.unitSettleExpiry 0) waits).units.get 0).state = .routing ∧
    (again.units.get 0).state = .stroking ∧ (again.units.get 0).inFlight = some 3 ∧
    let stray := lane.modUnit 0 fun x => { x with presented := true, test := some 0 }
    let two := after (.strokeConfirmation 0) (striking .flowing 50)
    let one := after (.strokeConfirmation 0) (striking .flowing 49)
    ((after (.unitSettleExpiry 0) routed).units.get 0).state = .stroking ∧
    (stray.units.get 0).state ≠ .stroking ∧ ((after (.strokeConfirmation 0) stray).units.get 0).stray = 1 ∧
    (striking .flowing 50).phase 3 = some .flowing ∧ ((striking .flowing 50).units.get 0).inFlight = some 3 ∧
    (two.record 3).map (fun r => r.items.map fun i => (i.delivered, i.shots, i.owed)) = some [(25, 1, -25)] ∧
    (two.units.get 0).state = .ready ∧ (two.units.get 0).inventory = 25 ∧
    (one.units.get 0).state = .empty ∧ one.supervisor.notices = [(.unitEmpty 0, some 24)] := by decide +kernel

/-- The clauses of FailedStrokes: a first failure, and the third, on a load that requires the unit and on one that does not
(events 7 and 11 of 7.10). -/
theorem test_witness_FailedStrokes :
    let third (req : Bool) : State :=
      (load3 (striking .flowing 960) fun r => { r with items := r.items.map fun i => { i with required := req } }).modUnit 0
        fun x => { x with failures := 2 }
    let first := after (.strokeTimeout 0) (striking .flowing 960)
    let early := (striking .flowing 960).modUnit 0 fun x => { x with strokeTimer := .running 1 }
    ((after (.strokeTimeout 0) early).units.get 0).failures = 0 ∧
    (∀ b : Arm, (striking .flowing 960).phase b ≠ some .finishing) ∧
    (first.units.get 0).failures = 1 ∧ (first.units.get 0).inventory = 960 ∧ (first.units.get 0).inFlight = some 3 ∧
    ((after (.strokeTimeout 0) (third true)).units.get 0).state = .faulted ∧
    ((after (.strokeTimeout 0) (third true)).record 3).map LoadRecord.lostHalts = some [0] ∧
    ((after (.strokeTimeout 0) (third false)).record 3).map (fun r => r.flags.word) = some 16 ∧
    (after (.strokeTimeout 0) (third false)).supervisor.notices = [(.unitFaulted 0, some 3)] := by decide +kernel

/-- The load of arm 3, in FINISHING with its settle timer expired and its final stroke under way, with the same load on arm 1, whose
mark waits; `failures` of the unit so far. -/
def ending (inventory failures : Nat) : State :=
  let s := striking .finishing inventory
  let s := loaded s 1 { owing .finishing 25 with number := 9, items := (owing .finishing 25).items.map fun i =>
    { i with finalShot := true } }
  let s := s.modUnit 0 fun x => { x with failures := failures }
  (s.modArm 3 fun c => { c with settle := .expired }).modArm 1 fun c => { c with settle := .expired }

/-- The hypotheses of StrokesAreCredited and FailedStrokes on that state. -/
theorem test_ending_met : (ending 50 0).itemLaw ∧ (ending 50 0).shotQueueLaw ∧ (ending 49 2).itemLaw ∧
    (ending 49 2).shotQueueLaw := by
  refine ⟨test_itemLaw_of ?_ ?_, ?_, test_itemLaw_of ?_ ?_, ?_⟩
  case refine_3 =>
    intro u; have h : ((ending 50 0).units.get u).queue = [] := by revert u; decide +kernel
    rw [h]; simp
  case refine_6 =>
    intro u; have h : ((ending 49 2).units.get u).queue = [] := by revert u; decide +kernel
    rw [h]; simp
  all_goals decide +kernel

/-- The end of a stroke is an event at which the completion condition is examined, and so is the clearing of a mark by the unit's
loss (R81, R92, R141, R142, R148): a confirmed and a failed stroke complete arm 3's load; the loss, by EMPTY and by the third
failure, completes arm 1's as well, before it (log entry 6). -/
theorem test_stroke_end_completes :
    let loads (s : State) : List (Nat × Arm) := s.records.records.map fun d => (d.figures.number, d.arm)
    let two := after (.strokeConfirmation 0) (ending 50 0)
    loads two = [(1207, 3)] ∧ (two.arms.get 3).occ = .idle ∧ two.phase 1 = some .finishing ∧
    loads (after (.strokeTimeout 0) (ending 50 0)) = [(1207, 3)] ∧
    loads (after (.strokeConfirmation 0) (ending 49 0)) = [(9, 1), (1207, 3)] ∧
    loads (after (.strokeTimeout 0) (ending 50 2)) = [(9, 1), (1207, 3)] := by decide +kernel

/-- A unit's loss raises ADDITIVE_SHORT on the line of a load that lists it OPTIONAL, and no notice there otherwise (R75, R106,
R148). -/
theorem test_loss_notices :
    let lost (req : Bool) : State := after (.strokeTimeout 0) ((load3 (striking .flowing 960) fun r =>
      { r with items := r.items.map fun i => { i with required := req } }).modUnit 0 fun x => { x with failures := 2 })
    ((lost false).armLines.get 3).notices = [(.additiveShort 0, some 0)] ∧ ((lost true).armLines.get 3).notices = [] ∧
    (let s := after (.additiveLostHalt 3 0) (lost true)
     (s.armLines.get 3).notices = [(.halted, some 6)] ∧
     s.supervisor.notices = [(.unitFaulted 0, some 3), (.armHalted 3, some 6)]) := by decide +kernel

/-- Log entry 22: a stroke of arm 3 times out while its load still owes a shot, so it rejoins and strokes again in that event (R141,
R142); the confirmation taken next confirms this stroke. Where the load does not rejoin, it is stray (R138, R143). -/
theorem test_confirmation_after_timeout :
    let s := after (.strokeTimeout 0) (striking .flowing 960)
    let t := after (.strokeConfirmation 0) s
    let halted := after (.strokeConfirmation 0) (after (.strokeTimeout 0) (striking .halted 960))
    (s.units.get 0).state = .stroking ∧ (s.units.get 0).failed = 1 ∧
    (t.units.get 0).confirmed = 1 ∧ (t.units.get 0).stray = 0 ∧ (t.units.get 0).inventory = 935 ∧
    (halted.units.get 0).confirmed = 0 ∧ (halted.units.get 0).stray = 1 ∧ (halted.units.get 0).inventory = 960 := by
  decide +kernel

/-- The clauses of SetUnitByChecks at their bounds (R149), and the low mark it sets (R146). -/
theorem test_witness_SetUnitByChecks :
    [answer lane .supervisor (.setUnit 4 25 0 100 0), answer lane .supervisor (.setUnit 0 25 0 100 0),
     answer lane .supervisor (.setUnit 3 0 0 100 0), answer lane .supervisor (.setUnit 3 201 0 100 0),
     answer lane .supervisor (.setUnit 3 200 1 100 2000), answer lane .supervisor (.setUnit 3 1 0 99 2001)] =
    [some [50, 3], some [50, 10], some [50, 3], some [50, 3], some [50, 0, 200, 0, 0, 0, 1, 0, 100, 7, 208],
     some [50, 1, 1, 0, 0, 0, 0, 0, 100, 7, 208]] ∧
    (let c := Instr.setUnit 3 200 1 100 2000
     (after c (asks lane .supervisor c)).supervisor.notices = [(.unitLow 3, some 0)]) := by decide +kernel

/-- Unit 0 in a state, with a failure count and inventory; no load lists it. -/
def unitIn (st : UnitState) (inventory : Nat) : State :=
  lane.modUnit 0 fun x => { x with state := st, inventory := inventory, low := 0, failures := 3 }

/-- The clauses of UnitServiceByTable (Table 7-3), with the inventory at the shot volume and one below. -/
theorem test_witness_UnitServiceByTable :
    [answer lane .supervisor (.setUnitService 4 0), answer lane .supervisor (.setUnitService 0 2),
     answer lane .supervisor (.setUnitService 0 0), answer lane .supervisor (.setUnitService 3 0),
     answer (unitIn .offline 25) .supervisor (.setUnitService 0 0),
     answer (unitIn .offline 24) .supervisor (.setUnitService 0 0),
     answer lane .supervisor (.setUnitService 3 1), answer (unitIn .stroking 25) .supervisor (.setUnitService 0 1),
     answer (unitIn .routing 25) .supervisor (.setUnitService 0 1),
     answer (loaded (unitIn .faulted 25) 3 (e10 .complete)) .supervisor (.setUnitService 0 1),
     answer (unitIn .empty 25) .supervisor (.setUnitService 0 1)] =
    [some [51, 3], some [51, 3], some [51, 0, 0, 1], some [51, 13, 3, 0], some [51, 0, 0, 1], some [51, 0, 0, 5],
     some [51, 0, 3, 0], some [51, 10, 0, 3], some [51, 10, 0, 2], some [51, 10, 0, 4], some [51, 0, 0, 0]] ∧
    ((unitIn .offline 25).units.get 0).queue = [] := by decide +kernel

/-- The clauses of RefillAndClearUnit (R151, R152) at their bounds. -/
theorem test_witness_RefillAndClearUnit :
    [answer lane .supervisor (.refillUnit 4 1), answer lane .supervisor (.refillUnit 0 0),
     answer lane .supervisor (.refillUnit 0 100000001), answer lane .supervisor (.refillUnit 0 99980000),
     answer lane .supervisor (.refillUnit 0 99980001), answer (unitIn .empty 24) .supervisor (.refillUnit 0 1),
     answer lane .supervisor (.clearUnit 4), answer lane .supervisor (.clearUnit 0),
     answer (unitIn .faulted 25) .supervisor (.clearUnit 0), answer (unitIn .faulted 24) .supervisor (.clearUnit 0),
     answer ((unitIn .stroking 30).modUnit 0 fun x => { x with queue := [5] }) .supervisor (.refillUnit 0 10)] =
    [some [52, 3], some [52, 3], some [52, 3], some [52, 0, 0, 5, 245, 225, 0, 1], some [52, 1, 0, 5, 245, 225, 0, 1],
     some [52, 0, 0, 0, 0, 0, 25, 1], some [53, 3], some [53, 2, 0, 1], some [53, 0, 0, 1], some [53, 0, 0, 5],
     some [52, 0, 0, 0, 0, 0, 40, 3]] := by decide +kernel

/-! ### Records -/

/-- Arm 3 in COMPLETE, waiting behind 32 records. -/
def full : State :=
  let s := withRecords (loaded lane 3 (e10 .complete)) 32
  { s with records := { s.records with wait := [3] } }

/-- The clauses of RecordQueueEvents: an empty queue, a mismatch, a removal with no arm waiting, and one with arm 3 waiting
(11.3 events 7, 8 and 12); a place that stands free; and the age timer at its end, with time
left, and restarted first by a removal at the same instant (R167). -/
theorem test_witness_RecordQueueEvents :
    [answer lane .supervisor (.removeRecord 1961), answer full .supervisor (.removeRecord 1962),
     answer full .supervisor (.removeRecord 1961), answer (withRecords lane 1) .supervisor (.removeRecord 1961),
     answer (withRecords lane 32) .supervisor (.removeRecord 1961)] =
    [some [61, 11], some [61, 12], some [61, 0, 7, 169, 32, 3], some [61, 0, 7, 169, 0, 255],
     some [61, 0, 7, 169, 31, 255]] ∧
    (let t := after (.removeRecord 1961) (asks full .supervisor (.removeRecord 1961))
     (t.arms.get 3).occ = .idle ∧ t.records.wait = [] ∧ (t.records.records.map fun d => d.figures.number).getLast? = some 1207) ∧
    (let s := { full with records := { full.records with records := full.records.records.take 31 } }
     s.records.records.length < 32 ∧ ((after .waitListHandOff s).arms.get 3).occ = .idle) ∧
    (let due := { full with records := { full.records with ageTimer := .running 0 } }
     (after .ageTimerExpiry due).supervisor.notices = [(.recordsWaiting, none)] ∧
     (after .ageTimerExpiry due).records.ageTimer = .running 3000000 ∧
     (after .ageTimerExpiry full).supervisor.notices = [] ∧
     (after .ageTimerExpiry (after (.removeRecord 1961) (asks { due with records := { due.records with wait := [] } }
       .supervisor (.removeRecord 1961)))).supervisor.notices = []) := by decide +kernel

/-- The hand-off that a removal makes (R47, R160, R164, R166): arm 3's entry is EMPTY if it was WITHDRAWN for this load alone and
stays WITHDRAWN otherwise, another entry is left alone, and RECORDS_WAITING is raised. -/
theorem test_removal_hands_off :
    let run (count : Nat) : List (EntryState × Nat) × List (SupNotice × Option Nat) :=
      let s := { full with recipes := full.recipes.upd 4 fun e => { e with state := .withdrawn, refCount := count } }
      let t := after (.removeRecord 1961) (asks s .supervisor (.removeRecord 1961))
      ([4, 5].map fun e => ((t.recipes.get e).state, (t.recipes.get e).refCount), t.supervisor.notices)
    run 1 = ([(.empty, 0), (.empty, 0)], [(.recordsWaiting, none)]) ∧
    run 2 = ([(.withdrawn, 1), (.empty, 0)], [(.recordsWaiting, none)]) := by decide +kernel

/-- SET RECORD NOTICE: levels rounded down, the age clamped, and as broadcast (R168, and the setting of 8.8). -/
theorem test_set_record_notice :
    [answer lane .supervisor (.setRecordNotice 6 255), answer lane .supervisor (.setRecordNotice 0 0),
     answer lane .supervisor (.setRecordNotice 3 1), answer lane .supervisor (.setRecordNotice 8 1),
     answer lane .supervisor (.setRecordNotice 17 256)] =
    [some [62, 1, 4, 255], some [62, 1, 1, 1], some [62, 1, 1, 1], some [62, 0, 8, 1], some [62, 1, 16, 255]] ∧
    (after (.setRecordNotice 8 9) (casts lane (.setRecordNotice 8 9))).records.trigger = 8 := by decide +kernel

/-! ### Terminal stop -/

/-- Stop input 2 whose new level has lasted its 5 ms. -/
def pressed (s : State) : State := s.modStop 2 fun x => { x with presented := false, test := some 0 }

/-- The clauses of StopInputEdges: the setting of 9.6 event 1, a released button, a disabled input and a latch already SET. -/
theorem test_witness_StopInputEdges :
    let s := loaded lane 3 (e10 .flowing)
    let t := after (.stopInputAcceptedEdge 2) (pressed s)
    let released := s.modStop 2 fun x => { x with accepted := false, presented := true, test := some 0 }
    let disabled := (pressed s).modStop 2 fun x => { x with enabled := false }
    (pressed s).stop.latch = none ∧ ((pressed s).stop.inputs.get 2).enabled = true ∧
    t.stop.latch = some { cause := .input 2, time := 0 } ∧ s.permissive 3 = true ∧ t.permissive 3 = false ∧
    t.phase 3 = some .flowing ∧ (t.record 3).map LoadRecord.stopHalt = some true ∧
    t.supervisor.notices = [(.stopChanged, none)] ∧ (t.armLines.get 3).notices = [(.terminalStopChanged, none)] ∧
    (t.armLines.get 0).notices = [] ∧
    ((after (.stopInputAcceptedEdge 2) released).stop.inputs.get 2).accepted = true ∧
    (after (.stopInputAcceptedEdge 2) disabled).stop.latch = none ∧
    (after (.stopInputAcceptedEdge 2) (stopped (pressed s))).stop.latch = some { cause := .supervisor, time := 5 } := by
  decide +kernel

/-- The clauses of SetStopInputsEnables: a value out of range, no active input, and two active inputs enabled at once, of which
the lower is the cause (R171, R172); the halt and the notices that the setting brings (R174, R176). -/
theorem test_witness_SetStopInputsEnables :
    let low := (lane.modStop 1 fun x => { x with accepted := false, enabled := false }).modStop 3
      fun x => { x with accepted := false, enabled := false }
    answer lane .supervisor (.setStopInputs 0 0 0 2) = some [70, 3] ∧
    answer lane .supervisor (.setStopInputs 1 0 0 1) = some [70, 0, 1, 0, 0, 1, 1, 1, 1, 1, 0, 255] ∧
    answer low .supervisor (.setStopInputs 0 0 0 0) = some [70, 0, 0, 0, 0, 0, 1, 0, 1, 0, 1, 1] ∧
    (after (.setStopInputs 0 0 0 0) (asks low .supervisor (.setStopInputs 0 0 0 0))).stop.latch =
      some { cause := .input 1, time := 0 } ∧
    (let t := after (.setStopInputs 1 0 1 1)
       (asks (loaded low 3 (e10 .flowing)) .supervisor (.setStopInputs 1 0 1 1))
     (t.record 3).map LoadRecord.stopHalt = some true ∧ t.permissive 3 = false ∧
     t.supervisor.notices = [(.stopChanged, none)] ∧ (t.armLines.get 3).notices = [(.terminalStopChanged, none)]) := by
  decide +kernel

/-- The clauses of TerminalStopSetsTheLatch and TerminalResumeClears (R173, R175): latch CLEAR and SET, addressed and
broadcast, with an input held and with none. -/
theorem test_witness_stop_requests :
    let held := (stopped lane).modStop 2 fun x => { x with accepted := false }
    answer lane .supervisor .terminalStop = some [71, 0, 1, 4, 0, 0, 0, 0] ∧
    answer (stopped lane) .supervisor .terminalStop = some [71, 0, 1, 4, 0, 0, 0, 5] ∧
    (after .terminalStop (casts lane .terminalStop)).stop.latch = some { cause := .supervisor, time := 0 } ∧
    (after .terminalStop (casts (stopped lane) .terminalStop)).stop.latch = some { cause := .supervisor, time := 5 } ∧
    answer lane .supervisor .terminalResume = some [72, 0, 0, 255, 1, 0, 1, 0, 1, 0, 1, 0] ∧
    answer held .supervisor .terminalResume = some [72, 15, 1, 4, 1, 0, 1, 0, 0, 0, 1, 0] ∧
    answer (stopped lane) .supervisor .terminalResume = some [72, 0, 0, 4, 1, 0, 1, 0, 1, 0, 1, 0] := by decide +kernel

/-! ### Lines -/

/-- A line assembling a telegram of arm 3's line, whose characters so far are these. -/
def assembling (chars : List Byte) : State :=
  lane.modLine (.arm 3) fun y => { y with assembly := some { chars := chars, poisoned := false, gap := 2000 } }

/-- The clauses of CharactersAreAssembled (R181, R183): a head, a head that cuts a telegram off, a head for another station, a
character with nothing assembling, a length of 0, a length of 1, the last of five characters, a gap, and the
supervisor line of a station with address 0 and of one that sends. -/
theorem test_witness_CharactersAreAssembled :
    let l := Line.arm 3
    let sup := lane.modLine .supervisor fun y => { y with assembly := some { chars := [1], poisoned := false, gap := 0 } }
    let sending := { lane with supervisor := { lane.supervisor with transmitting := true } }
    let one := after (.characterReceived .supervisor 1 true true) sending
    after (.characterReceived .supervisor 1 true true) { lane with address := 0 } = { lane with address := 0 } ∧
    one.supervisor.line.counters.collision = 1 ∧ one.supervisor.line.assembly = none ∧
    after (.characterReceived .supervisor 2 false true) one = one ∧
    lane.address ≠ 0 ∧ lane.supervisor.transmitting = false ∧
    (((after (.characterReceived l 35 true false) lane).line l).assembly =
      some { chars := [35], poisoned := true, gap := 0 }) ∧
    (((after (.characterReceived l 35 true true) (assembling [35, 1])).line l).counters.headAbort = 1) ∧
    ((after (.characterReceived .supervisor 2 true true) sup).line .supervisor).assembly = none ∧
    ((after (.characterReceived .supervisor 2 true true) sup).line .supervisor).counters.headAbort = 1 ∧
    ((after (.characterReceived .supervisor 0 true true) lane).line .supervisor).assembly ≠ none ∧
    ((after (.characterReceived l 9 false true) lane).line l).assembly = none ∧
    ((after (.characterReceived l 0 false true) (assembling [35])).line l).counters.poisoned = 1 ∧
    (((after (.characterReceived l 1 false true) (assembling [35])).line l).assembly.map Assembly.chars = some [35, 1]) ∧
    (((after (.characterReceived l 8 false true) (assembling [35, 1, 2, 7])).line l).received =
      [{ chars := [35, 1, 2, 7, 8], poisoned := false }]) ∧
    ((after (.characterGapTimeout l) (after (.characterReceived l 1 false true) (assembling [35]))).line l).counters.timeout = 0 ∧
    ((after (.characterGapTimeout l) (assembling [35])).line l).counters.timeout = 1 := by decide +kernel

/-- Arm 3's line with one telegram received whole. -/
def received (chars : List Byte) (poisoned : Bool) : State :=
  lane.modLine (.arm 3) fun y => { y with received := [{ chars := chars, poisoned := poisoned }] }

/-- The clauses of TelegramChecksInOrder (R181, R182, R184): poisoned, a failed check, a wrong head, an unknown type, a wrong
length, a request handed on, and a slot that is taken. -/
theorem test_witness_TelegramChecksInOrder :
    let l := Line.arm 3
    let got (chars : List Byte) (bad : Bool) : LineState := (after (.telegramReceived l) (received chars bad)).line l
    (got (frame 35 [2]) true).counters.poisoned = 1 ∧ (got [35, 1, 2, 0, 0] false).counters.crc = 1 ∧
    (got (frame 34 [2]) false).counters.misdirected = 1 ∧
    (got (frame 35 [9]) false).slot.bind Slot.reply = some [9, 4] ∧
    (got (frame 35 [2, 2]) false).slot.bind Slot.reply = some [2, 3] ∧
    ((got (frame 35 [2]) false).slot.bind Slot.handed = some (.pause 3)) ∧
    (((after (.telegramReceived l) (asks (received (frame 35 [2]) false) l (.pause 3))).line l).counters.overlap = 1) := by
  decide +kernel

/-- The supervisor line's clauses of TelegramChecksInOrder: poisoned, a failed check, an unknown type, a wrong length, a request
handed on, a slot that is taken, and the broadcasts of Table 10-1: one executed, one not, and one with an unknown type. -/
theorem test_witness_supervisor_telegrams :
    let got (s : State) (chars : List Byte) (bad : Bool) : LineState :=
      (after (.telegramReceived .supervisor)
        (s.modLine .supervisor fun y => { y with received := [{ chars := chars, poisoned := bad }] })).line .supervisor
    lane.address.toNat = 1 ∧ (got lane (frame 1 [2]) true).counters.poisoned = 1 ∧
    (got lane [1, 1, 2, 0, 0] false).counters.crc = 1 ∧ (got lane (frame 1 [9]) false).slot.bind Slot.reply = some [9, 4] ∧
    (got lane (frame 1 [2, 2]) false).slot.bind Slot.reply = some [2, 3] ∧
    (got lane (frame 1 [2]) false).slot.bind Slot.handed = some .readStation ∧
    (got (asks lane .supervisor .readScan) (frame 1 [2]) false).counters.overlap = 1 ∧
    (got lane (frame 0 [1, 0, 0, 0, 9]) false).slot.bind Slot.handed = some (.setClock 9) ∧
    (got lane (frame 0 [2]) false).slot = none ∧ (got lane (frame 0 [9]) false).slot = none := by decide +kernel

/-- The characters of a reply (R179, R185): RESTART refused sends head 129, length 2, type 5, code 10 and the check, and the head,
129 with its marker set, goes out as start, 1000 0001 least significant bit first, marker and stop. -/
theorem test_reply_characters :
    let s := after (.restart 0) (asks (loaded lane 3 (e10 .halted)) .supervisor (.restart 0))
    (s.replyCharacters .supervisor).map (fun cs => (cs.take 4).map fun c => (c.data.toNat, c.marker)) =
      some [(129, true), (2, false), (5, false), (10, false)] ∧
    (s.replyCharacters .supervisor).map List.length = some 6 ∧
    ((s.replyCharacters .supervisor).bind List.head?).map LineCharacter.bits =
      some [false, true, false, false, false, false, false, false, true, true, true] := by decide +kernel

/-- The clauses of RepliesRestartAndReset: a reply started, cutting reception off, and sent, on both kinds of line; the four
answers to RESTART; and the reset it brings, with the address
pins as they were and moved meanwhile (R183, R184, R192). -/
theorem test_witness_RepliesRestartAndReset :
    let s := after .readScan (asks lane .supervisor .readScan)
    let cut := s.modLine .supervisor fun y => { y with assembly := some { chars := [1], poisoned := false, gap := 0 } }
    let r := after (.restart 1) (asks (loaded lane 3 (e10 .halted)) .supervisor (.restart 1))
    let p := after (.pause 3) (asks lane (.arm 3) (.pause 3))
    (after .replyStart s).supervisor.transmitting = true ∧ (after .replyStart s).directionControl = true ∧
    (after .replyStart cut).supervisor.line.counters.collision = 1 ∧
    ((after (.replySent .supervisor) (after .replyStart s)).line .supervisor).slot = none ∧
    ((after (.replySent (.arm 3)) p).line (.arm 3)).slot = none ∧
    answer lane .supervisor (.restart 2) = some [5, 3] ∧ answer lane .supervisor (.restart 0) = some [5, 0] ∧
    answer (loaded lane 3 (e10 .halted)) .supervisor (.restart 0) = some [5, 10] ∧
    reply r .supervisor = some [5, 0] ∧
    (let t := after (.replySent .supervisor) (after .replyStart r)
     (t.arms.get 3).occ = .outOfService ∧ (t.meter 3 .base).k = 0 ∧ t.header.slots = 1 ∧ t.address = 1) ∧
    (let t := after (.replySent .supervisor) { after .replyStart r with addressInputs := [9, 4] }
     t.address = 9 ∧ t.addressPins = 9 ∧ t.addressInputs = [4]) := by decide +kernel

/-- A power-on reset with stop input 1 low sets the latch at its end (R172, R178); with address 31 the station has it. -/
theorem test_power_on_reset :
    let t := after (.powerOnReset { base := 1, ethanol := 0, confirm := 0, stop := 13, address := 31 }) lane
    t.stop.latch = some { cause := .input 1, time := 0 } ∧ t.supervisor.notices = [(.stopChanged, none)] ∧
    (t.meter 0 .base).accepted = true ∧ t.address.toNat = 31 ∧
    t.header = { slots := 1, hold := 60, flowTimeout := 5, alpha := 1100, threshold := 0, holders := [], wait := [] } ∧
    (t.units.get 0).strokeTimeout = 1000 ∧ (t.units.get 0).settle = 200 ∧ temp t 8 = (150, .held) := by decide +kernel

/-- READ LINES: 63 counters of two characters each, and all of them 0 afterwards (R186). -/
theorem test_read_lines :
    let s := asks (lane.modLine (.arm 3) fun y => { y with counters := { y.counters with crc := 258 } }) .supervisor .readLines
    (reply (after .readLines s) .supervisor).map List.length = some 128 ∧
    ((reply (after .readLines s) .supervisor).map fun b => (b.drop 60).take 2) = some [1, 2] ∧
    ((after .readLines s).line (.arm 3)).counters = LineCounters.zero := by decide +kernel

/-- The set of five notices of section 10.8, raised in its order. -/
def fiveNotices : State :=
  ((((lane.raiseSup (.unitLow 2) (some 880)).raiseSup (.armHalted 4) (some 1)).raiseSup (.armHalted 1) (some 10)).raiseSup
    .recordsWaiting none).raiseSup .stopChanged none

/-- Draining the supervisor's notices, one reply after another. -/
def drain : Nat → State → List (Option (List Byte))
  | 0, _ => []
  | n + 1, s =>
    let t := after .readNoticeSupervisor (asks s .supervisor .readNoticeSupervisor)
    reply t .supervisor :: drain n t

/-- Table 10-5, request by request, with 3 records in the queue. -/
theorem test_table_10_5 :
    drain 6 (withRecords fiveNotices 3) =
      [some [4, 0, 1, 255, 0, 0, 0, 255], some [4, 0, 6, 1, 0, 0, 0, 10], some [4, 0, 6, 4, 0, 0, 0, 1],
       some [4, 0, 8, 2, 0, 0, 3, 112], some [4, 0, 10, 255, 0, 0, 0, 3], some [4, 16]] := by decide +kernel

/-- The hypotheses of ReadNoticeTakesTheFirst, on both kinds of line, and the attention outputs (R183, R189). -/
theorem test_witness_ReadNoticeTakesTheFirst :
    let s := (fiveNotices.raiseArm 3 (.additiveShort 1) (some 0)).raiseArm 3 .halted (some 5)
    s.noticeLaw ∧ lane.satn = false ∧ s.satn = true ∧ { s with address := 0 }.satn = false ∧ s.aatn 3 = true ∧
    s.aatn 0 = false ∧ s.supervisor.notices ≠ [] ∧ (s.armLines.get 3).notices ≠ [] ∧ (s.armLines.get 0).notices = [] ∧
    answer s (.arm 3) (.readNoticeArm 3) = some [7, 0, 1, 255, 0, 0, 0, 5] ∧
    answer s (.arm 0) (.readNoticeArm 0) = some [7, 16] := by
  refine ⟨?_, ?_⟩
  · unfold State.noticeLaw; decide +kernel
  · decide +kernel

/-! ### The station -/

/-- SET CLOCK to the highest count, addressed and broadcast, the clock's wrap, and the tick of an empty queue (R190, R3). -/
theorem test_witness_ClocksAdvance :
    let s := { lane with clock := 4294967295, timebase := 4294967295, clockRemaining := 0 }
    (after .stationClockAdvance s).clock = 0 ∧
    (after .stationClockAdvance (after (.setClock 7) (casts s (.setClock 7)))).clock = 7 ∧
    answer lane .supervisor (.setClock 4294967295) = some [1, 0, 255, 255, 255, 255] ∧
    (after (.setClock 7) (casts lane (.setClock 7))).clock = 7 ∧ s.pending = [] ∧ s.tick.timebase = 0 := by decide +kernel

/-- A tick's times: 1 becomes 0 and 0 stays 0, a stopped and an expired timer stay as they are, and a gap grows (R97, R180). -/
theorem test_tick_counts_down :
    let timers (n : Nat) : State := ((timed .flowing).modArm 3 fun c =>
      { c with noFlow := .running n, window := .stopped, settle := .expired }).modUnit 0 fun x =>
        { x with strokeTimer := .running n, test := some n }
    let view (s : State) : List Timer × Timer × Option Nat :=
      ([(s.arms.get 3).noFlow, (s.arms.get 3).window, (s.arms.get 3).settle], (s.units.get 0).strokeTimer, (s.units.get 0).test)
    view (timers 1).tick = ([.running 0, .stopped, .expired], .running 0, some 0) ∧
    view (timers 0).tick = ([.running 0, .stopped, .expired], .running 0, some 0) ∧
    (holder .flowing).tick.header.holders = [{ arm := 3, hold := 5999999, flow := 499999 }] ∧
    (((assembling [35]).tick.line (.arm 3)).assembly.map Assembly.gap) = some 2001 := by decide +kernel

/-- Step takes the command at the front and leaves the rest. -/
theorem test_step_takes_the_front :
    (match step { lane with clockRemaining := 0, pending := [.stationClockAdvance, .readScan] } with
      | .next t => (t.clock, t.pending)
      | _ => (0, [])) = (1, [.readScan]) := by decide +kernel

/-! ### The laws that every step keeps, met by a state with a load in FLOWING on a held slot -/

/-- The recipe entry counts arm 3's load, and its timers run; a command waits. -/
def lawful : State :=
  let s := holder .flowing
  { s with
    recipes := s.recipes.upd 4 fun e => { e with refCount := 1 }
    arms := s.arms.upd 3 fun c => { c with noFlow := .running 7, linkSilence := .running 9 }
    pending := [.readScan] }

theorem test_witness_laws_of_queues :
    lawful.headerLaw ∧ lawful.recordLaw ∧ lawful.ageLaw ∧ lawful.numberLaw ∧ lawful.shotQueueLaw ∧ lawful.unitLaw := by
  refine ⟨?_, ?_, ?_, ?_, ?_, ?_⟩
  · unfold State.headerLaw; decide +kernel
  · unfold State.recordLaw; decide +kernel
  · unfold State.ageLaw; decide +kernel
  · unfold State.numberLaw; decide +kernel
  · intro u; have h : (lawful.units.get u).queue = [] := by revert u; decide +kernel
    rw [h]; simp
  · unfold State.unitLaw AdditiveUnit.lawful; decide +kernel

theorem test_witness_laws_of_stop_lines_and_recipes :
    lawful.stopLaw ∧ lawful.noticeLaw ∧ lawful.counterLaw ∧ lawful.codeLaw ∧ lawful.referenceLaw ∧ lawful.timerLaw ∧
    lawful.itemLaw := by
  refine ⟨?_, ?_, ?_, ?_, ?_, ?_, test_itemLaw_of ?_ ?_⟩
  · unfold State.stopLaw; decide +kernel
  · unfold State.noticeLaw; decide +kernel
  · unfold State.counterLaw; decide +kernel
  · unfold State.codeLaw; decide +kernel
  · unfold State.referenceLaw; decide +kernel
  · unfold State.timerLaw; decide +kernel
  all_goals decide +kernel

theorem test_witness_laws_of_loads : lawful.accountLaw ∧ lawful.restrictLaw ∧ lawful.reasonLaw := by
  have none (a : Arm) (h : a ≠ 3) : lawful.record a = none := by revert a; decide +kernel
  have some3 : lawful.record 3 = some (e10 .flowing) := by decide +kernel
  refine ⟨⟨fun a => ?_, ?_⟩, fun a => ?_, fun a => ?_⟩
  · by_cases h : a = 3
    · rw [h, some3]; refine ⟨?_, ?_⟩
      · unfold Accounts.lawful; decide
      · decide
    · rw [none a h]; trivial
  · intro a m; revert a; cases m <;> decide +kernel
  · by_cases h : a = 3
    · rw [h, some3]; intro hr; exact absurd hr (by decide)
    · rw [none a h]; trivial
  · by_cases h : a = 3
    · rw [h, some3]; exact ⟨fun _ => rfl, fun hr => absurd hr (by decide)⟩
    · rw [none a h]; trivial

/-- The step that the laws' statements speak of is taken. -/
theorem test_witness_lawful_steps : ∃ t, step lawful = .next t := ⟨_, rfl⟩

end Sys2Proof.Tests
end

section
/-! The proof of the statement about SET STATION (R102). -/

namespace Sys2Proof.Machine

variable {s : State} {nf ls w st al : Nat}

/-- A clamp from below 0 is the upper bound alone: the overrun allowance (R102) has no lower bound to be raised to. -/
theorem clamp_zero (hi n : Nat) : clamp 0 hi n = min hi n := Nat.zero_max _

theorem adjustedIf_decide_not (p : Prop) [Decidable p] :
    adjustedIf (decide ¬p) = if p then .accepted else .adjusted := by
  by_cases h : p <;> simp [adjustedIf, h]

/-- The five settings taken, with the ranges of R102 written out. -/
theorem stationTaken_eq (nf ls w st al : Nat) :
    stationTaken nf ls w st al =
      { noFlow := max 5 (min 600 nf), linkSilence := max 2 (min 60 ls), window := max 30 (min 3600 w),
        settle := max 1 (min 30 st), allowance := min 1000 al } :=
  congrArg (StationSettings.mk _ _ _ _) (clamp_zero 1000 al)

/-- SET STATION answers ACCEPTED exactly where each of the five fields is taken as it was sent. -/
theorem State.setStation_code (s : State) (nf ls w st al : Nat) :
    (s.setStation nf ls w st al).code =
      if (stationTaken nf ls w st al).noFlow = nf ∧ (stationTaken nf ls w st al).linkSilence = ls ∧
          (stationTaken nf ls w st al).window = w ∧ (stationTaken nf ls w st al).settle = st ∧
          (stationTaken nf ls w st al).allowance = al
      then .accepted else .adjusted :=
  calc (s.setStation nf ls w st al).code
      = if stationTaken nf ls w st al = ⟨nf, ls, w, st, al⟩ then .accepted else .adjusted :=
        adjustedIf_decide_not _
    _ = _ := if_congr (iff_of_eq (StationSettings.mk.injEq ..)) rfl rfl

/-- A waiting SET STATION takes its settings and is answered by the code and the settings as taken. -/
theorem exec_setStation_of_awaits (h : s.awaits .supervisor (.setStation nf ls w st al)) :
    exec (.setStation nf ls w st al) s =
      .next (State.answered { s with settings := stationTaken nf ls w st al } .supervisor (.setStation nf ls w st al) 33
        (s.setStation nf ls w st al).code (stationTaken nf ls w st al).report) :=
  congrArg Host.Outcome.next (State.serve_answered h rfl)

/-- A broadcast SET STATION takes its settings and gets no reply. -/
theorem exec_setStation_of_awaitsBroadcast (h : s.awaitsBroadcast (.setStation nf ls w st al)) :
    exec (.setStation nf ls w st al) s =
      .next (State.emptied { s with settings := stationTaken nf ls w st al } .supervisor) :=
  congrArg Host.Outcome.next (State.serve_broadcast h)

end Sys2Proof.Machine

namespace Sys2Proof.Proofs

open Sys2Proof.Machine

/-- Settles O39: an addressed and a broadcast SET STATION are served like any request of the supervisor line, and the five
settings they take are `stationTaken`. -/
theorem setStationClamps : Obligations.SetStationClamps := by
  unfold Obligations.SetStationClamps
  refine ⟨fun s nf ls w st al => ⟨fun addressed => ?_, fun broadcast => ?_⟩, fun p => rfl⟩
  · have answered := exec_setStation_of_awaits addressed
    rw [State.setStation_code, stationTaken_eq] at answered
    exact answered
  · have emptied := exec_setStation_of_awaitsBroadcast broadcast
    rw [stationTaken_eq] at emptied
    exact emptied

end Sys2Proof.Proofs
end

section
/-! The Header Arbiter's law (R110), operation by operation: what each shared operation of the station does to the arms that
hold or wait, and to the loads in FLOWING. -/

namespace Sys2Proof.Machine

variable {s t u : State} {a b : Arm}

/-! ### The arms that hold or wait -/

/-- The arms that do not stand NONE: the holders in grant order, then the waiters, head first (R111). -/
def Header.standing (h : Header) : List Arm := h.armsHolding ++ h.wait

/-- No more holders than slots: the first clause of R110. -/
def Header.fits (h : Header) : Prop := h.holders.length ≤ h.slots

theorem Header.mem_standing (h : Header) (b : Arm) : b ∈ h.standing ↔ h.holds b = true ∨ h.waits b = true := by
  rw [Header.standing, List.mem_append, Header.holds_iff, Header.waits_iff]

theorem Header.holds_of_mem {h : Header} {p : Holder → Prop} (holder : ∃ x ∈ h.holders, x.arm = a ∧ p x) :
    h.holds a = true := by
  obtain ⟨x, mem, arm, -⟩ := holder
  exact (h.holds_iff a).2 (List.mem_map.2 ⟨x, mem, arm⟩)

/-- The law with the two collections read as one list without repeats. -/
theorem State.headerLaw_iff (s : State) :
    s.headerLaw ↔ s.header.fits ∧ s.header.standing.Nodup ∧ ∀ b ∈ s.header.standing, s.phase b = some .flowing := by
  simp only [State.headerLaw, Header.fits, Header.standing, List.mem_append, List.nodup_append, Header.holds_iff,
    Header.waits_iff]
  constructor
  · rintro ⟨fits, holders, waiters, apart, flowing⟩
    exact ⟨fits, ⟨holders, waiters, fun b hb c hc e => apart b ⟨hb, e ▸ hc⟩⟩, flowing⟩
  · rintro ⟨fits, ⟨holders, waiters, apart⟩, flowing⟩
    exact ⟨fits, holders, waiters, fun b hb => apart b hb.1 b hb.2 rfl, flowing⟩

@[simp] theorem Header.grantAll_standing (h : Header) : h.grantAll.standing = h.standing :=
  h.grantAll_armsHolding_append_wait

theorem Header.grantAll_fits {h : Header} (fits : h.fits) : h.grantAll.fits := by
  simp only [Header.fits, Header.grantAll_eq, List.length_append, List.length_map, List.length_take] at fits ⊢
  omega

theorem Header.release_fits {h : Header} (fits : h.fits) (a : Arm) : (h.release a).fits :=
  (List.length_filter_le _ _).trans fits

theorem Header.release_standing_sublist (h : Header) (a : Arm) : (h.release a).standing.Sublist h.standing := by
  simp only [Header.standing, Header.release_armsHolding, Header.release_wait]
  exact List.filter_sublist.append_right _

theorem Header.unwait_standing_sublist (h : Header) (a : Arm) : (h.unwait a).standing.Sublist h.standing := by
  simp only [Header.standing, Header.unwait_armsHolding, Header.unwait_wait]
  exact List.filter_sublist.append_left _

/-! ### What keeps the law -/

/-- A change that brings no arm into the header, and leaves in FLOWING the loads of those that stay in it, keeps the law. -/
theorem State.headerLaw_of_sublist (law : s.headerLaw) (fits : t.header.fits)
    (sub : t.header.standing.Sublist s.header.standing)
    (flowing : ∀ b ∈ t.header.standing, s.phase b = some .flowing → t.phase b = some .flowing) : t.headerLaw := by
  obtain ⟨-, nodup, flows⟩ := (State.headerLaw_iff s).1 law
  exact (State.headerLaw_iff t).2 ⟨fits, nodup.sublist sub, fun b hb => flowing b hb (flows b (sub.subset hb))⟩

theorem State.fits_of_headerLaw (law : s.headerLaw) : s.header.fits := law.1

/-- The header is as it was, and every load in FLOWING still is. -/
structure State.FlowKept (s t : State) : Prop where
  header : t.header = s.header
  flowing : ∀ b, s.phase b = some .flowing → t.phase b = some .flowing

theorem State.headerLaw_of_kept (law : s.headerLaw) (kept : s.FlowKept t) : t.headerLaw := by
  refine State.headerLaw_of_sublist law ?_ ?_ fun b _ => kept.flowing b
  · rw [kept.header]; exact State.fits_of_headerLaw law
  · rw [kept.header]

theorem State.FlowKept.refl (s : State) : s.FlowKept s := ⟨rfl, fun _ h => h⟩

theorem State.FlowKept.trans (first : s.FlowKept t) (second : t.FlowKept u) : s.FlowKept u :=
  ⟨second.header.trans first.header, fun b hb => second.flowing b (first.flowing b hb)⟩

theorem State.phase_congr (h : t.arms.get b = s.arms.get b) : t.phase b = s.phase b := by
  unfold State.phase; rw [State.record_congr h]

/-- A change to an arm's record that keeps its load state keeps the arm's. -/
theorem State.phase_of_mapRecord {f : LoadRecord → LoadRecord} (h : t.arms.get b = (s.arms.get b).mapRecord f)
    (hf : ∀ r, (f r).phase = r.phase) : t.phase b = s.phase b := by
  have record : t.record b = (s.record b).map f := by
    rw [State.record, h]; exact Occupancy.record_mapRecord _ f
  simp only [State.phase, record, Option.map_map]
  exact congrFun (congrArg Option.map (funext hf)) _

/-- Loads that are alike but for final-shot marks are in the same state. -/
theorem State.phase_of_unmarked
    (h : (t.arms.get b).mapRecord LoadRecord.unmarked = (s.arms.get b).mapRecord LoadRecord.unmarked) :
    t.phase b = s.phase b := by
  have := congrArg (Option.map LoadRecord.phase) (State.record_unmarked h)
  simpa [State.phase, Function.comp_def] using this

theorem State.FlowKept.of_arms (header : t.header = s.header) (arms : t.arms = s.arms) : s.FlowKept t :=
  ⟨header, fun b hb => by rwa [State.phase_congr (s := s) (by rw [arms])]⟩

theorem State.FlowKept.of_phases (header : t.header = s.header) (phases : ∀ b, t.phase b = s.phase b) : s.FlowKept t :=
  ⟨header, fun b hb => (phases b).trans hb⟩

/-- A change to an arm that is not in FLOWING keeps every load that is. -/
theorem State.FlowKept.of_other_arms (header : t.header = s.header) (others : ∀ b, b ≠ a → t.arms.get b = s.arms.get b)
    (notFlowing : s.phase a ≠ some .flowing) : s.FlowKept t :=
  ⟨header, fun b hb => by
    rwa [State.phase_congr (others b fun e => notFlowing (e ▸ hb))]⟩

theorem State.modArm_phase {f : ArmCtl → ArmCtl} (b : Arm) (hf : ∀ c, (f c).occ = c.occ) :
    (s.modArm a f).phase b = s.phase b := by
  simp only [State.phase, State.record, State.modArm_arms, Bank.get_upd]
  split
  · next e => rw [hf, e]
  · rfl

theorem State.modRecord_phase {f : LoadRecord → LoadRecord} (b : Arm) (hf : ∀ r, (f r).phase = r.phase) :
    (s.modRecord a f).phase b = s.phase b := by
  by_cases e : b = a
  · subst e; exact State.phase_of_mapRecord (by simp) hf
  · exact State.phase_congr (by simp [Bank.get_upd, e])

theorem State.FlowKept.modArm (s : State) (a : Arm) {f : ArmCtl → ArmCtl} (hf : ∀ c, (f c).occ = c.occ) :
    s.FlowKept (s.modArm a f) :=
  .of_phases rfl fun b => State.modArm_phase b hf

theorem State.FlowKept.modRecord (s : State) (a : Arm) {f : LoadRecord → LoadRecord} (hf : ∀ r, (f r).phase = r.phase) :
    s.FlowKept (s.modRecord a f) :=
  .of_phases rfl fun b => State.modRecord_phase b hf

/-! ### The Header Arbiter's operations -/

theorem State.grants_headerLaw (law : s.headerLaw) : s.grants.headerLaw := by
  have header := State.grants_header s
  refine State.headerLaw_of_sublist law ?_ ?_ fun b _ hb => (State.phase_congr (by simp)).trans hb
  · rw [header]; split
    · exact Header.grantAll_fits (State.fits_of_headerLaw law)
    · exact State.fits_of_headerLaw law
  · rw [header]; split
    · rw [Header.grantAll_standing]
    · exact List.Sublist.refl _

theorem State.leaveHeader_fits (fits : s.header.fits) (a : Arm) : (s.leaveHeader a).header.fits := by
  rw [State.leaveHeader_header]
  split
  · split
    · exact Header.grantAll_fits (Header.release_fits fits a)
    · exact Header.release_fits fits a
  · split
    · exact fits
    · exact fits

theorem State.leaveHeader_standing_sublist (s : State) (a : Arm) :
    (s.leaveHeader a).header.standing.Sublist s.header.standing := by
  rw [State.leaveHeader_header]
  split
  · split
    · rw [Header.grantAll_standing]; exact s.header.release_standing_sublist a
    · exact s.header.release_standing_sublist a
  · split
    · exact s.header.unwait_standing_sublist a
    · exact List.Sublist.refl _

/-- A load that leaves FLOWING keeps the law by leaving the header (R114). -/
theorem State.headerLaw_of_leaves (law : s.headerLaw) (header : t.header = (s.leaveHeader a).header)
    (others : ∀ b, b ≠ a → t.phase b = s.phase b) : t.headerLaw := by
  refine State.headerLaw_of_sublist law ?_ ?_ fun b hb flows => ?_
  · rw [header]; exact State.leaveHeader_fits (State.fits_of_headerLaw law) a
  · rw [header]; exact s.leaveHeader_standing_sublist a
  · obtain ⟨-, -, -, apart, -⟩ := law
    obtain ⟨notHolding, notWaiting⟩ := s.leaveHeader_none a (apart a)
    have : b ≠ a := by
      rintro rfl
      rw [header, Header.mem_standing, notHolding, notWaiting] at hb
      simp at hb
    rw [others b this, flows]

theorem State.leaveHeader_headerLaw (law : s.headerLaw) (a : Arm) : (s.leaveHeader a).headerLaw := by
  refine State.headerLaw_of_leaves law rfl fun b ne => State.phase_congr ?_
  rw [State.leaveHeader_arms]; split
  · exact Bank.get_upd_of_ne _ _ ne
  · rfl

/-- An arm that stands NONE, with its load in FLOWING, joins the wait queue (R112, R118). -/
theorem State.join_headerLaw (law : s.headerLaw) (none : a ∉ s.header.standing) (flowing : s.phase a = some .flowing) :
    State.headerLaw { s with header := s.header.join a } := by
  obtain ⟨fits, nodup, flows⟩ := (State.headerLaw_iff s).1 law
  have standing : (s.header.join a).standing = s.header.standing ++ [a] := by simp [Header.standing]
  refine (State.headerLaw_iff _).2 ⟨fits, ?_, fun b hb => ?_⟩
  · rw [standing]; rw [← List.concat_eq_append]; exact nodup.concat none
  · rw [standing, List.mem_append, List.mem_singleton] at hb
    obtain hb | rfl := hb
    · exact flows b hb
    · exact flowing

theorem State.ethanolWanted_headerLaw (law : s.headerLaw) (a : Arm) : (s.ethanolWanted a).headerLaw := by
  unfold State.ethanolWanted
  split
  · next h =>
    obtain ⟨flowing, notHolding, notWaiting⟩ := h
    refine State.grants_headerLaw (State.join_headerLaw law ?_ flowing)
    rw [Header.mem_standing, notHolding, notWaiting]; simp
  · exact law

theorem State.ethanolResult_headerLaw (law : s.headerLaw) (a : Arm) : (s.ethanolResult a).headerLaw := by
  unfold State.ethanolResult
  split
  · exact law
  · split
    · exact State.ethanolWanted_headerLaw law a
    · split
      · exact State.leaveHeader_headerLaw law a
      · exact law

/-- A change of the holders' timers alone keeps the law. -/
theorem State.headerLaw_of_timers {f : Holder → Holder} (law : s.headerLaw) (arm : ∀ x, (f x).arm = x.arm)
    (header : t.header = { s.header with holders := s.header.holders.map f })
    (phases : ∀ b, t.phase b = s.phase b) : t.headerLaw := by
  have holding : t.header.armsHolding = s.header.armsHolding := by
    simp [header, Header.armsHolding, arm]
  refine State.headerLaw_of_sublist law ?_ ?_ fun b _ hb => (phases b).trans hb
  · rw [Header.fits, header, List.length_map]; exact State.fits_of_headerLaw law
  · rw [Header.standing, holding, header]; exact List.Sublist.refl _

theorem State.retriggerFlow_headerLaw (law : s.headerLaw) (a : Arm) : (s.retriggerFlow a).headerLaw :=
  State.headerLaw_of_timers law (fun x => by split <;> rfl) rfl fun _ => State.phase_congr rfl

/-- A revocation down to the slots there are gives the law, where the arms of the header were lawful but for their number. -/
theorem State.revokeFrom_headerLaw {n : Nat} (law : s.headerLaw) (standing : t.header.standing = s.header.standing)
    (phases : ∀ b, t.phase b = s.phase b) (slots : n ≤ t.header.slots) : (t.revokeFrom n).headerLaw := by
  have revoked : (t.revokeFrom n).header.standing = t.header.standing := by
    rw [State.revokeFrom_header]
    simp only [Header.standing, Header.armsHolding]
    rw [← List.append_assoc, ← List.map_append, List.take_append_drop]
  have phase (b : Arm) : (t.revokeFrom n).phase b = t.phase b := by
    have get := t.revokeFrom_arms_get n b
    split at get
    · exact State.phase_of_mapRecord get fun _ => rfl
    · exact State.phase_congr get
  refine State.headerLaw_of_sublist law ?_ ?_ fun b _ hb => (phase b).trans ((phases b).trans hb)
  · rw [State.revokeFrom_header]; exact (List.length_take_le _ _).trans slots
  · rw [revoked, standing]

theorem State.revokeAll_headerLaw (law : s.headerLaw) : s.revokeAll.headerLaw :=
  State.revokeFrom_headerLaw law rfl (fun _ => rfl) (Nat.zero_le _)

theorem State.valveCloses_phase (s : State) (a b : Arm) : (s.valveCloses a).phase b = s.phase b :=
  State.modRecord_phase b fun _ => rfl

theorem State.releaseHolder_phase (s : State) (a b : Arm) : (s.releaseHolder a).phase b = s.phase b :=
  State.valveCloses_phase _ a b

theorem State.releaseHolder_headerLaw (law : s.headerLaw) (a : Arm) : (s.releaseHolder a).headerLaw := by
  refine State.headerLaw_of_sublist law ?_ ?_ fun b _ hb => (s.releaseHolder_phase a b).trans hb
  · rw [State.releaseHolder_header]; exact Header.release_fits (State.fits_of_headerLaw law) a
  · rw [State.releaseHolder_header]; exact s.header.release_standing_sublist a

/-- A holder that was released stands NONE. -/
theorem State.releaseHolder_not_standing (law : s.headerLaw) (holds : s.header.holds a = true) :
    a ∉ (s.releaseHolder a).header.standing := by
  obtain ⟨-, -, -, apart, -⟩ := law
  have notWaiting : a ∉ s.header.wait := fun waits => apart a ⟨holds, (s.header.waits_iff a).2 waits⟩
  simp [Header.standing, notWaiting]

theorem State.holdExpires_headerLaw (law : s.headerLaw) (holds : s.header.holds a = true) :
    (s.holdExpires a).headerLaw := by
  unfold State.holdExpires
  split
  · exact State.headerLaw_of_timers law (fun x => by split <;> rfl) rfl fun _ => State.phase_congr rfl
  · have released := State.releaseHolder_headerLaw law a
    refine State.grants_headerLaw ?_
    refine iteInduction (motive := State.headerLaw) (fun _ => ?_) fun _ => released
    refine State.join_headerLaw released (State.releaseHolder_not_standing law holds) ?_
    obtain ⟨-, -, -, -, flowing⟩ := law
    exact (s.releaseHolder_phase a a).trans (flowing a (.inl holds))

/-! ### Loads that leave FLOWING, or enter it -/

theorem State.enterPaused_headerLaw (law : s.headerLaw) (a : Arm) (c : PauseCause) : (s.enterPaused a c).headerLaw :=
  State.headerLaw_of_leaves law (s.enterPaused_header a c) fun b ne => by
    rw [State.phase, State.enterPaused_record, if_neg ne]; rfl

theorem State.enterFlush_headerLaw (law : s.headerLaw) (a : Arm) : (s.enterFlush a).headerLaw :=
  State.headerLaw_of_leaves law (s.enterFlush_header a) fun b ne => by
    rw [State.phase, State.enterFlush_record, if_neg ne]; rfl

theorem State.enterHalted_headerLaw (law : s.headerLaw) (a : Arm) (why : HaltReason) : (s.enterHalted a why).headerLaw :=
  State.headerLaw_of_leaves law (s.enterHalted_header a why) fun b ne => by
    rw [State.phase, State.enterHalted_record, if_neg ne]; rfl

theorem State.enterFinishing_headerLaw (law : s.headerLaw) (a : Arm) : (s.enterFinishing a).headerLaw :=
  State.headerLaw_of_leaves law (s.enterFinishing_header a) fun b ne => by
    rw [State.phase, State.enterFinishing_record, if_neg ne]; rfl

theorem State.halt_headerLaw (law : s.headerLaw) (a : Arm) (why : HaltReason) : (s.halt a why).headerLaw := by
  unfold State.halt
  split
  · exact law
  · split
    · exact State.enterHalted_headerLaw law a why
    · exact law

theorem State.FlowKept.enterFlowing (s : State) (a : Arm) : s.FlowKept (s.enterFlowing a) := by
  refine ⟨by simp, fun b hb => ?_⟩
  rw [State.phase, State.enterFlowing_record]
  split
  · next e =>
    obtain ⟨r, hr, -⟩ := (s.phase_eq_some b _).1 hb
    rw [← e, hr]; rfl
  · exact hb

theorem State.FlowKept.setRestrict (s : State) (a : Arm) (on : Bool) : s.FlowKept (s.setRestrict a on) :=
  .of_phases (by simp) fun b => by
    rw [← State.modRecord_phase (s := s) (a := a) (f := fun r => { r with acc := { r.acc with restrictOn := on } }) b
      fun _ => rfl]
    exact State.phase_congr (by rw [State.setRestrict_arms]; rfl)

/-! ### The shot queues -/

theorem State.FlowKept.takeHead (s : State) (u : UnitNo) : s.FlowKept (s.takeHead u) :=
  .of_phases (by simp) fun b => State.phase_of_unmarked (s.takeHead_unmarked u b)

theorem State.FlowKept.additiveResults (s : State) (a : Arm) : s.FlowKept (s.additiveResults a) :=
  .of_phases (by simp) fun b => State.phase_of_unmarked (s.additiveResults_unmarked a b)

theorem State.FlowKept.modUnit (s : State) (u : UnitNo) (f : AdditiveUnit → AdditiveUnit) : s.FlowKept (s.modUnit u f) :=
  .of_arms rfl rfl

theorem State.FlowKept.enqueue (s : State) (u : UnitNo) (a : Arm) : s.FlowKept (s.enqueue u a) :=
  (State.FlowKept.modUnit s u _).trans (.takeHead _ u)

theorem State.FlowKept.leaveQueues (s : State) (a : Arm) : s.FlowKept (s.leaveQueues a) := .of_arms rfl rfl

theorem State.FlowKept.finalShot (s : State) (a : Arm) (i : LoadItem) : s.FlowKept (s.finalShot a i) := by
  have marked : s.FlowKept (s.modRecord a fun r => r.modItem i.unit fun j => { j with finalShot := true }) :=
    .modRecord s a fun _ => rfl
  unfold State.finalShot
  dsimp only
  split
  · split
    · exact marked
    · exact marked.trans (.enqueue _ i.unit a)
  · exact .refl s

/-- What each step of a fold keeps, the fold keeps. -/
theorem State.FlowKept.foldl {α : Type} {f : State → α → State} (step : ∀ (s : State) (x : α), s.FlowKept (f s x)) (l : List α) (s : State) :
    s.FlowKept (l.foldl f s) := by
  induction l generalizing s with
  | nil => exact .refl s
  | cons x l ih => exact (step s x).trans (ih _)

theorem State.FlowKept.finalShots (s : State) (a : Arm) : s.FlowKept (s.finalShots a) := by
  unfold State.finalShots
  split
  · exact .refl s
  · exact .foldl (fun s i => .finalShot s a i) _ s

/-! ### Completions, hand-offs and the loss of a unit -/

theorem State.FlowKept.examine (s : State) (a : Arm) : s.FlowKept (s.examine a) :=
  ⟨by simp, fun b hb => by rwa [State.phase_congr (s.examine_arms_get a b (by simp [hb]))]⟩

/-- A hand-off of a load that is not in FLOWING. -/
theorem State.FlowKept.handOff (notFlowing : s.phase a ≠ some .flowing) : s.FlowKept (s.handOff a) :=
  .of_other_arms (by simp) (fun b ne => by rw [State.handOff_arms_get, if_neg fun h => ne h.1]) notFlowing

theorem LoadRecord.loseUnit_phase (r : LoadRecord) (u : UnitNo) : (r.loseUnit u).phase = r.phase := by
  unfold LoadRecord.loseUnit LoadRecord.modItem
  dsimp only
  repeat' split
  all_goals rfl

theorem State.FlowKept.unitLost (s : State) (u : UnitNo) (st : UnitState) (k : SupNotice) (d : Nat) :
    s.FlowKept (s.unitLost u st k d) := by
  refine ⟨by simp, fun b hb => ?_⟩
  have get := s.unitLost_arms_get u st k d b (by simp [hb])
  rw [State.phase_of_mapRecord get fun r => r.loseUnit_phase u, hb]

theorem State.FlowKept.unitServes (s : State) (u : UnitNo) : s.FlowKept (s.unitServes u) := by
  unfold State.unitServes
  split
  · exact (State.FlowKept.modUnit s u _).trans (.takeHead _ u)
  · exact .unitLost s u _ _ _

theorem State.FlowKept.evalLow (s : State) (u : UnitNo) : s.FlowKept (s.evalLow u) := .of_arms (by simp) (by simp)

theorem State.FlowKept.refill (s : State) (u : UnitNo) (volume : Nat) : s.FlowKept (s.refill u volume) := by
  have low := (State.FlowKept.modUnit s u fun x => { x with inventory := refilled x.inventory volume }).trans (.evalLow _ u)
  unfold State.refill
  dsimp only
  split
  · exact (low.trans (.modUnit _ u _)).trans (.takeHead _ u)
  · exact low

theorem State.FlowKept.backToReady (s : State) (u : UnitNo) (a : Arm) : s.FlowKept (s.backToReady u a) := by
  have ready := State.FlowKept.modUnit s u fun x => { x with state := .ready }
  unfold State.backToReady
  refine State.FlowKept.trans ?_ (.takeHead _ u)
  exact iteInduction (motive := s.FlowKept) (fun _ => ready.trans (.modUnit _ u _)) fun _ => ready

theorem LoadRecord.creditShot_phase (r : LoadRecord) (u : UnitNo) (shot : Nat) : (r.creditShot u shot).phase = r.phase := by
  unfold LoadRecord.creditShot
  split
  · rfl
  · rfl

theorem State.FlowKept.strokeConfirmed (s : State) (u : UnitNo) (a : Arm) : s.FlowKept (s.strokeConfirmed u a) := by
  unfold State.strokeConfirmed
  refine State.FlowKept.trans ?_ (.examine _ a)
  have credited := ((State.FlowKept.modRecord s a fun r => r.creditShot_phase u (s.units.get u).shot).trans
    (.modUnit _ u fun x => { x with
      strokeTimer := .stopped, confirmed := countUp32 x.confirmed, inventory := x.inventory - (s.units.get u).shot,
      failures := 0, inFlight := none })).trans (.evalLow _ u)
  split
  · exact credited.trans (.backToReady _ u a)
  · exact credited.trans (.unitLost _ u _ _ _)

theorem State.FlowKept.strokeFailed (s : State) (u : UnitNo) (a : Arm) : s.FlowKept (s.strokeFailed u a) := by
  unfold State.strokeFailed
  refine State.FlowKept.trans ?_ (.examine _ a)
  have failed := State.FlowKept.modUnit s u fun x => { x with
    strokeTimer := .stopped, failed := countUp32 x.failed, failures := x.failures + 1, inFlight := none }
  split
  · exact failed.trans (.unitLost _ u _ _ _)
  · exact failed.trans (.backToReady _ u a)

theorem State.FlowKept.confirmation (s : State) (u : UnitNo) : s.FlowKept (s.confirmation u) := by
  unfold State.confirmation
  dsimp only
  split
  · exact .strokeConfirmed s u _
  · exact .modUnit s u _

/-! ### The stop latch -/

theorem State.FlowKept.setLatch (s : State) (c : StopCause) : s.FlowKept (s.setLatch c) := by
  unfold State.setLatch
  split
  · exact .refl s
  · refine .of_phases rfl fun b => State.phase_of_mapRecord (f := LoadRecord.handStop) (by simp) fun r => ?_
    unfold LoadRecord.handStop
    split
    · rfl
    · rfl

theorem State.FlowKept.stopByEnable (s : State) : s.FlowKept s.stopByEnable := by
  unfold State.stopByEnable
  split
  · exact .refl s
  · exact .setLatch s _

theorem State.clearLatch_headerLaw (law : s.headerLaw) : s.clearLatch.headerLaw := by
  have cleared : State.headerLaw { s with stop := { s.stop with latch := none } } := law
  exact State.headerLaw_of_kept (State.grants_headerLaw cleared) (.of_arms rfl rfl)

/-! ### A pulse and its delivery -/

theorem State.deliveryTimers_headerLaw (law : s.headerLaw) (a : Arm) (p : Phase) (m : Meter) :
    (s.deliveryTimers a p m).headerLaw := by
  unfold State.deliveryTimers
  split
  · exact State.retriggerFlow_headerLaw law a
  · split
    · exact State.headerLaw_of_kept law (.enterFlowing s a)
    · split
      · exact State.headerLaw_of_kept law (.modArm s a fun _ => rfl)
      · exact law

theorem State.FlowKept.restrictTest (s : State) (a : Arm) : s.FlowKept (s.restrictTest a) := by
  unfold State.restrictTest
  split
  · exact .refl s
  · exact .setRestrict s a _

theorem State.blendTests_headerLaw (law : s.headerLaw) (a : Arm) : (s.blendTests a).headerLaw := by
  unfold State.blendTests
  split
  · exact law
  · split
    · exact State.halt_headerLaw law a _
    · split
      · exact State.halt_headerLaw law a _
      · split
        · exact State.headerLaw_of_kept (State.enterFlush_headerLaw law a) (.additiveResults _ a)
        · exact State.headerLaw_of_kept (State.ethanolResult_headerLaw law a)
            ((State.FlowKept.restrictTest _ a).trans (.additiveResults _ a))

theorem State.laterStages_headerLaw (law : s.headerLaw) (a : Arm) (p : Phase) (baseVcf : Nat) :
    (s.laterStages a p baseVcf).headerLaw := by
  have owed : (s.modRecord a fun r => r.oweEthanol baseVcf).headerLaw :=
    State.headerLaw_of_kept law (.modRecord s a fun _ => rfl)
  cases p with
  | authorized => exact owed
  | flowing => exact State.blendTests_headerLaw owed a
  | paused c => exact State.blendTests_headerLaw owed a
  | flush => exact State.headerLaw_of_kept law (.additiveResults s a)
  | halted => exact law
  | finishing => exact law
  | complete => exact law

theorem State.judge_headerLaw (law : s.headerLaw) (a : Arm) (p : Phase) (saturating : Bool) (baseVcf : Nat) :
    (s.judge a p saturating baseVcf).headerLaw := by
  unfold State.judge
  split
  · exact law
  · split
    · split
      · exact State.halt_headerLaw law a _
      · split
        · exact State.halt_headerLaw law a _
        · exact State.laterStages_headerLaw law a p baseVcf
    · exact law

theorem State.deliver_headerLaw (law : s.headerLaw) (a : Arm) (d : Delivery) : (s.deliver a d).headerLaw := by
  unfold State.deliver
  split
  · exact law
  · have accounted : (s.modRecord a fun r => r.account d (s.readings a)).headerLaw :=
      State.headerLaw_of_kept law (.modRecord s a fun _ => rfl)
    exact State.judge_headerLaw (State.deliveryTimers_headerLaw accounted a _ _) a _ _ _

theorem State.FlowKept.modMeter (s : State) (a : Arm) (m : Meter) (f : MeterInput → MeterInput) :
    s.FlowKept (s.modMeter a m f) := .of_arms rfl rfl

theorem State.pulse_headerLaw (law : s.headerLaw) (a : Arm) (m : Meter) : (s.pulse a m).headerLaw := by
  have captured := State.headerLaw_of_kept law (.modMeter s a m fun y => y.capture s.timebase)
  unfold State.pulse
  dsimp only
  split
  · exact State.deliver_headerLaw (State.headerLaw_of_kept captured (.modMeter _ a m _)) a _
  · exact State.headerLaw_of_kept captured (.of_arms (by simp) (by simp))

/-! ### A conversion -/

theorem State.convertPressure_headerLaw (law : s.headerLaw) (code : Nat) : (s.convertPressure code).headerLaw := by
  have compared : State.headerLaw { s with scan := s.scan.comparePressure code s.header.threshold } := law
  unfold State.convertPressure
  split
  · exact law
  · dsimp only
    split
    · exact compared
    · split
      · exact State.revokeAll_headerLaw compared
      · exact State.grants_headerLaw compared

theorem State.takeCode_headerLaw (law : s.headerLaw) (code : Nat) : (s.takeCode code).headerLaw := by
  have reference (r : Fin 3) : (s.convertReference r code).headerLaw :=
    State.headerLaw_of_kept law (.of_arms (by simp) (by simp))
  unfold State.takeCode
  dsimp only
  split
  · exact State.headerLaw_of_kept law (.of_arms (by simp) (by simp))
  · split
    · exact State.convertPressure_headerLaw law code
    · split
      · exact reference 0
      · split
        · exact reference 1
        · exact reference 2

/-! ### Requests -/

theorem State.FlowKept.modLine (s : State) (l : Line) (f : LineState → LineState) : s.FlowKept (s.modLine l f) := by
  cases l with
  | supervisor => exact .of_arms rfl rfl
  | arm n => exact .of_arms rfl rfl

/-- A request keeps the law where its owner's effect does. -/
theorem State.serve_headerLaw {l : Line} {c : Instr} {type : Nat} {x : Answer} (law : s.headerLaw)
    (effect : x.state.headerLaw) : (s.serve l c type x).headerLaw := by
  obtain same | ⟨p, served⟩ := s.serve_cases l c type x
  · rw [same]; exact law
  · rw [served]; exact State.headerLaw_of_kept effect (.modLine _ l _)

/-! ### Requests that touch neither the header nor a load in FLOWING -/

theorem State.FlowKept.setMeters (s : State) (arm kb ke fb fe mb me : Nat) :
    s.FlowKept (s.setMeters arm kb ke fb fe mb me).state := by
  unfold State.setMeters
  dsimp only
  repeat' split
  all_goals exact .of_arms rfl rfl

theorem State.FlowKept.readMeters (s : State) (arm : Nat) : s.FlowKept (s.readMeters arm).state := by
  unfold State.readMeters
  split
  · exact .of_arms rfl rfl
  · exact .refl s

theorem State.FlowKept.defineRecipe (s : State) (f : RecipeFields) : s.FlowKept (s.defineRecipe f).state := by
  unfold State.defineRecipe
  dsimp only
  repeat' split
  all_goals exact .of_arms rfl rfl

theorem State.FlowKept.withdrawRecipe (s : State) (entry : Nat) : s.FlowKept (s.withdrawRecipe entry).state := by
  unfold State.withdrawRecipe
  dsimp only
  repeat' split
  all_goals exact .of_arms rfl rfl

theorem State.readRecipe_state (s : State) (entry : Nat) : (s.readRecipe entry).state = s := by
  unfold State.readRecipe
  split
  · rfl
  · rfl

theorem State.loadStatus_state (s : State) (a : Arm) : (s.loadStatus a).state = s := by
  unfold State.loadStatus
  split
  · rfl
  · rfl

theorem State.readLoad_state (s : State) (arm : Nat) : (s.readLoad arm).state = s := by
  unfold State.readLoad
  dsimp only
  repeat' split
  all_goals rfl

theorem State.lastSummary_state (s : State) (a : Arm) : (s.lastSummary a).state = s := by
  unfold State.lastSummary
  split
  · rfl
  · rfl

theorem State.lastSummaryOf_state (s : State) (arm : Nat) : (s.lastSummaryOf arm).state = s := by
  unfold State.lastSummaryOf
  split
  · exact s.lastSummary_state _
  · rfl

theorem State.readUnit_state (s : State) (unit : Nat) : (s.readUnit unit).state = s := by
  unfold State.readUnit
  split
  · rfl
  · rfl

theorem State.readRecord_state (s : State) : s.readRecord.state = s := by
  unfold State.readRecord
  dsimp only
  split
  · rfl
  · rfl

theorem State.restartAnswer_state (s : State) (force : Nat) : (s.restartAnswer force).state = s := by
  unfold State.restartAnswer
  repeat' split
  all_goals rfl

theorem State.FlowKept.readNoticeSupervisor (s : State) : s.FlowKept s.readNoticeSupervisor.state := by
  unfold State.readNoticeSupervisor
  split
  · exact .refl s
  · exact .of_arms rfl rfl

theorem State.FlowKept.readNoticeArm (s : State) (n : Arm) : s.FlowKept (s.readNoticeArm n).state := by
  unfold State.readNoticeArm
  split
  · exact .refl s
  · exact .of_arms rfl rfl

/-- An arm that is put into service or taken out of it has no load (R73). -/
theorem State.FlowKept.setArmService (s : State) (arm service : Nat) : s.FlowKept (s.setArmService arm service).state := by
  have noLoad {a : Arm} {f : ArmCtl → ArmCtl} (h : (s.arms.get a).occ = .outOfService ∨ (s.arms.get a).occ = .idle) :
      s.FlowKept (s.modArm a f) := by
    refine .of_other_arms (a := a) rfl (fun b ne => Bank.get_upd_of_ne _ _ ne) ?_
    obtain h | h := h
    · simp [State.phase, State.record, h, Occupancy.record]
    · simp [State.phase, State.record, h, Occupancy.record]
  unfold State.setArmService
  dsimp only
  split
  · split
    · exact .refl s
    · split
      · split
        · next h =>
          split
          · exact noLoad (.inl h)
          · exact .refl s
        · exact .refl s
        · exact .refl s
      · split
        · exact .refl s
        · next h => exact noLoad (.inr h)
        · exact .refl s
  · exact .refl s

/-- AUTHORIZE is accepted at an IDLE arm alone (R85). -/
theorem State.FlowKept.authorize (s : State) (a : Arm) (code preset : Nat) (bill : List Byte) :
    s.FlowKept (s.authorize a code preset bill).state := by
  unfold State.authorize
  split
  · exact .refl s
  · split
    · exact .refl s
    · split
      · exact .refl s
      · exact .refl s
    · next idle =>
      split
      · exact .refl s
      · next n _ =>
        have accepted : s.FlowKept (s.authorized a n preset bill) := by
          refine .of_other_arms (a := a) rfl (fun b ne => Bank.get_upd_of_ne _ _ ne) ?_
          simp [State.phase, State.record, idle, Occupancy.record]
        dsimp only
        split
        · exact .refl s
        · split
          · exact .refl s
          · split
            · exact .refl s
            · exact accepted

theorem State.FlowKept.setUnit (s : State) (unit shot low timeout settle : Nat) :
    s.FlowKept (s.setUnit unit shot low timeout settle).state := by
  unfold State.setUnit
  dsimp only
  split
  · split
    · exact .refl s
    · split
      · exact .refl s
      · exact (State.FlowKept.modUnit s _ _).trans (.evalLow _ _)
  · exact .refl s

theorem State.FlowKept.setUnitService (s : State) (unit service : Nat) :
    s.FlowKept (s.setUnitService unit service).state := by
  unfold State.setUnitService
  dsimp only
  split
  · split
    · exact .refl s
    · split
      · split
        · split
          · exact .refl s
          · exact (State.FlowKept.modUnit s _ _).trans (.unitServes _ _)
        · exact .refl s
      · split
        · exact .refl s
        · exact .refl s
        · exact .refl s
        all_goals
          split
          · exact .refl s
          · exact .modUnit s _ _
  · exact .refl s

theorem State.FlowKept.refillUnit (s : State) (unit volume : Nat) : s.FlowKept (s.refillUnit unit volume).state := by
  unfold State.refillUnit
  dsimp only
  split
  · split
    · exact .refl s
    · exact .refill s _ volume
  · exact .refl s

theorem State.FlowKept.clearUnit (s : State) (unit : Nat) : s.FlowKept (s.clearUnit unit).state := by
  unfold State.clearUnit
  dsimp only
  split
  · split
    · exact (State.FlowKept.modUnit s _ _).trans (.unitServes _ _)
    · exact .refl s
  · exact .refl s

theorem State.FlowKept.setStopInputs (s : State) (e0 e1 e2 e3 : Nat) : s.FlowKept (s.setStopInputs e0 e1 e2 e3).state := by
  have enabled : s.FlowKept { s with stop := s.stop.enable (enablesTaken e0 e1 e2 e3) } := .of_arms rfl rfl
  unfold State.setStopInputs
  split
  · exact .refl s
  · exact enabled.trans (.stopByEnable _)

/-! ### Requests on loads and on the header -/

theorem State.pause_headerLaw (law : s.headerLaw) (a : Arm) : (s.pause a).state.headerLaw := by
  unfold State.pause
  split
  · exact law
  · exact State.enterPaused_headerLaw law a .driver
  · next paused =>
    refine State.headerLaw_of_kept law (.of_other_arms (a := a) rfl (fun b ne => Bank.get_upd_of_ne _ _ ne) ?_)
    simp [paused]
  · exact law
  · exact law

theorem State.resume_headerLaw (law : s.headerLaw) (a : Arm) : (s.resume a).state.headerLaw := by
  unfold State.resume
  split
  · exact law
  · exact State.headerLaw_of_kept law (.enterFlowing s a)
  · exact law
  · exact law

theorem State.endLoad_headerLaw (law : s.headerLaw) (a : Arm) : (s.endLoad a).state.headerLaw := by
  have ended := State.enterFinishing_headerLaw law a
  have endedWithShots := State.headerLaw_of_kept ended (.finalShots _ a)
  unfold State.endLoad
  split
  · exact law
  · exact ended
  · exact ended
  · exact endedWithShots
  · exact endedWithShots
  · exact endedWithShots
  · exact law
  · exact law

theorem State.aborted_headerLaw (law : s.headerLaw) (a : Arm) (r : LoadRecord) : (s.aborted a r).headerLaw := by
  have flagged : (s.modRecord a fun r => { r with flags := { r.flags with aborted := true } }).headerLaw :=
    State.headerLaw_of_kept law (.modRecord s a fun _ => rfl)
  unfold State.aborted
  split
  · have unmarked := State.headerLaw_of_kept flagged
      ((State.FlowKept.modRecord _ a fun _ => rfl : State.FlowKept _ (State.clearMarks _ a)).trans (.leaveQueues _ a))
    exact iteInduction (motive := State.headerLaw) (fun _ => State.headerLaw_of_kept unmarked (.examine _ a))
      fun _ => unmarked
  · exact State.enterFinishing_headerLaw flagged a

theorem State.abortLoad_headerLaw (law : s.headerLaw) (arm number : Nat) : (s.abortLoad arm number).state.headerLaw := by
  unfold State.abortLoad
  dsimp only
  split
  · split
    · exact law
    · split
      · exact law
      · split
        · exact law
        · exact State.aborted_headerLaw law _ _
  · exact law

/-- SET HEADER: a lowered slot count revokes what is beyond it, and a raised one grants (R124, R125). -/
theorem State.setHeader_headerLaw (law : s.headerLaw) (slots hold flowTimeout alpha threshold : Nat) :
    (s.setHeader slots hold flowTimeout alpha threshold).state.headerLaw := by
  have fits := State.fits_of_headerLaw law
  have kept (h : s.header.slots ≤ (s.header.configure slots hold flowTimeout alpha threshold).slots) :
      State.headerLaw { s with header := s.header.configure slots hold flowTimeout alpha threshold } :=
    State.headerLaw_of_sublist law (fits.trans h) (List.Sublist.refl _) fun _ _ hb => hb
  unfold State.setHeader State.slotsChanged
  dsimp only
  split
  · exact State.revokeFrom_headerLaw law rfl (fun _ => rfl) (le_refl _)
  · split
    · next raised => exact State.grants_headerLaw (kept raised.le)
    · next same _ => exact kept (Nat.le_of_not_lt same)

/-- Only an arm in COMPLETE waits for a place in the Record Queue, so its hand-off touches no load in FLOWING (R158). -/
theorem State.FlowKept.waitHandOff (waits : ∀ b ∈ s.records.wait, s.phase b = some .complete) :
    s.FlowKept s.waitHandOff := by
  unfold State.waitHandOff
  split
  · exact .refl s
  · next b rest wait =>
    split
    · have taken : s.FlowKept { s with records := { s.records with wait := rest } } := .of_arms rfl rfl
      refine taken.trans (.handOff ?_)
      have complete : s.phase b = some .complete := waits b (by rw [wait]; exact List.mem_cons_self)
      change s.phase b ≠ some .flowing
      simp [complete]
    · exact .refl s

theorem State.waiting_complete (law : s.recordLaw) : ∀ b ∈ s.records.wait, s.phase b = some .complete := by
  obtain ⟨-, -, -, waiting⟩ := law
  exact fun b hb => (waiting b).1 hb

theorem State.FlowKept.removeRecord (law : s.recordLaw) (number : Nat) : s.FlowKept (s.removeRecord number).state := by
  unfold State.removeRecord
  split
  · exact .refl s
  · next d rest _ =>
    split
    · exact .refl s
    · have headless : s.FlowKept { s with records := { s.records with records := rest } } := .of_arms rfl rfl
      have waits := State.waiting_complete law
      exact (headless.trans (.waitHandOff waits)).trans (.of_arms rfl rfl)

/-- TERMINAL RESUME grants, or changes nothing (R175). -/
theorem State.terminalResume_headerLaw (law : s.headerLaw) : s.terminalResume.state.headerLaw := by
  unfold State.terminalResume
  dsimp only
  split
  · exact law
  · split
    · exact law
    · exact State.clearLatch_headerLaw law

/-! ### Telegrams, replies and resets -/

theorem State.FlowKept.checkTelegram (s : State) (l : Line) (chars : List Byte) : s.FlowKept (s.checkTelegram l chars) := by
  have heard : s.FlowKept (s.heard l) := by
    cases l with
    | supervisor => exact .refl s
    | arm n => exact .modArm s n fun _ => rfl
  unfold State.checkTelegram
  split
  · exact .refl s
  · split
    · exact .modLine s l _
    · split
      · exact .modLine s l _
      · exact heard.trans (.modLine _ l _)

theorem State.FlowKept.replyStart (s : State) : s.FlowKept s.replyStart := by
  unfold State.replyStart
  split
  · exact .of_arms rfl rfl
  · exact .refl s

/-- After a reset no arm stands in the header, whatever else the reset leaves. -/
theorem State.headerLaw_of_reset (header : s.header = Header.atReset) : s.headerLaw := by
  refine (State.headerLaw_iff s).2 ?_
  rw [header]
  exact ⟨Nat.zero_le 1, List.nodup_nil, fun b hb => nomatch hb⟩

theorem State.replySent_headerLaw (law : s.headerLaw) (l : Line) : (s.replySent l).headerLaw := by
  unfold State.replySent
  split
  · exact law
  · split
    · exact State.headerLaw_of_reset rfl
    · have emptied := State.FlowKept.modLine s l fun y => { y with slot := none }
      cases l with
      | supervisor => exact State.headerLaw_of_kept law (emptied.trans (.of_arms rfl rfl))
      | arm n => exact State.headerLaw_of_kept law emptied

theorem State.FlowKept.receiveSupervisor (s : State) (data : Byte) (marker stopHigh : Bool) :
    s.FlowKept (s.receiveSupervisor data marker stopHigh) := by
  unfold State.receiveSupervisor
  split
  · exact .refl s
  · split
    · exact .of_arms rfl rfl
    · exact .modLine s .supervisor _

theorem State.tick_headerLaw (law : s.headerLaw) : s.tick.headerLaw := by
  refine State.headerLaw_of_timers (f := Holder.tick) law (fun _ => rfl) rfl fun b => ?_
  simp [State.phase, State.record, State.tick, ArmCtl.tick]

/-! ### The law after every command -/

/-- A next state, where this outcome is one, meets the law. -/
def HeaderLawAfter (o : Host.Outcome State Fault Refusal) : Prop := ∀ t, o = .next t → t.headerLaw

theorem HeaderLawAfter.next (law : t.headerLaw) : HeaderLawAfter (.next t) := by
  rintro _ ⟨⟩
  exact law

/-- An event that has its effect where its condition holds, and none otherwise (log entry 4). -/
theorem HeaderLawAfter.event {c : Prop} [Decidable c] (law : s.headerLaw) (effect : c → t.headerLaw) :
    HeaderLawAfter (if c then .next t else .next s) :=
  iteInduction (fun h => .next (effect h)) fun _ => .next law

theorem HeaderLawAfter.request {l : Line} {c : Instr} {type : Nat} {x : Answer} (law : s.headerLaw)
    (effect : x.state.headerLaw) : HeaderLawAfter (.next (s.serve l c type x)) :=
  .next (State.serve_headerLaw law effect)

/-- A request that changes no header and no load in FLOWING. -/
theorem HeaderLawAfter.requestKeeps {l : Line} {c : Instr} {type : Nat} {x : Answer} (law : s.headerLaw)
    (kept : s.FlowKept x.state) : HeaderLawAfter (.next (s.serve l c type x)) :=
  .request law (State.headerLaw_of_kept law kept)

theorem HeaderLawAfter.requestReads {l : Line} {c : Instr} {type : Nat} {x : Answer} (law : s.headerLaw)
    (same : x.state = s) : HeaderLawAfter (.next (s.serve l c type x)) :=
  .request law (by rw [same]; exact law)

/-! #### Events -/

theorem execMeterLevelChange_headerLaw (law : s.headerLaw) (a : Arm) (m : Meter) (high : Bool) :
    HeaderLawAfter (execMeterLevelChange a m high s) := by
  have presented := State.headerLaw_of_kept law (.modMeter s a m fun y => y.present high)
  unfold execMeterLevelChange
  dsimp only
  split
  · split
    · exact .next (State.pulse_headerLaw presented a m)
    · exact .next (State.headerLaw_of_kept presented (.modMeter _ a m _))
  · exact .next presented

theorem execNoFlowExpiry_headerLaw (law : s.headerLaw) (a : Arm) : HeaderLawAfter (execNoFlowExpiry a s) := by
  have stopped : (s.modArm a fun c => { c with noFlow := .stopped }).headerLaw :=
    State.headerLaw_of_kept law (.modArm s a fun _ => rfl)
  unfold execNoFlowExpiry
  split
  · dsimp only
    split
    · exact .next (State.enterPaused_headerLaw stopped a .noFlow)
    · exact .next stopped
  · exact .next law

theorem execAuthorizationWindowExpiry_headerLaw (law : s.headerLaw) (a : Arm) :
    HeaderLawAfter (execAuthorizationWindowExpiry a s) := by
  have stopped : s.FlowKept (s.modArm a fun c => { c with window := .stopped }) := .modArm s a fun _ => rfl
  have expired := State.headerLaw_of_kept law <| stopped.trans <|
    State.FlowKept.modRecord _ a (f := fun r => { r with flags := { r.flags with expired := true } }) fun _ => rfl
  unfold execAuthorizationWindowExpiry
  split
  · dsimp only
    split
    · exact .next (State.enterFinishing_headerLaw expired a)
    · exact .next (State.headerLaw_of_kept law stopped)
  · exact .next law

/-- A halt handed to a load is taken, after its mark is dropped. -/
theorem State.haltTaken_headerLaw {f : LoadRecord → LoadRecord} (law : s.headerLaw) (a : Arm) (why : HaltReason)
    (hf : ∀ r, (f r).phase = r.phase) : ((s.modRecord a f).halt a why).headerLaw :=
  State.halt_headerLaw (State.headerLaw_of_kept law (.modRecord s a hf)) a why

theorem execTerminalStopHalt_headerLaw (law : s.headerLaw) (a : Arm) : HeaderLawAfter (execTerminalStopHalt a s) := by
  unfold execTerminalStopHalt
  split
  · exact .next law
  · exact .event law fun _ => State.haltTaken_headerLaw law a .terminalStop fun _ => rfl

theorem execAdditiveLostHalt_headerLaw (law : s.headerLaw) (a : Arm) (u : UnitNo) :
    HeaderLawAfter (execAdditiveLostHalt a u s) := by
  unfold execAdditiveLostHalt
  split
  · exact .next law
  · exact .event law fun _ => State.haltTaken_headerLaw law a (.additiveLost u) fun _ => rfl

theorem execHoldTimerExpiry_headerLaw (law : s.headerLaw) (a : Arm) : HeaderLawAfter (execHoldTimerExpiry a s) := by
  refine .event law fun due => State.holdExpires_headerLaw law ?_
  exact Header.holds_of_mem ((s.header.holdDue_eq_true a).1 due)

theorem execStrokeTimeout_headerLaw (law : s.headerLaw) (u : UnitNo) : HeaderLawAfter (execStrokeTimeout u s) := by
  unfold execStrokeTimeout
  dsimp only
  split
  · exact .event law fun _ => State.headerLaw_of_kept law (.strokeFailed s u _)
  · exact .next law

theorem execStopInputAcceptedEdge_headerLaw (law : s.headerLaw) (i : StopNo) :
    HeaderLawAfter (execStopInputAcceptedEdge i s) := by
  have edge : s.FlowKept (s.modStop i fun y => { y with accepted := y.presented, test := none }) := .of_arms rfl rfl
  unfold execStopInputAcceptedEdge
  dsimp only
  split
  · split
    · exact .next (State.headerLaw_of_kept law (edge.trans (.setLatch _ _)))
    · exact .next (State.headerLaw_of_kept law edge)
  · exact .next law

theorem execCharacterReceived_headerLaw (law : s.headerLaw) (l : Line) (data : Byte) (marker stopHigh : Bool) :
    HeaderLawAfter (execCharacterReceived l data marker stopHigh s) := by
  cases l with
  | supervisor => exact .next (State.headerLaw_of_kept law (.receiveSupervisor s data marker stopHigh))
  | arm n => exact .next (State.headerLaw_of_kept law (.modLine s (.arm n) _))

theorem execTelegramReceived_headerLaw (law : s.headerLaw) (l : Line) : HeaderLawAfter (execTelegramReceived l s) := by
  unfold execTelegramReceived
  split
  · exact .next law
  · next rest _ =>
    have taken := State.FlowKept.modLine s l fun y => { y with received := rest }
    dsimp only
    split
    · exact .next (State.headerLaw_of_kept law (taken.trans (.modLine _ l _)))
    · exact .next (State.headerLaw_of_kept law (taken.trans (.checkTelegram _ l _)))

theorem execReplySent_headerLaw (law : s.headerLaw) (l : Line) : HeaderLawAfter (execReplySent l s) := by
  have started := State.headerLaw_of_kept law (.replyStart s)
  unfold execReplySent
  split
  · cases l with
    | supervisor => exact .next (State.replySent_headerLaw started .supervisor)
    | arm n => exact .next (State.replySent_headerLaw law (.arm n))
  · exact .next law

/-! #### Every command -/

/-- The law is kept by every command. Only a hand-off from the completion wait list leans on the Record Queue's law: by it the
arm that becomes IDLE was in COMPLETE, and so not in the header. -/
theorem exec_headerLaw (law : s.headerLaw) (records : s.recordLaw) (c : Instr) : HeaderLawAfter (exec c s) := by
  cases c with
  | meterLevelChange a m high => exact execMeterLevelChange_headerLaw law a m high
  | meterPulseAcceptance a m => exact .event law fun _ => State.pulse_headerLaw law a m
  | capExpiry a m => exact .event law fun _ => State.headerLaw_of_kept law (.modMeter s a m _)
  | idleExpiry a m => exact .event law fun _ => State.headerLaw_of_kept law (.modMeter s a m _)
  | meterAcceptedFallingEdge a m => exact .event law fun _ => State.headerLaw_of_kept law (.modMeter s a m _)
  | setMeters arm kb ke fb fe mb me => exact .requestKeeps law (.setMeters s arm kb ke fb fe mb me)
  | readMeters arm => exact .requestKeeps law (.readMeters s arm)
  | scanConversionComplete code =>
    exact .event law fun _ => State.headerLaw_of_kept (State.takeCode_headerLaw law code.toNat) (.of_arms rfl rfl)
  | readScan => exact .requestReads law rfl
  | defineRecipe f => exact .requestKeeps law (.defineRecipe s f)
  | withdrawRecipe entry => exact .requestKeeps law (.withdrawRecipe s entry)
  | readRecipe entry => exact .requestReads law (s.readRecipe_state entry)
  | setArmService arm service => exact .requestKeeps law (.setArmService s arm service)
  | authorize n code preset bill => exact .requestKeeps law (.authorize s n code preset bill)
  | pause n => exact .request law (State.pause_headerLaw law n)
  | resume n => exact .request law (State.resume_headerLaw law n)
  | endLoad n => exact .request law (State.endLoad_headerLaw law n)
  | abortLoad arm number => exact .request law (State.abortLoad_headerLaw law arm number)
  | noFlowExpiry n => exact execNoFlowExpiry_headerLaw law n
  | linkSilenceExpiry n =>
    have stopped : (s.modArm n fun c => { c with linkSilence := .stopped }).headerLaw :=
      State.headerLaw_of_kept law (.modArm s n fun _ => rfl)
    exact .event law fun _ => State.halt_headerLaw stopped n .linkSilent
  | authorizationWindowExpiry n => exact execAuthorizationWindowExpiry_headerLaw law n
  | settleExpiry n =>
    have expired : s.FlowKept (s.modArm n fun c => { c with settle := .expired }) := .modArm s n fun _ => rfl
    exact .event law fun _ => State.headerLaw_of_kept law (expired.trans (.examine _ n))
  | setStation nf ls w st al => exact .requestKeeps law (.of_arms rfl rfl)
  | loadStatus n => exact .requestReads law (s.loadStatus_state n)
  | readLoad arm => exact .requestReads law (s.readLoad_state arm)
  | lastSummaryArm n => exact .requestReads law (s.lastSummary_state n)
  | lastSummarySupervisor arm => exact .requestReads law (s.lastSummaryOf_state arm)
  | holdTimerExpiry n => exact execHoldTimerExpiry_headerLaw law n
  | ethanolFlowTimerExpiry n => exact .event law fun _ => State.halt_headerLaw law n _
  | setHeader slots hold flow alpha threshold =>
    exact .request law (State.setHeader_headerLaw law slots hold flow alpha threshold)
  | readHeader => exact .requestReads law rfl
  | unitSettleExpiry u => exact .event law fun _ => State.headerLaw_of_kept law (.modUnit s u _)
  | strokeConfirmLevelChange u high => exact .next (State.headerLaw_of_kept law (.modUnit s u _))
  | strokeConfirmation u =>
    exact .event law fun _ => State.headerLaw_of_kept law ((State.FlowKept.modUnit s u _).trans (.confirmation _ u))
  | confirmAcceptedFallingEdge u => exact .event law fun _ => State.headerLaw_of_kept law (.modUnit s u _)
  | strokeTimeout u => exact execStrokeTimeout_headerLaw law u
  | additiveLostHalt n u => exact execAdditiveLostHalt_headerLaw law n u
  | setUnit unit shot low timeout settle => exact .requestKeeps law (.setUnit s unit shot low timeout settle)
  | setUnitService unit service => exact .requestKeeps law (.setUnitService s unit service)
  | refillUnit unit volume => exact .requestKeeps law (.refillUnit s unit volume)
  | clearUnit unit => exact .requestKeeps law (.clearUnit s unit)
  | readUnit unit => exact .requestReads law (s.readUnit_state unit)
  | readRecord => exact .requestReads law s.readRecord_state
  | removeRecord number => exact .requestKeeps law (.removeRecord records number)
  | waitListHandOff => exact .next (State.headerLaw_of_kept law (.waitHandOff (State.waiting_complete records)))
  | ageTimerExpiry => exact .event law fun _ => State.headerLaw_of_kept law (.of_arms rfl rfl)
  | setRecordNotice trigger age => exact .requestKeeps law (.of_arms rfl rfl)
  | stopInputLevelChange i high => exact .next (State.headerLaw_of_kept law (.of_arms rfl rfl))
  | stopInputAcceptedEdge i => exact execStopInputAcceptedEdge_headerLaw law i
  | terminalStopHalt n => exact execTerminalStopHalt_headerLaw law n
  | setStopInputs e0 e1 e2 e3 => exact .requestKeeps law (.setStopInputs s e0 e1 e2 e3)
  | terminalStop => exact .requestKeeps law (.setLatch s .supervisor)
  | terminalResume => exact .request law (State.terminalResume_headerLaw law)
  | characterReceived l data marker stopHigh => exact execCharacterReceived_headerLaw law l data marker stopHigh
  | characterGapTimeout l => exact .event law fun _ => State.headerLaw_of_kept law (.modLine s l _)
  | telegramReceived l => exact execTelegramReceived_headerLaw law l
  | replyStart => exact .next (State.headerLaw_of_kept law (.replyStart s))
  | replySent l => exact execReplySent_headerLaw law l
  | powerOnReset pins => exact .next (State.headerLaw_of_reset rfl)
  | readLines => exact .requestKeeps law (.of_arms rfl rfl)
  | readNoticeSupervisor => exact .requestKeeps law (.readNoticeSupervisor s)
  | readNoticeArm n => exact .requestKeeps law (.readNoticeArm s n)
  | stationClockAdvance => exact .event law fun _ => State.headerLaw_of_kept law (.of_arms rfl rfl)
  | setClock count => exact .requestKeeps law (.of_arms rfl rfl)
  | readStation => exact .requestReads law rfl
  | restart force => exact .requestReads law (s.restartAnswer_state force)

theorem step_headerLaw (law : s.headerLaw) (records : s.recordLaw) : HeaderLawAfter (step s) := by
  unfold step
  split
  · exact .next (State.tick_headerLaw law)
  · next c rest _ =>
    have queued : State.headerLaw { s with pending := rest } := law
    exact exec_headerLaw queued records c

end Sys2Proof.Machine

namespace Sys2Proof.Proofs

open Sys2Proof.Machine

/-- Settles O4: a step is a tick or a command, and each keeps the Header Arbiter's law. -/
theorem headerLawKept : Obligations.HeaderLawKept := by
  unfold Obligations.HeaderLawKept
  intro s t law records stepped
  exact step_headerLaw law records t stepped

end Sys2Proof.Proofs
end

section
/-! The expiries of a holder's two timers (R118 to R121). -/

namespace Sys2Proof.Machine

variable {s t : State} {a b : Arm} {r : LoadRecord}

/-! ### The entry into HALTED, in the statements' terms -/

/-- The grants of R115 with their gates written out. -/
theorem State.ite_gatesOpen {α : Type} (s : State) (x y : α) :
    (if s.gatesOpen then x else y) = if s.scan.pressure = .normal ∧ s.stop.latch = none then x else y :=
  if_congr s.gatesOpen_iff rfl rfl

theorem State.grants_eq (s : State) : s.grants = { s with
    header := if s.scan.pressure = .normal ∧ s.stop.latch = none then s.header.grantAll else s.header } := by
  rw [State.grants, State.ite_gatesOpen]
  split
  · rfl
  · rfl

theorem State.leaveHeader_header_eq_headerLeft (s : State) (a : Arm) : (s.leaveHeader a).header = s.headerLeft a := by
  rw [State.leaveHeader_header, State.ite_gatesOpen]
  rfl

/-- Bringing the restrict state to `on` raises RESTRICT_CHANGED on the arm's own line where it was not `on` (R84). -/
theorem State.setRestrict_armLines (load : s.record a = some r) (on : Bool) :
    (s.setRestrict a on).armLines =
      s.armLines.upd a fun y => { y with notices := restrictRaised r.acc.restrictOn on y.notices } := by
  refine Bank.ext_get fun b => ?_
  rw [State.setRestrict_armLines_get, load, Bank.get_upd]
  by_cases own : b = a
  · subst own
    by_cases same : r.acc.restrictOn = on
    · simp [restrictRaised, same]
    · simp [restrictRaised, same]
  · simp [own]

theorem State.enterHalted_armLines (load : s.record a = some r) (why : HaltReason) :
    (s.enterHalted a why).armLines = s.armLines.upd a fun y => { y with
      notices := raiseIn ArmNotice.key .halted (some (haltCode why)) (restrictRaised r.acc.restrictOn false y.notices) } := by
  have halted : ((s.modRecord a fun r => { r with phase := .halted, haltReason := some (r.haltReason.getD why) }).modArm a
      fun x => { x with noFlow := .stopped, linkSilence := .stopped, window := .stopped }).record a =
      some { r with phase := .halted, haltReason := some (r.haltReason.getD why) } := by
    rw [State.record_eq_some] at load ⊢
    simp [load, Occupancy.mapRecord]
  simp only [State.enterHalted, State.raiseSup_armLines, State.raiseArm_armLines, State.leaveQueues_armLines,
    State.leaveHeader_frame, State.setRestrict_armLines halted, State.modArm_armLines, State.modRecord_armLines,
    Bank.upd_upd]

theorem State.enterHalted_units (s : State) (a : Arm) (why : HaltReason) : (s.enterHalted a why).units = s.queuesLeft a :=
  Bank.ext_get fun u => by simp [State.enterHalted_units_get, State.queuesLeft]

/-- The Arm Controllers after the first halt of a load. -/
theorem State.enterHalted_arms_eq (load : s.record a = some r) (first : r.haltReason = none) (why : HaltReason) :
    (s.enterHalted a why).arms = (s.haltedBy a r why).arms := by
  rw [State.enterHalted_arms]
  dsimp only [State.haltedBy]
  refine Bank.upd_congr _ _ ?_
  rw [State.record_eq_some] at load
  simp [ArmCtl.mapRecord, load, Occupancy.mapRecord, first, Accounts.closedIf_eq, State.closedLeft]

/-- The first halt of a load is all of R79 and nothing else. -/
theorem State.enterHalted_eq_haltedBy (load : s.record a = some r) (first : r.haltReason = none) (why : HaltReason) :
    s.enterHalted a why = s.haltedBy a r why := by
  have header := (s.enterHalted_header a why).trans (s.leaveHeader_header_eq_headerLeft a)
  have arms := State.enterHalted_arms_eq load first why
  have armLines := State.enterHalted_armLines load why
  refine State.eq_of_fields ?_ ?_ ?_ ?_ ?_ arms ?_ header (s.enterHalted_units a why) ?_ ?_
    (s.enterHalted_supervisor a why) armLines ?_ ?_ ?_ ?_ ?_
  all_goals simp [State.haltedBy]

/-! ### The ethanol-flow timer -/

theorem exec_ethanolFlowTimerExpiry_of_running (running : ∀ x ∈ s.header.holders, x.arm = a → x.flow ≠ 0) :
    exec (.ethanolFlowTimerExpiry a) s = .next s := by
  refine if_neg fun due => ?_
  obtain ⟨x, mem, arm, zero⟩ := (s.header.flowDue_eq_true a).1 due
  exact running x mem arm zero

/-- A holder's load is in FLOWING (R110), so the expiry halts it. -/
theorem exec_ethanolFlowTimerExpiry_of_due (law : s.headerLaw) (holds : s.header.holds a = true)
    (due : ∃ x ∈ s.header.holders, x.arm = a ∧ x.flow = 0) (load : s.record a = some r) (first : r.haltReason = none) :
    exec (.ethanolFlowTimerExpiry a) s = .next (s.haltedBy a r .ethanolNoFlow) := by
  obtain ⟨-, -, -, -, flowing⟩ := law
  have haltable : r.phase.haltable = true := by
    have phase := flowing a (.inl holds)
    simp only [State.phase, load, Option.map_some, Option.some.injEq] at phase
    rw [phase]; rfl
  calc exec (.ethanolFlowTimerExpiry a) s
      = .next (s.halt a .ethanolNoFlow) := if_pos ((s.header.flowDue_eq_true a).2 due)
    _ = .next (s.enterHalted a .ethanolNoFlow) := by rw [State.halt_of_haltable load haltable]
    _ = .next (s.haltedBy a r .ethanolNoFlow) := by rw [State.enterHalted_eq_haltedBy load first]

/-- An arm of a lawful header that leaves it stands NONE, whether it held, waited or did neither. -/
theorem State.headerLeft_none (law : s.headerLaw) (a : Arm) :
    (s.headerLeft a).holds a = false ∧ (s.headerLeft a).waits a = false := by
  obtain ⟨-, -, -, apart, -⟩ := law
  rw [← State.leaveHeader_header_eq_headerLeft]
  exact s.leaveHeader_none a (apart a)

theorem State.headerLeft_of_holds (holds : s.header.holds a = true) :
    s.headerLeft a = (let h : Header := { s.header with holders := s.header.holders.filter fun x => x.arm ≠ a }
      if s.scan.pressure = .normal ∧ s.stop.latch = none then h.grantAll else h) :=
  if_pos holds

theorem State.haltedBy_notice (s : State) (a : Arm) (r : LoadRecord) (why : HaltReason) :
    ((s.haltedBy a r why).armLines.get a).notices.any (fun p => decide (p.1 = .halted)) = true := by
  obtain ⟨p, mem, kind⟩ := raiseIn_mem ArmNotice.key ArmNotice.key_injective .halted (some (haltCode why))
    (restrictRaised r.acc.restrictOn false (s.armLines.get a).notices)
  refine List.any_eq_true.2 ⟨p, ?_, decide_eq_true kind⟩
  simpa [State.haltedBy] using mem

theorem State.haltedBy_record (s : State) (a : Arm) (r : LoadRecord) (why : HaltReason) :
    (s.haltedBy a r why).record a = some { r with
      phase := .halted, haltReason := some why
      acc := { r.acc with restrictOn := false, closedValve := s.closedLeft a r } } := by
  simp [State.record, State.haltedBy, Occupancy.record]

/-! ### The hold timer -/

theorem exec_holdTimerExpiry_of_running (running : ∀ x ∈ s.header.holders, x.arm = a → x.hold ≠ 0) :
    exec (.holdTimerExpiry a) s = .next s := by
  refine if_neg fun due => ?_
  obtain ⟨x, mem, arm, zero⟩ := (s.header.holdDue_eq_true a).1 due
  exact running x mem arm zero

theorem exec_holdTimerExpiry_of_due (due : ∃ x ∈ s.header.holders, x.arm = a ∧ x.hold = 0) :
    exec (.holdTimerExpiry a) s = .next (s.holdExpires a) :=
  if_pos ((s.header.holdDue_eq_true a).2 due)

/-- With nobody waiting the hold timer starts again (R119). -/
theorem State.holdExpires_of_noWaiter (empty : s.header.wait = []) :
    s.holdExpires a = { s with header := { s.header with
      holders := s.header.holders.map fun x =>
        if x.arm = a then { x with hold := s.header.hold * 100000 } else x } } :=
  if_pos empty

/-- The header once a holder was released whose load is `r`: it rejoins the tail where it owes the ethanol step (R118). -/
def Header.yield (h : Header) (a : Arm) (r : LoadRecord) : Header :=
  if (r.snap.step : Int) ≤ r.acc.owed then (h.release a).join a else h.release a

theorem Header.yield_eq (h : Header) (a : Arm) (r : LoadRecord) : h.yield a r = { h with
    holders := h.holders.filter fun x => x.arm ≠ a
    wait := if (r.snap.step : Int) ≤ r.acc.owed then h.wait ++ [a] else h.wait } := by
  unfold Header.yield
  split
  · rfl
  · rfl

theorem State.releaseHolder_arms_of_load (load : s.record a = some r) :
    (s.releaseHolder a).arms =
      s.arms.upd a fun c => { c with occ := .loaded { r with acc := { r.acc with closedValve := 0 } } } := by
  rw [State.record_eq_some] at load
  refine Bank.upd_congr _ _ ?_
  simp [ArmCtl.mapRecord, load, Occupancy.mapRecord]

/-- With arms waiting the holder is released, rejoins if it owes the step, and the grants are made (R118). -/
theorem State.holdExpires_of_waiter (waiter : s.header.wait ≠ []) (load : s.record a = some r) :
    s.holdExpires a = State.grants { s with
      header := s.header.yield a r
      arms := s.arms.upd a fun c => { c with occ := .loaded { r with acc := { r.acc with closedValve := 0 } } } } := by
  rw [← State.releaseHolder_arms_of_load load]
  unfold State.holdExpires Header.yield
  rw [if_neg waiter, load]
  by_cases owes : (r.snap.step : Int) ≤ r.acc.owed
  · simp only [owes, decide_true, if_true]
    rfl
  · simp only [owes, decide_false, Bool.false_eq_true, if_false]
    rfl

end Sys2Proof.Machine

namespace Sys2Proof.Proofs

open Sys2Proof.Machine

/-- Settles O41: a holder is in FLOWING, so its load is halted as R79 has it, and `State.haltedBy` says the rest. -/
theorem ethanolFlowTimerExpires : Obligations.EthanolFlowTimerExpires := by
  unfold Obligations.EthanolFlowTimerExpires
  refine fun s a r => ⟨exec_ethanolFlowTimerExpiry_of_running, fun law due load first => ?_⟩
  have holds : s.header.holds a = true := Header.holds_of_mem due
  have halted := exec_ethanolFlowTimerExpiry_of_due law holds due load first
  obtain ⟨notHolding, notWaiting⟩ := State.headerLeft_none law a
  refine ⟨halted, s.haltedBy a r .ethanolNoFlow, _, halted, s.haltedBy_record a r .ethanolNoFlow, rfl, rfl, if_pos holds, rfl,
    notHolding, notWaiting, State.headerLeft_of_holds holds, fun u => Bank.get_tab _ u, s.haltedBy_notice a r .ethanolNoFlow,
    rfl, rfl, fun b other => Bank.get_upd_of_ne _ _ other⟩

/-- Settles O40: without a waiter the timer starts again, and with one the holder yields its slot. -/
theorem holdTimerExpires : Obligations.HoldTimerExpires := by
  unfold Obligations.HoldTimerExpires
  refine fun s a => ⟨exec_holdTimerExpiry_of_running, fun due => ⟨fun empty => ?_, fun r waiter load => ?_⟩⟩
  · rw [exec_holdTimerExpiry_of_due due, State.holdExpires_of_noWaiter empty]
  · rw [exec_holdTimerExpiry_of_due due, State.holdExpires_of_waiter waiter load, State.grants_eq, Header.yield_eq]

end Sys2Proof.Proofs
end

section
/-! The proof of the statement about SET RECORD NOTICE (R168). -/

namespace Sys2Proof.Machine

variable {s : State} {trigger age : Nat}

/-- The trigger level looked for from 16 downward, as the statement does; the model looks from 1 upward. -/
theorem triggerTaken_eq (n : Nat) :
    triggerTaken n = if 16 ≤ n then 16 else if 8 ≤ n then 8 else if 4 ≤ n then 4 else 1 := by
  unfold triggerTaken
  split_ifs <;> omega

/-- A request with two values is answered ACCEPTED exactly where neither was changed. -/
theorem adjustedIf_decide_not_or (p q : Prop) [Decidable p] [Decidable q] :
    adjustedIf (decide (¬p) || decide (¬q)) = if p ∧ q then .accepted else .adjusted := by
  have changed : (decide (¬p) || decide (¬q)) = decide ¬(p ∧ q) := by
    rw [← Bool.decide_or, decide_eq_decide, Decidable.not_and_iff_not_or_not]
  rw [changed, adjustedIf_decide_not]

theorem State.setRecordNotice_code (s : State) (trigger age : Nat) :
    (s.setRecordNotice trigger age).code =
      if triggerTaken trigger = trigger ∧ clamp 1 255 age = age then .accepted else .adjusted :=
  adjustedIf_decide_not_or _ _

/-- A waiting SET RECORD NOTICE takes its two settings and is answered by the code and both as taken. -/
theorem exec_setRecordNotice_of_awaits (h : s.awaits .supervisor (.setRecordNotice trigger age)) :
    exec (.setRecordNotice trigger age) s =
      .next (State.answered
        { s with records := { s.records with trigger := triggerTaken trigger, ageTimeout := clamp 1 255 age } }
        .supervisor (.setRecordNotice trigger age) 62 (s.setRecordNotice trigger age).code
        (u8 (triggerTaken trigger) ++ u8 (clamp 1 255 age))) :=
  congrArg Host.Outcome.next (State.serve_answered h rfl)

/-- A broadcast SET RECORD NOTICE takes its two settings and gets no reply. -/
theorem exec_setRecordNotice_of_awaitsBroadcast (h : s.awaitsBroadcast (.setRecordNotice trigger age)) :
    exec (.setRecordNotice trigger age) s =
      .next (State.emptied
        { s with records := { s.records with trigger := triggerTaken trigger, ageTimeout := clamp 1 255 age } }
        .supervisor) :=
  congrArg Host.Outcome.next (State.serve_broadcast h)

end Sys2Proof.Machine

namespace Sys2Proof.Proofs

open Sys2Proof.Machine

/-- Settles O50: the request is served like any other of the supervisor line, and the two settings it takes are
`triggerTaken` and a clamp. -/
theorem setRecordNoticeRounds : Obligations.SetRecordNoticeRounds := by
  unfold Obligations.SetRecordNoticeRounds
  refine ⟨fun s trigger age => ⟨fun addressed => ?_, fun broadcast => ?_⟩, fun p => ⟨rfl, rfl⟩⟩
  · have answered := exec_setRecordNotice_of_awaits addressed
    rw [State.setRecordNotice_code, triggerTaken_eq] at answered
    exact answered
  · have emptied := exec_setRecordNotice_of_awaitsBroadcast broadcast
    rw [triggerTaken_eq] at emptied
    exact emptied

end Sys2Proof.Proofs
end

section
/-! The setting of the stop latch (R172, R174, R176), and the proof of the statement about TERMINAL STOP (R173). -/

namespace Sys2Proof.Machine

variable {s : State} {h : LatchHold}

/-- In service is any state but OUT_OF_SERVICE (R176). -/
theorem Occupancy.ite_inService {α : Type} (o : Occupancy) (x y : α) :
    (if o.inService then x else y) = if o = .outOfService then y else x := by
  cases o with
  | outOfService => rfl
  | _ => rfl

@[simp] theorem State.stopNotices_armLines_get (s : State) (a : Arm) :
    s.stopNotices.armLines.get a = if (s.arms.get a).occ = .outOfService then s.armLines.get a
      else { s.armLines.get a with
        notices := raiseIn ArmNotice.key .terminalStopChanged none (s.armLines.get a).notices } :=
  (Bank.get_tab _ a).trans (Occupancy.ite_inService ..)

/-! ### The setting of the latch -/

/-- A latch that is SET keeps its cause and its set time (R172). -/
theorem State.setLatch_of_set (latch : s.stop.latch = some h) (c : StopCause) : s.setLatch c = s :=
  if_pos (by rw [latch]; rfl)

/-- A latch that is CLEAR sets, the halt is handed on, and the stop notices are raised (R172, R174, R176). -/
theorem State.setLatch_of_clear (clear : s.stop.latch = none) (c : StopCause) :
    s.setLatch c = State.stopNotices { s with
      stop := { s.stop with latch := some { cause := c, time := s.clock } }
      arms := Bank.tab fun a => (s.arms.get a).mapRecord LoadRecord.handStop } :=
  if_neg (by rw [clear]; exact Bool.false_ne_true)

theorem State.setLatch_stop (clear : s.stop.latch = none) (c : StopCause) :
    (s.setLatch c).stop = { s.stop with latch := some { cause := c, time := s.clock } } := by
  rw [State.setLatch_of_clear clear, State.stopNotices_stop]

theorem State.setLatch_supervisor (clear : s.stop.latch = none) (c : StopCause) :
    (s.setLatch c).supervisor =
      { s.supervisor with notices := raiseIn SupNotice.key .stopChanged none s.supervisor.notices } := by
  rw [State.setLatch_of_clear clear, State.stopNotices_supervisor]

theorem State.setLatch_arms_get (clear : s.stop.latch = none) (c : StopCause) (a : Arm) :
    (s.setLatch c).arms.get a = (s.arms.get a).mapRecord LoadRecord.handStop := by
  rw [State.setLatch_of_clear clear, State.stopNotices_arms, Bank.get_tab]

/-- A handed halt takes no arm out of service, so the notice goes to the arms that were in service before the setting. -/
theorem State.setLatch_armLines_get (clear : s.stop.latch = none) (c : StopCause) (a : Arm) :
    (s.setLatch c).armLines.get a = if (s.arms.get a).occ = .outOfService then s.armLines.get a
      else { s.armLines.get a with
        notices := raiseIn ArmNotice.key .terminalStopChanged none (s.armLines.get a).notices } := by
  have service : ((s.arms.get a).mapRecord LoadRecord.handStop).occ = .outOfService ↔
      (s.arms.get a).occ = .outOfService := by
    simp only [ArmCtl.mapRecord]
    cases (s.arms.get a).occ with
    | loaded r => simp [Occupancy.mapRecord]
    | _ => rfl
  rw [State.setLatch_of_clear clear, State.stopNotices_armLines_get, Bank.get_tab]
  exact if_congr service rfl rfl

/-- Whatever the latch, a setting reaches the latch, the loads and the notices alone. -/
theorem State.setLatch_eq_with (s : State) (c : StopCause) : s.setLatch c = { s with
    stop := (s.setLatch c).stop, arms := (s.setLatch c).arms
    supervisor := (s.setLatch c).supervisor, armLines := (s.setLatch c).armLines } := by
  unfold State.setLatch
  split
  · rfl
  · rfl

/-! ### TERMINAL STOP -/

/-- The fields of a TERMINAL STOP's reply, from the latch it leaves SET (R173). -/
theorem State.terminalStop_fields (latch : (s.setLatch .supervisor).stop.latch = some h) :
    s.terminalStop.fields = u8 1 ++ u8 (stopCauseCode h.cause) ++ u32 h.time.toNat := by
  simp only [State.terminalStop, latch]
  rfl

/-- A waiting TERMINAL STOP sets the latch and is answered with the latch it leaves SET. -/
theorem exec_terminalStop_of_awaits (waits : s.awaits .supervisor .terminalStop)
    (latch : (s.setLatch .supervisor).stop.latch = some h) :
    exec .terminalStop s = .next ((s.setLatch .supervisor).answered .supervisor .terminalStop 71 .accepted
      (u8 1 ++ u8 (stopCauseCode h.cause) ++ u32 h.time.toNat)) := by
  rw [← State.terminalStop_fields latch]
  exact congrArg Host.Outcome.next (State.serve_answered waits rfl)

/-- A broadcast TERMINAL STOP sets the latch and gets no reply. -/
theorem exec_terminalStop_of_awaitsBroadcast (waits : s.awaitsBroadcast .terminalStop) :
    exec .terminalStop s = .next ((s.setLatch .supervisor).emptied .supervisor) :=
  congrArg Host.Outcome.next (State.serve_broadcast waits)

end Sys2Proof.Machine

namespace Sys2Proof.Proofs

open Sys2Proof.Machine

/-- Settles O53: addressed or broadcast, the request's effect is `State.setLatch`, which leaves a SET latch as it is and sets
a CLEAR one at the clock's count. -/
theorem terminalStopSetsTheLatch : Obligations.TerminalStopSetsTheLatch := by
  unfold Obligations.TerminalStopSetsTheLatch
  refine fun s => ⟨fun h latch => ?set, fun clear => ⟨s.setLatch .supervisor, ?clear⟩⟩
  case set =>
    have same := State.setLatch_of_set latch .supervisor
    have answered := exec_terminalStop_of_awaits (s := s) (h := h)
    have emptied := exec_terminalStop_of_awaitsBroadcast (s := s)
    rw [same] at answered emptied
    exact ⟨fun addressed => answered addressed latch, emptied⟩
  case clear =>
    have stop := State.setLatch_stop clear .supervisor
    exact ⟨fun addressed => exec_terminalStop_of_awaits addressed (congrArg StopLatch.latch stop),
      exec_terminalStop_of_awaitsBroadcast, stop, State.setLatch_arms_get clear .supervisor,
      State.setLatch_supervisor clear .supervisor, State.setLatch_armLines_get clear .supervisor,
      s.setLatch_eq_with .supervisor⟩

end Sys2Proof.Proofs
end


section
/-! The laws of the station after a reset, and the statements about the step itself: each block starts from its after-reset
values, and every command is answered. -/

namespace Sys2Proof.Machine

variable {p : Pins}

/-! ### The laws after a reset -/

theorem State.resetWith_record (p : Pins) (a : Arm) : (State.resetWith p).record a = none := by
  simp [State.record, State.resetWith, ArmCtl.atReset, Occupancy.record]

theorem State.resetWith_phase (p : Pins) (a : Arm) : (State.resetWith p).phase a = none := by
  rw [State.phase, State.resetWith_record]; rfl

theorem State.resetWith_numbersInUse (p : Pins) : (State.resetWith p).numbersInUse = [] := by
  simp only [State.numbersInUse, State.resetWith_record, Option.map_none, List.append_eq_nil_iff]
  exact ⟨List.filterMap_eq_nil_iff.2 fun _ _ => rfl, rfl⟩

theorem State.resetWith_headerLaw (p : Pins) : (State.resetWith p).headerLaw := State.headerLaw_of_reset rfl

theorem State.resetWith_recordLaw (p : Pins) : (State.resetWith p).recordLaw := by
  refine ⟨Nat.zero_le _, fun h => absurd rfl h, List.nodup_nil, fun a => ?_⟩
  rw [State.resetWith_phase]
  exact ⟨fun h => absurd h List.not_mem_nil, fun h => absurd h (by simp)⟩

theorem State.resetWith_ageLaw (p : Pins) : (State.resetWith p).ageLaw :=
  ⟨fun h => absurd h Bool.false_ne_true, fun h => absurd rfl h⟩

theorem State.resetWith_numberLaw (p : Pins) : (State.resetWith p).numberLaw := by
  refine ⟨?_, ?_, le_refl 1, show 1 ≤ 65535 by decide⟩
  · rw [State.resetWith_numbersInUse]; exact List.nodup_nil
  · rw [State.resetWith_numbersInUse]; exact fun n h => absurd h List.not_mem_nil

theorem State.resetWith_units_get (p : Pins) (u : UnitNo) :
    (State.resetWith p).units.get u = AdditiveUnit.atReset (p.confirm.getLsbD u.val) := Bank.get_tab _ u

theorem State.resetWith_shotQueueLaw (p : Pins) : (State.resetWith p).shotQueueLaw := by
  intro u
  rw [State.resetWith_units_get]
  exact ⟨List.nodup_nil, fun a h => absurd h List.not_mem_nil⟩

theorem AdditiveUnit.atReset_lawful (level : Bool) : (AdditiveUnit.atReset level).lawful := by
  simp [AdditiveUnit.lawful, AdditiveUnit.atReset, Timer.runs]

theorem State.resetWith_unitLaw (p : Pins) : (State.resetWith p).unitLaw := fun u => by
  rw [State.resetWith_units_get]; exact AdditiveUnit.atReset_lawful _

/-- Every input is enabled after a reset, so a clear latch says that none is active (R171, R172). -/
theorem State.resetWith_stopLaw (p : Pins) : (State.resetWith p).stopLaw := by
  intro clear
  have quiet : (List.finRange 4).find? (fun i => !p.stop.getLsbD i.val) = none := Option.map_eq_none_iff.1 clear
  rw [List.find?_eq_none] at quiet
  refine List.any_eq_false.2 fun i mem => ?_
  simpa [State.resetWith, StopLatch.atReset, StopInput.active] using quiet i mem

theorem State.resetWith_noticeLaw (p : Pins) : (State.resetWith p).noticeLaw := by
  refine ⟨?_, fun n => ?_⟩
  · simp only [State.resetWith, SupLine.atReset]
    split
    · exact List.pairwise_singleton _ _
    · exact List.Pairwise.nil
  · simp only [State.resetWith, Bank.get_tab]
    exact List.Pairwise.nil

theorem State.resetWith_accountLaw (p : Pins) : (State.resetWith p).accountLaw := by
  refine ⟨fun a => ?_, fun a m => ?_⟩
  · rw [State.resetWith_record]; trivial
  · simp only [State.meter, State.resetWith, Bank.get_tab]
    cases m
    · exact Nat.zero_lt_succ _
    · exact Nat.zero_lt_succ _

theorem State.resetWith_recipes_get (p : Pins) (e : EntryNo) :
    (State.resetWith p).recipes.get e = RecipeEntry.atReset := Bank.get_tab _ e

theorem State.resetWith_codeLaw (p : Pins) : (State.resetWith p).codeLaw := by
  intro i j active
  rw [State.resetWith_recipes_get] at active
  cases active

theorem State.resetWith_referenceLaw (p : Pins) : (State.resetWith p).referenceLaw := by
  intro e
  have armsOn : (State.resetWith p).armsOn e = [] := by
    refine List.filter_eq_nil_iff.2 fun a _ => ?_
    rw [State.resetWith_record]
    exact Bool.false_ne_true
  rw [State.resetWith_recipes_get, armsOn]
  exact ⟨rfl, fun _ => rfl, fun h => absurd h (by decide)⟩

theorem State.resetWith_itemLaw (p : Pins) : (State.resetWith p).itemLaw := by
  refine ⟨fun e => ?_, fun a => ?_⟩
  · rw [State.resetWith_recipes_get]; exact List.nodup_nil
  · rw [State.resetWith_record]; trivial

theorem State.resetWith_timerLaw (p : Pins) : (State.resetWith p).timerLaw := by
  intro a
  rw [State.resetWith_phase]
  simp [State.resetWith, ArmCtl.atReset, Timer.runs]

theorem State.resetWith_restrictLaw (p : Pins) : (State.resetWith p).restrictLaw := fun a => by
  rw [State.resetWith_record]; trivial

theorem State.resetWith_reasonLaw (p : Pins) : (State.resetWith p).reasonLaw := fun a => by
  rw [State.resetWith_record]; trivial

theorem State.resetWith_counterLaw (p : Pins) : (State.resetWith p).counterLaw :=
  ⟨rfl, fun n => by simp [State.resetWith, ArmLine.atReset, LineState.atReset, LineCounters.zero]⟩

/-! ### Every command is answered -/

/-- The outcome is a next state. -/
def AnswersNext (o : Host.Outcome State Fault Refusal) : Prop := ∃ t : State, o = .next t

theorem AnswersNext.next (t : State) : AnswersNext (.next t) := ⟨t, rfl⟩

/-- A command that has an effect where its condition holds, and none otherwise. -/
theorem AnswersNext.event (c : Prop) [Decidable c] (t u : State) : AnswersNext (if c then .next t else .next u) :=
  iteInduction (fun _ => .next t) fun _ => .next u

theorem exec_answersNext (c : Instr) (s : State) : AnswersNext (exec c s) := by
  cases c with
  | meterLevelChange a m high =>
    exact iteInduction (fun _ => AnswersNext.event (high = true) _ _) fun _ => .next _
  | noFlowExpiry a => exact iteInduction (fun _ => AnswersNext.event (s.phase a = some .flowing) _ _) fun _ => .next _
  | authorizationWindowExpiry a =>
    exact iteInduction (fun _ => AnswersNext.event (s.phase a = some .authorized) _ _) fun _ => .next _
  | strokeTimeout u =>
    change AnswersNext (execStrokeTimeout u s)
    unfold execStrokeTimeout
    dsimp only
    split
    · exact .event _ _ _
    · exact .next s
  | terminalStopHalt a =>
    change AnswersNext (execTerminalStopHalt a s)
    unfold execTerminalStopHalt
    split
    · exact .next s
    · exact .event _ _ _
  | additiveLostHalt a u =>
    change AnswersNext (execAdditiveLostHalt a u s)
    unfold execAdditiveLostHalt
    split
    · exact .next s
    · exact .event _ _ _
  | stopInputAcceptedEdge i =>
    exact iteInduction (fun _ => AnswersNext.event
      ((s.stop.inputs.get i).presented = false ∧ (s.stop.inputs.get i).enabled = true) _ _) fun _ => .next s
  | characterReceived l data marker stopHigh => cases l <;> exact .next _
  | telegramReceived l =>
    change AnswersNext (execTelegramReceived l s)
    unfold execTelegramReceived
    split
    · exact .next s
    · exact .event _ _ _
  | replySent l =>
    change AnswersNext (execReplySent l s)
    unfold execReplySent
    split
    · cases l <;> exact .next _
    · exact .next s
  | meterPulseAcceptance a m => exact .event _ _ _
  | capExpiry a m => exact .event _ _ _
  | idleExpiry a m => exact .event _ _ _
  | meterAcceptedFallingEdge a m => exact .event _ _ _
  | scanConversionComplete code => exact .event _ _ _
  | linkSilenceExpiry a => exact .event _ _ _
  | settleExpiry a => exact .event _ _ _
  | holdTimerExpiry a => exact .event _ _ _
  | ethanolFlowTimerExpiry a => exact .event _ _ _
  | unitSettleExpiry u => exact .event _ _ _
  | strokeConfirmation u => exact .event _ _ _
  | confirmAcceptedFallingEdge u => exact .event _ _ _
  | ageTimerExpiry => exact .event _ _ _
  | characterGapTimeout l => exact .event _ _ _
  | stationClockAdvance => exact .event _ _ _
  | _ => exact .next _

end Sys2Proof.Machine

namespace Sys2Proof.Proofs

open Sys2Proof.Machine

/-- Settles O1: it is the step's own equation for a queue that holds a command. -/
theorem stepTakesTheFrontCommand : Obligations.StepTakesTheFrontCommand := by
  unfold Obligations.StepTakesTheFrontCommand
  exact fun _ _ _ => rfl

/-- Settles O2: each command is an effect, or an effect under a condition. -/
theorem everyCommandAnswersNext : Obligations.EveryCommandAnswersNext := by
  unfold Obligations.EveryCommandAnswersNext
  exact exec_answersNext

/-- Settles O3: each law holds of the after-reset values of its block. -/
theorem lawsHoldAfterReset : Obligations.LawsHoldAfterReset := by
  unfold Obligations.LawsHoldAfterReset
  intro p
  exact ⟨State.resetWith_headerLaw p, State.resetWith_recordLaw p, State.resetWith_ageLaw p, State.resetWith_numberLaw p,
    State.resetWith_shotQueueLaw p, State.resetWith_unitLaw p, State.resetWith_stopLaw p, State.resetWith_noticeLaw p,
    State.resetWith_accountLaw p, State.resetWith_codeLaw p, State.resetWith_referenceLaw p, State.resetWith_itemLaw p,
    State.resetWith_timerLaw p, State.resetWith_restrictLaw p, State.resetWith_reasonLaw p, State.resetWith_counterLaw p⟩

end Sys2Proof.Proofs
end


section
/-! What the loads keep while they carry on: the laws of the arm timers, the restrict states, the halt reasons and the accounts
arm by arm, and the identity of each load in the station's books. Every command but those that open, complete, hand off or
remove a load, and those that define or withdraw a recipe, lets the loads carry on. -/

namespace Sys2Proof.Machine

variable {s t u : State} {a b : Arm} {c d e : ArmCtl} {r q : LoadRecord}

/-! ### The laws of one Arm Controller -/

/-- The accounts of a load, and the delivered volumes and shots of its items, within their bounds (R55 to R57, R141). -/
def LoadRecord.inBounds (r : LoadRecord) : Prop :=
  r.acc.lawful ∧ ∀ i ∈ r.items, i.delivered ≤ 99999999 ∧ i.shots ≤ 65535

/-- The restrict state is ON only in FLOWING and PAUSED (R84). -/
def LoadRecord.restrictOk (r : LoadRecord) : Prop :=
  r.acc.restrictOn = true → r.phase = .flowing ∨ r.phase.isPaused = true

/-- A halt reason stands in HALTED, and none in AUTHORIZED through FLUSH (R74, R79, R95). -/
def LoadRecord.reasonOk (r : LoadRecord) : Prop :=
  (r.phase.haltable = true → r.haltReason = none) ∧ (r.phase = .halted → r.haltReason ≠ none)

/-- The load state of the arm, if it holds a load. -/
def ArmCtl.phase (c : ArmCtl) : Option Phase := c.occ.record.map LoadRecord.phase

/-- The arm's timers run in the load states of R97 to R101. -/
def ArmCtl.timersOk (c : ArmCtl) : Prop :=
  (c.noFlow.runs = true ↔ c.phase = some .flowing) ∧ (c.window.runs = true ↔ c.phase = some .authorized) ∧
  (c.linkSilence.runs = true ↔ c.phase.any Phase.haltable = true) ∧ (c.settle ≠ .stopped ↔ c.phase = some .finishing)

/-- What the station's books name a load by: its number, its recipe entry and its units. -/
def LoadRecord.identity (r : LoadRecord) : Nat × EntryNo × List UnitNo :=
  (r.number, r.snap.entry, r.items.map LoadItem.unit)

theorem State.phase_eq (s : State) (a : Arm) : s.phase a = (s.arms.get a).phase := rfl

/-! ### An Arm Controller that carries on -/

/-- From `c` to `d` the arm keeps its laws and the identity of its load. -/
structure ArmCtl.Keeps (c d : ArmCtl) : Prop where
  timers : c.timersOk → d.timersOk
  restrict : c.occ.record.elim True LoadRecord.restrictOk → d.occ.record.elim True LoadRecord.restrictOk
  reason : c.occ.record.elim True LoadRecord.reasonOk → d.occ.record.elim True LoadRecord.reasonOk
  bounds : c.occ.record.elim True LoadRecord.inBounds → d.occ.record.elim True LoadRecord.inBounds
  identity : d.occ.record.map LoadRecord.identity = c.occ.record.map LoadRecord.identity

/-- The arm keeps its laws, and its load neither enters COMPLETE nor leaves it. -/
structure ArmCtl.CarriesOn (c d : ArmCtl) : Prop where
  keeps : c.Keeps d
  complete : d.phase = some .complete ↔ c.phase = some .complete

theorem ArmCtl.Keeps.refl (c : ArmCtl) : c.Keeps c := ⟨id, id, id, id, rfl⟩

theorem ArmCtl.Keeps.trans (first : c.Keeps d) (second : d.Keeps e) : c.Keeps e :=
  ⟨second.timers ∘ first.timers, second.restrict ∘ first.restrict, second.reason ∘ first.reason,
    second.bounds ∘ first.bounds, second.identity.trans first.identity⟩

theorem ArmCtl.CarriesOn.refl (c : ArmCtl) : c.CarriesOn c := ⟨.refl c, Iff.rfl⟩

theorem ArmCtl.CarriesOn.trans (first : c.CarriesOn d) (second : d.CarriesOn e) : c.CarriesOn e :=
  ⟨first.keeps.trans second.keeps, second.complete.trans first.complete⟩

/-- A change of timers that leaves the arm state keeps all but the timers' law of itself. -/
theorem ArmCtl.CarriesOn.of_occ (occ : d.occ = c.occ) (timers : c.timersOk → d.timersOk) : c.CarriesOn d := by
  refine ⟨⟨timers, ?_, ?_, ?_, ?_⟩, ?_⟩
  case refine_5 => rw [ArmCtl.phase, ArmCtl.phase, occ]
  all_goals rw [occ]
  all_goals exact id

/-- A change of the load record of an arm that holds one. -/
theorem ArmCtl.Keeps.of_loaded (before : c.occ = .loaded r) (after : d.occ = .loaded q)
    (timers : c.timersOk → d.timersOk) (restrict : r.restrictOk → q.restrictOk) (reason : r.reasonOk → q.reasonOk)
    (bounds : r.inBounds → q.inBounds) (identity : q.identity = r.identity) : c.Keeps d := by
  refine ⟨timers, ?_, ?_, ?_, ?_⟩
  all_goals rw [before, after]
  · exact restrict
  · exact reason
  · exact bounds
  · exact congrArg some identity

theorem ArmCtl.phase_of_loaded (loaded : c.occ = .loaded r) : c.phase = some r.phase := by
  rw [ArmCtl.phase, loaded]; rfl

/-- A change of the load record that touches nothing the laws of the arms speak of, but accounts within their bounds. -/
structure LoadRecord.Quiet (r q : LoadRecord) : Prop where
  phase : q.phase = r.phase
  reason : q.haltReason = r.haltReason
  restrict : q.acc.restrictOn = r.acc.restrictOn
  number : q.number = r.number
  snap : q.snap = r.snap
  units : q.items.map LoadItem.unit = r.items.map LoadItem.unit
  bounds : r.inBounds → q.inBounds

theorem LoadRecord.Quiet.identity (quiet : r.Quiet q) : q.identity = r.identity := by
  simp only [LoadRecord.identity, quiet.number, quiet.snap, quiet.units]

theorem ArmCtl.mapRecord_phase {f : LoadRecord → LoadRecord} (c : ArmCtl) (phase : ∀ r : LoadRecord, (f r).phase = r.phase) :
    (c.mapRecord f).phase = c.phase := by
  simp only [ArmCtl.phase, ArmCtl.mapRecord_occ, Occupancy.record_mapRecord, Option.map_map]
  exact congrFun (congrArg Option.map (funext phase)) _

/-- The timers' law depends on the load state and on which timers run. -/
theorem ArmCtl.timersOk_congr (phase : d.phase = c.phase) (noFlow : d.noFlow.runs = c.noFlow.runs)
    (window : d.window.runs = c.window.runs) (linkSilence : d.linkSilence.runs = c.linkSilence.runs)
    (settle : d.settle = .stopped ↔ c.settle = .stopped) : c.timersOk → d.timersOk := by
  simp only [ArmCtl.timersOk, ne_eq, phase, noFlow, window, linkSilence, settle]
  exact id

theorem ArmCtl.CarriesOn.mapRecord {f : LoadRecord → LoadRecord} (c : ArmCtl) (quiet : ∀ r : LoadRecord, r.Quiet (f r)) :
    c.CarriesOn (c.mapRecord f) := by
  cases occ : c.occ with
  | loaded r =>
    have phase := c.mapRecord_phase fun r => (quiet r).phase
    refine ⟨.of_loaded occ (by rw [ArmCtl.mapRecord_occ, occ]; rfl)
      (ArmCtl.timersOk_congr phase rfl rfl rfl Iff.rfl) ?_ ?_ (quiet r).bounds (quiet r).identity, by rw [phase]⟩
    · unfold LoadRecord.restrictOk; rw [(quiet r).phase, (quiet r).restrict]; exact id
    · unfold LoadRecord.reasonOk; rw [(quiet r).phase, (quiet r).reason]; exact id
  | _ =>
    have same : c.mapRecord f = c := by rw [ArmCtl.mapRecord, occ]; cases c; cases occ; rfl
    rw [same]; exact .refl c

/-! ### Changes of load records that touch no law -/

theorem Accounts.lawful_closed {x : Accounts} (law : x.lawful) : Accounts.lawful { x with closedValve := 0 } := by
  obtain ⟨gross, grossMax, std, stdMax, baseRes, ethRes, -⟩ := law
  exact ⟨gross, grossMax, std, stdMax, baseRes, ethRes, Nat.zero_le _⟩

theorem LoadRecord.Quiet.closed (r : LoadRecord) : r.Quiet { r with acc := { r.acc with closedValve := 0 } } :=
  ⟨rfl, rfl, rfl, rfl, rfl, rfl, fun h => ⟨Accounts.lawful_closed h.1, h.2⟩⟩

/-- A change of items that keeps each item's unit and the bounds of its accounts. -/
theorem LoadRecord.Quiet.items (r : LoadRecord) {f : LoadItem → LoadItem} (unit : ∀ i, (f i).unit = i.unit)
    (bounds : ∀ i, i.delivered ≤ 99999999 ∧ i.shots ≤ 65535 → (f i).delivered ≤ 99999999 ∧ (f i).shots ≤ 65535) :
    r.Quiet { r with items := r.items.map f } := by
  refine ⟨rfl, rfl, rfl, rfl, rfl, ?_, fun h => ⟨h.1, fun j hj => ?_⟩⟩
  · rw [List.map_map]; exact List.map_congr_left fun i _ => unit i
  · obtain ⟨i, mem, rfl⟩ := List.mem_map.1 hj
    exact bounds i (h.2 i mem)

theorem LoadRecord.Quiet.modItem (r : LoadRecord) (u : UnitNo) {f : LoadItem → LoadItem} (unit : ∀ i, (f i).unit = i.unit)
    (bounds : ∀ i, i.delivered ≤ 99999999 ∧ i.shots ≤ 65535 → (f i).delivered ≤ 99999999 ∧ (f i).shots ≤ 65535) :
    r.Quiet (r.modItem u f) :=
  .items r (fun i => by split; exacts [unit i, rfl]) fun i h => by split; exacts [bounds i h, h]

theorem LoadRecord.Quiet.mark (r : LoadRecord) (u : UnitNo) (on : Bool) :
    r.Quiet (r.modItem u fun i => { i with finalShot := on }) :=
  .modItem r u (fun _ => rfl) fun _ h => h

theorem LoadRecord.Quiet.trans {r q p : LoadRecord} (first : r.Quiet q) (second : q.Quiet p) : r.Quiet p :=
  ⟨second.phase.trans first.phase, second.reason.trans first.reason, second.restrict.trans first.restrict,
    second.number.trans first.number, second.snap.trans first.snap, second.units.trans first.units,
    second.bounds ∘ first.bounds⟩

theorem LoadRecord.Quiet.refl (r : LoadRecord) : r.Quiet r := ⟨rfl, rfl, rfl, rfl, rfl, rfl, id⟩

theorem LoadRecord.Quiet.loseUnit (r : LoadRecord) (u : UnitNo) : r.Quiet (r.loseUnit u) := by
  have cleared := LoadRecord.Quiet.mark r u false
  have short : LoadRecord.Quiet (r.modItem u fun i => { i with finalShot := false })
      ((r.modItem u fun i => { i with finalShot := false }).modItem u fun j => { j with short := true }) :=
    .modItem _ u (fun _ => rfl) fun _ h => h
  unfold LoadRecord.loseUnit
  split
  · exact cleared
  · split
    · split
      · exact cleared.trans ⟨rfl, rfl, rfl, rfl, rfl, rfl, id⟩
      · exact (cleared.trans short).trans ⟨rfl, rfl, rfl, rfl, rfl, rfl, id⟩
    · exact cleared

theorem LoadRecord.Quiet.handStop (r : LoadRecord) : r.Quiet r.handStop := by
  unfold LoadRecord.handStop
  split
  · exact ⟨rfl, rfl, rfl, rfl, rfl, rfl, id⟩
  · exact .refl r

theorem LoadRecord.Quiet.creditShot (r : LoadRecord) (u : UnitNo) (shot : Nat) : r.Quiet (r.creditShot u shot) := by
  unfold LoadRecord.creditShot
  split
  · exact .modItem r u (fun _ => rfl) fun i _ => ⟨Nat.min_le_left _ _, Nat.min_le_left _ _⟩
  · exact .refl r

/-- The room that R57 leaves keeps a total at its bound. -/
theorem add_roomFor_le {total : Nat} (le : total ≤ 99999999) (carry : Nat) : total + roomFor total carry ≤ 99999999 := by
  unfold roomFor Config.maxVolume; omega

theorem LoadRecord.accountsAfter_lawful (law : r.acc.lawful) (d : Delivery) (x : Readings) :
    (r.accountsAfter d x).lawful := by
  obtain ⟨gross, grossMax, std, stdMax, baseRes, ethRes, closed⟩ := law
  have grossRoom := add_roomFor_le grossMax d.carry
  have stdRoom := add_roomFor_le stdMax (r.stdSum d x / 10000000)
  have residue : r.stdSum d x % 10000000 < 10000000 := Nat.mod_lt _ (by decide)
  have added : r.grossAdded d = roomFor r.acc.totalGross d.carry := rfl
  have addedStd : r.stdAdded d x = roomFor r.acc.totalStd (r.stdSum d x / 10000000) := rfl
  unfold LoadRecord.accountsAfter Accounts.addGross Accounts.addStandard Accounts.addClosed Accounts.lawful
  cases d.meter
  · dsimp only
    rw [if_neg (by simp)]
    dsimp only
    refine ⟨?_, ?_, ?_, ?_, residue, ethRes, closed⟩ <;> omega
  · dsimp only
    split
    · dsimp only
      refine ⟨?_, ?_, ?_, ?_, baseRes, residue, Nat.min_le_left _ _⟩ <;> omega
    · dsimp only
      refine ⟨?_, ?_, ?_, ?_, baseRes, residue, closed⟩ <;> omega

theorem LoadRecord.Quiet.account (r : LoadRecord) (d : Delivery) (x : Readings) : r.Quiet (r.account d x) := by
  obtain ⟨-, -, -, restrict⟩ := r.accountsAfter_totals d x
  refine ⟨rfl, rfl, restrict, rfl, rfl, ?_, fun h => ⟨LoadRecord.accountsAfter_lawful h.1 d x, fun j hj => ?_⟩⟩
  · simp only [LoadRecord.account, List.map_map]; exact List.map_congr_left fun _ _ => rfl
  · obtain ⟨i, mem, rfl⟩ := List.mem_map.1 hj
    exact h.2 i mem

theorem LoadRecord.Quiet.oweEthanol (r : LoadRecord) (factor : Nat) : r.Quiet (r.oweEthanol factor) :=
  ⟨rfl, rfl, rfl, rfl, rfl, rfl, id⟩

end Sys2Proof.Machine
end


section
/-! From arm to station: the laws that hold where every arm carries on, and the operations under which the loads carry on. -/

namespace Sys2Proof.Machine

variable {s t u : State} {a b : Arm} {c d e : ArmCtl} {r q : LoadRecord}

/-! ### The laws of the station, read arm by arm -/

theorem State.timerLaw_iff (s : State) : s.timerLaw ↔ ∀ b, (s.arms.get b).timersOk := Iff.rfl

theorem State.restrictLaw_iff (s : State) :
    s.restrictLaw ↔ ∀ b, (s.arms.get b).occ.record.elim True LoadRecord.restrictOk := Iff.rfl

theorem State.reasonLaw_iff (s : State) :
    s.reasonLaw ↔ ∀ b, (s.arms.get b).occ.record.elim True LoadRecord.reasonOk := Iff.rfl

theorem State.accountLaw_iff (s : State) :
    s.accountLaw ↔ (∀ b, (s.arms.get b).occ.record.elim True LoadRecord.inBounds) ∧
      ∀ (a : Arm) (m : Meter), (s.meter a m).residue < 1000 := Iff.rfl

/-- The load numbers in use, recipe entries and item units, where every arm's load keeps its identity. -/
theorem State.record_identity (h : ∀ b, (s.arms.get b).Keeps (t.arms.get b)) {α : Type} (f : LoadRecord → α)
    (g : Nat × EntryNo × List UnitNo → α) (by_identity : ∀ r : LoadRecord, f r = g r.identity) (b : Arm) :
    (t.record b).map f = (s.record b).map f := by
  have identity := congrArg (Option.map g) (h b).identity
  have fold : f = g ∘ LoadRecord.identity := funext by_identity
  rw [fold, ← Option.map_map, ← Option.map_map]
  exact identity

/-! ### What the station keeps while its loads carry on -/

/-- The laws that the arms, the record queue and the recipe table keep between them, one by one. -/
structure State.BooksKept (s t : State) : Prop where
  number : s.numberLaw → t.numberLaw
  code : s.codeLaw → t.codeLaw
  reference : s.referenceLaw → t.referenceLaw
  item : s.itemLaw → t.itemLaw
  timer : s.timerLaw → t.timerLaw
  restrict : s.restrictLaw → t.restrictLaw
  reason : s.reasonLaw → t.reasonLaw

/-- The accounts' law and the age timer's by themselves, and the others where the record queue is lawful. -/
structure State.LawsKept (s t : State) : Prop where
  account : s.accountLaw → t.accountLaw
  age : s.ageLaw → t.ageLaw
  books : s.recordLaw → t.recordLaw ∧ s.BooksKept t

theorem State.BooksKept.refl (s : State) : s.BooksKept s := ⟨id, id, id, id, id, id, id⟩

theorem State.BooksKept.trans (first : s.BooksKept t) (second : t.BooksKept u) : s.BooksKept u :=
  ⟨second.number ∘ first.number, second.code ∘ first.code, second.reference ∘ first.reference,
    second.item ∘ first.item, second.timer ∘ first.timer, second.restrict ∘ first.restrict,
    second.reason ∘ first.reason⟩

theorem State.LawsKept.refl (s : State) : s.LawsKept s := ⟨id, id, fun law => ⟨law, .refl s⟩⟩

theorem State.LawsKept.trans (first : s.LawsKept t) (second : t.LawsKept u) : s.LawsKept u :=
  ⟨second.account ∘ first.account, second.age ∘ first.age, fun law =>
    have ⟨between, kept⟩ := first.books law
    have ⟨after, keptOn⟩ := second.books between
    ⟨after, kept.trans keptOn⟩⟩

/-- The records in the queue, the load-number counter, whether the age timer runs, and the recipe table are as they were. -/
structure State.BooksSame (s t : State) : Prop where
  records : t.records.records = s.records.records
  number : t.records.nextNumber = s.records.nextNumber
  age : t.records.ageTimer.runs = s.records.ageTimer.runs
  recipes : t.recipes = s.recipes

theorem State.BooksSame.of_eq (records : t.records = s.records) (recipes : t.recipes = s.recipes) : s.BooksSame t :=
  ⟨by rw [records], by rw [records], by rw [records], recipes⟩

theorem State.BooksSame.ageLaw (same : s.BooksSame t) (law : s.ageLaw) : t.ageLaw := by
  unfold State.ageLaw; rw [same.age, same.records]; exact law

theorem State.BooksSame.kept (same : s.BooksSame t) (arms : ∀ b, (s.arms.get b).Keeps (t.arms.get b)) :
    s.BooksKept t := by
  have numbers : t.numbersInUse = s.numbersInUse := by
    have number := State.record_identity arms LoadRecord.number (fun x => x.1) fun _ => rfl
    rw [State.numbersInUse, State.numbersInUse, same.records, funext number]
  have armsOn (n : EntryNo) : t.armsOn n = s.armsOn n := by
    have entry := State.record_identity arms (fun r => r.snap.entry) (fun x => x.2.1) fun _ => rfl
    refine List.filter_congr fun b _ => ?_
    have named (o : Option LoadRecord) : (o.any fun r => decide (r.snap.entry = n)) =
        (o.map fun r => r.snap.entry).any fun e => decide (e = n) := by cases o <;> rfl
    rw [named, named, entry b]
  refine ⟨?_, ?_, ?_, ?_, fun law b => (arms b).timers (law b), fun law b => (arms b).restrict (law b),
    fun law b => (arms b).reason (law b)⟩
  · unfold State.numberLaw; rw [numbers, same.number]; exact id
  · unfold State.codeLaw; rw [same.recipes]; exact id
  · unfold State.referenceLaw; rw [same.recipes]; simp only [armsOn]; exact id
  · rintro ⟨entries, loads⟩
    refine ⟨by rw [same.recipes]; exact entries, fun b => ?_⟩
    have units := State.record_identity arms (fun r => r.items.map LoadItem.unit) (fun x => x.2.2) fun _ => rfl
    have named (o : Option LoadRecord) : (o.elim True fun r => (r.items.map LoadItem.unit).Nodup) ↔
        (o.map fun r => r.items.map LoadItem.unit).elim True List.Nodup := by cases o <;> exact Iff.rfl
    rw [named, units b, ← named]
    exact loads b

/-- The loads carry on: no load is opened, enters COMPLETE, or is handed off, and the books are as they were. -/
structure State.CarriesOn (s t : State) : Prop where
  arms : ∀ b, (s.arms.get b).CarriesOn (t.arms.get b)
  books : s.BooksSame t
  wait : t.records.wait = s.records.wait
  residues : ∀ (a : Arm) (m : Meter), (s.meter a m).residue < 1000 → (t.meter a m).residue < 1000

theorem State.CarriesOn.refl (s : State) : s.CarriesOn s :=
  ⟨fun _ => .refl _, .of_eq rfl rfl, rfl, fun _ _ => id⟩

theorem State.BooksSame.trans (first : s.BooksSame t) (second : t.BooksSame u) : s.BooksSame u :=
  ⟨second.records.trans first.records, second.number.trans first.number, second.age.trans first.age,
    second.recipes.trans first.recipes⟩

theorem State.CarriesOn.trans (first : s.CarriesOn t) (second : t.CarriesOn u) : s.CarriesOn u :=
  ⟨fun b => (first.arms b).trans (second.arms b), first.books.trans second.books,
    second.wait.trans first.wait, fun a m => second.residues a m ∘ first.residues a m⟩

theorem State.CarriesOn.recordLaw (on : s.CarriesOn t) (law : s.recordLaw) : t.recordLaw := by
  unfold State.recordLaw
  rw [on.books.records, on.wait]
  obtain ⟨capacity, full, nodup, waiting⟩ := law
  exact ⟨capacity, full, nodup, fun b => (waiting b).trans (on.arms b).complete.symm⟩

theorem State.CarriesOn.kept (on : s.CarriesOn t) : s.LawsKept t :=
  ⟨fun ⟨bounds, residues⟩ => ⟨fun b => (on.arms b).keeps.bounds (bounds b), fun a m => on.residues a m (residues a m)⟩,
    on.books.ageLaw, fun law => ⟨on.recordLaw law, on.books.kept fun b => (on.arms b).keeps⟩⟩

/-! ### Operations under which the loads carry on -/

/-- A change of the arms alone, among the parts the laws speak of. -/
theorem State.CarriesOn.of_arms (arms : ∀ b, (s.arms.get b).CarriesOn (t.arms.get b)) (records : t.records = s.records)
    (recipes : t.recipes = s.recipes) (meters : t.meters = s.meters) : s.CarriesOn t :=
  ⟨arms, .of_eq records recipes, by rw [records], fun a m => by rw [State.meter, State.meter, meters]; exact id⟩

/-- A change outside the arms, the record queue, the recipe table and the meters. -/
theorem State.CarriesOn.of_same (arms : t.arms = s.arms) (records : t.records = s.records)
    (recipes : t.recipes = s.recipes) (meters : t.meters = s.meters) : s.CarriesOn t :=
  .of_arms (fun b => by rw [arms]; exact .refl _) records recipes meters

theorem ArmCtl.CarriesOn.upd {f : ArmCtl → ArmCtl} (on : (s.arms.get a).CarriesOn (f (s.arms.get a)))
    (arms : t.arms = s.arms.upd a f) (b : Arm) : (s.arms.get b).CarriesOn (t.arms.get b) := by
  rw [arms, Bank.get_upd]
  split
  · next e => rw [e]; exact on
  · exact .refl _

theorem State.CarriesOn.modArm {f : ArmCtl → ArmCtl} (on : (s.arms.get a).CarriesOn (f (s.arms.get a))) :
    s.CarriesOn (s.modArm a f) :=
  .of_arms (ArmCtl.CarriesOn.upd on rfl) rfl rfl rfl

theorem State.CarriesOn.modRecord (s : State) (a : Arm) {f : LoadRecord → LoadRecord}
    (quiet : ∀ r : LoadRecord, r.Quiet (f r)) : s.CarriesOn (s.modRecord a f) :=
  .modArm (.mapRecord _ quiet)

theorem State.CarriesOn.modUnit (s : State) (u : UnitNo) (f : AdditiveUnit → AdditiveUnit) : s.CarriesOn (s.modUnit u f) :=
  .of_same rfl rfl rfl rfl

theorem State.CarriesOn.modLine (s : State) (l : Line) (f : LineState → LineState) : s.CarriesOn (s.modLine l f) := by
  cases l with
  | supervisor => exact .of_same rfl rfl rfl rfl
  | arm n => exact .of_same rfl rfl rfl rfl

/-- A change of a meter input that keeps its residue below a millilitre. -/
theorem State.CarriesOn.modMeter (s : State) (a : Arm) (m : Meter) {f : MeterInput → MeterInput}
    (residue : ∀ x : MeterInput, x.residue < 1000 → (f x).residue < 1000) : s.CarriesOn (s.modMeter a m f) := by
  refine ⟨fun _ => .refl _, .of_eq rfl rfl, rfl, fun b n => ?_⟩
  simp only [State.meter, State.modMeter_meters, Bank.get_upd]
  split
  · next e =>
    subst e
    cases m with
    | base => cases n with
      | base => exact residue _
      | ethanol => exact id
    | ethanol => cases n with
      | base => exact id
      | ethanol => exact residue _
  · exact id

theorem State.CarriesOn.foldl {α : Type} {f : State → α → State} (step : ∀ (s : State) (x : α), s.CarriesOn (f s x))
    (l : List α) (s : State) : s.CarriesOn (l.foldl f s) := by
  induction l generalizing s with
  | nil => exact .refl s
  | cons x l ih => exact (step s x).trans (ih _)

/-! #### The header -/

theorem State.CarriesOn.grants (s : State) : s.CarriesOn s.grants :=
  .of_same (by simp) (by simp) (by simp) (by simp)

theorem State.CarriesOn.withHeader (s : State) (h : Header) : s.CarriesOn { s with header := h } := .of_same rfl rfl rfl rfl

theorem State.CarriesOn.valveCloses (s : State) (a : Arm) : s.CarriesOn (s.valveCloses a) := .modRecord s a .closed

theorem State.CarriesOn.releaseHolder (s : State) (a : Arm) : s.CarriesOn (s.releaseHolder a) :=
  (State.CarriesOn.withHeader s _).trans (.valveCloses _ a)

theorem State.CarriesOn.leaveHeader (s : State) (a : Arm) : s.CarriesOn (s.leaveHeader a) := by
  unfold State.leaveHeader
  split
  · exact (State.CarriesOn.releaseHolder s a).trans (.grants _)
  · split
    · exact .of_same rfl rfl rfl rfl
    · exact .refl s

theorem State.CarriesOn.revokeFrom (s : State) (n : Nat) : s.CarriesOn (s.revokeFrom n) := by
  unfold State.revokeFrom
  exact (State.CarriesOn.withHeader s _).trans (.foldl .valveCloses _ _)

theorem State.CarriesOn.holdExpires (s : State) (a : Arm) : s.CarriesOn (s.holdExpires a) := by
  have released := State.CarriesOn.releaseHolder s a
  unfold State.holdExpires
  split
  · exact .of_same rfl rfl rfl rfl
  · refine State.CarriesOn.trans ?_ (.grants _)
    exact iteInduction (motive := s.CarriesOn) (fun _ => released.trans (.of_same rfl rfl rfl rfl)) fun _ => released

theorem State.CarriesOn.ethanolResult (s : State) (a : Arm) : s.CarriesOn (s.ethanolResult a) := by
  unfold State.ethanolResult
  split
  · exact .refl s
  · split
    · exact .of_same (by simp) (by simp) (by simp) (by simp)
    · split
      · exact .leaveHeader s a
      · exact .refl s

/-! #### The shot queues -/

theorem State.CarriesOn.takeHead (s : State) (u : UnitNo) : s.CarriesOn (s.takeHead u) := by
  refine .of_arms (fun b => ?_) (by simp) (by simp) (by simp)
  rw [State.takeHead_arms_get]
  split
  · exact .mapRecord _ fun r => .mark r u false
  · exact .refl _

theorem State.CarriesOn.enqueue (s : State) (u : UnitNo) (a : Arm) : s.CarriesOn (s.enqueue u a) :=
  (State.CarriesOn.modUnit s u _).trans (.takeHead _ u)

theorem State.CarriesOn.additiveDue (s : State) (u : UnitNo) (a : Arm) : s.CarriesOn (s.additiveDue u a) :=
  iteInduction (motive := s.CarriesOn) (fun _ => .enqueue s u a) fun _ => .refl s

theorem State.CarriesOn.additiveResults (s : State) (a : Arm) : s.CarriesOn (s.additiveResults a) := by
  unfold State.additiveResults
  split
  · exact .refl s
  · exact .foldl (fun s i => iteInduction (motive := s.CarriesOn) (fun _ => .additiveDue s _ a) fun _ => .refl s) _ s

theorem State.CarriesOn.leaveQueues (s : State) (a : Arm) : s.CarriesOn (s.leaveQueues a) := .of_same rfl rfl rfl rfl

theorem State.CarriesOn.finalShots (s : State) (a : Arm) : s.CarriesOn (s.finalShots a) := by
  have shot (s : State) (i : LoadItem) : s.CarriesOn (s.finalShot a i) := by
    have marked := State.CarriesOn.modRecord s a fun r => .mark r i.unit true
    unfold State.finalShot
    dsimp only
    split
    · exact iteInduction (motive := s.CarriesOn) (fun _ => marked) fun _ => marked.trans (.enqueue _ i.unit a)
    · exact .refl s
  unfold State.finalShots
  split
  · exact .refl s
  · exact .foldl shot _ s

theorem State.CarriesOn.clearMarks (s : State) (a : Arm) : s.CarriesOn (s.clearMarks a) :=
  .modRecord s a fun r => .items r (fun _ => rfl) fun _ h => h

theorem State.CarriesOn.evalLow (s : State) (u : UnitNo) : s.CarriesOn (s.evalLow u) :=
  .of_same (by simp) (by simp) (by simp) (by simp)

theorem State.CarriesOn.backToReady (s : State) (u : UnitNo) (a : Arm) : s.CarriesOn (s.backToReady u a) := by
  have ready := State.CarriesOn.modUnit s u fun x => { x with state := .ready }
  unfold State.backToReady
  refine State.CarriesOn.trans ?_ (.takeHead _ u)
  exact iteInduction (motive := s.CarriesOn) (fun _ => ready.trans (.modUnit _ u _)) fun _ => ready

theorem State.CarriesOn.loseUnit (s : State) (u : UnitNo) (st : UnitState) (k : SupNotice) (d : Nat) :
    s.CarriesOn (s.loseUnit u st k d) := by
  refine .of_arms (fun b => ?_) rfl rfl rfl
  simp only [State.loseUnit, State.raiseSup_arms, Bank.get_tab]
  exact .mapRecord _ fun r => .loseUnit r u

/-! #### The stop latch -/

theorem State.CarriesOn.setLatch (s : State) (c : StopCause) : s.CarriesOn (s.setLatch c) := by
  unfold State.setLatch
  split
  · exact .refl s
  · refine .of_arms (fun b => ?_) rfl rfl rfl
    simp only [State.stopNotices_arms, Bank.get_tab]
    exact .mapRecord _ .handStop

theorem State.CarriesOn.stopByEnable (s : State) : s.CarriesOn s.stopByEnable := by
  unfold State.stopByEnable
  split
  · exact .refl s
  · exact .setLatch s _

theorem State.CarriesOn.clearLatch (s : State) : s.CarriesOn s.clearLatch :=
  .of_same (by simp) (by simp) (by simp) (by simp)

end Sys2Proof.Machine
end


section
/-! Entries into load states, a pulse and its delivery, conversions and ticks: the loads carry on. -/

namespace Sys2Proof.Machine

variable {s t u : State} {a b : Arm} {c d e : ArmCtl} {r q : LoadRecord} {p : Phase}

/-! #### Entries into load states -/

/-- The timers that run where the arm's load is in load state `p` (R97 to R101). -/
def ArmCtl.timersIn (c : ArmCtl) (p : Phase) : Prop :=
  (c.noFlow.runs = true ↔ p = .flowing) ∧ (c.window.runs = true ↔ p = .authorized) ∧
  (c.linkSilence.runs = true ↔ p.haltable = true) ∧ (c.settle ≠ .stopped ↔ p = .finishing)

theorem ArmCtl.timersOk_iff_of_loaded (loaded : c.occ = .loaded r) : c.timersOk ↔ c.timersIn r.phase := by
  simp only [ArmCtl.timersOk, ArmCtl.timersIn, ArmCtl.phase_of_loaded loaded, Option.some.injEq, Option.any_some]

theorem LoadRecord.closedIf_inBounds {x : Accounts} (bounds : r.inBounds) (same : x = { r.acc with restrictOn := x.restrictOn })
    (holds : Bool) : (x.closedIf holds).lawful := by
  obtain ⟨⟨gross, grossMax, std, stdMax, baseRes, ethRes, closed⟩, -⟩ := bounds
  rw [same, Accounts.closedIf_eq]
  refine ⟨gross, grossMax, std, stdMax, baseRes, ethRes, ?_⟩
  cases holds
  · exact closed
  · exact Nat.zero_le _

/-- An arm whose load goes from one load state to another, both short of COMPLETE. -/
theorem ArmCtl.CarriesOn.of_entry (before : c.occ = .loaded r) (after : d.occ = .loaded q)
    (timers : c.timersIn r.phase → d.timersIn q.phase) (restrict : r.restrictOk → q.restrictOk)
    (reason : r.reasonOk → q.reasonOk) (bounds : r.inBounds → q.inBounds) (identity : q.identity = r.identity)
    (incomplete : r.phase ≠ .complete) (still : q.phase ≠ .complete) : c.CarriesOn d := by
  rw [← ArmCtl.timersOk_iff_of_loaded before, ← ArmCtl.timersOk_iff_of_loaded after] at timers
  refine ⟨.of_loaded before after timers restrict reason bounds identity, ?_⟩
  rw [ArmCtl.phase_of_loaded before, ArmCtl.phase_of_loaded after]
  simp [incomplete, still]

theorem ArmCtl.mapRecord_loaded {f : LoadRecord → LoadRecord} (loaded : c.occ = .loaded r) :
    (c.mapRecord f).occ = .loaded (f r) := by
  rw [ArmCtl.mapRecord_occ, loaded]; rfl

theorem Phase.metered_of_haltable (haltable : p.haltable = true) : p ≠ .complete := by
  rintro rfl; cases haltable

theorem State.CarriesOn.enterFlowing (load : s.record a = some r) (from_ : r.phase = .authorized ∨ r.phase.isPaused = true) :
    s.CarriesOn (s.enterFlowing a) := by
  have loaded := (s.record_eq_some a r).1 load
  refine .of_arms (ArmCtl.CarriesOn.upd ?_ (s.enterFlowing_arms a)) (by simp) (by simp) (by simp)
  have haltable : r.phase.haltable = true := by
    rcases from_ with h | h
    · rw [h]; rfl
    · cases hp : r.phase <;> simp_all [Phase.isPaused, Phase.haltable]
  refine .of_entry loaded (ArmCtl.mapRecord_loaded loaded) ?_ (fun _ _ => .inl rfl) ?_ id rfl
    (Phase.metered_of_haltable haltable) (by simp)
  · rintro ⟨-, -, silence, settle⟩
    refine ⟨by simp [Timer.startSeconds, Timer.runs], by simp [Timer.runs], ?_, ?_⟩
    · exact silence.trans (iff_of_true haltable rfl)
    · refine settle.trans ?_
      have : r.phase ≠ .finishing := by rintro h; rw [h] at haltable; cases haltable
      simp [this]
  · rintro ⟨none, -⟩
    exact ⟨fun _ => none haltable, by simp⟩

theorem State.CarriesOn.enterPaused (cause : PauseCause) (flowing : s.phase a = some .flowing) :
    s.CarriesOn (s.enterPaused a cause) := by
  obtain ⟨r, load, phase⟩ := (s.phase_eq_some a _).1 flowing
  have loaded := (s.record_eq_some a r).1 load
  refine .of_arms (ArmCtl.CarriesOn.upd ?_ (s.enterPaused_arms a cause)) (by simp) (by simp) (by simp)
  refine .of_entry loaded (ArmCtl.mapRecord_loaded loaded) ?_ (fun _ _ => .inr rfl) ?_ ?_ rfl (by simp [phase]) (by simp)
  · simp [ArmCtl.timersIn, phase, Phase.haltable, Timer.runs]
  · simp [LoadRecord.reasonOk, phase, Phase.haltable]
  · exact fun bounds => ⟨LoadRecord.closedIf_inBounds bounds rfl _, bounds.2⟩

theorem State.CarriesOn.enterFlush (load : s.record a = some r) (from_ : r.phase = .flowing ∨ r.phase.isPaused = true) :
    s.CarriesOn (s.enterFlush a) := by
  have loaded := (s.record_eq_some a r).1 load
  refine .of_arms (ArmCtl.CarriesOn.upd ?_ (s.enterFlush_arms a)) (by simp) (by simp) (by simp)
  have incomplete : r.phase ≠ .complete := by rintro h; simp [h, Phase.isPaused] at from_
  refine .of_entry loaded (ArmCtl.mapRecord_loaded loaded) ?_ ?_ ?_ ?_ rfl incomplete (by simp)
  · cases hp : r.phase <;> simp_all [ArmCtl.timersIn, Phase.isPaused, Phase.haltable, Timer.runs]
  · intro _ on; rw [Accounts.closedIf_eq] at on; cases on
  · rintro ⟨none, -⟩
    refine ⟨fun _ => none ?_, by simp⟩
    cases hp : r.phase <;> simp_all [Phase.isPaused, Phase.haltable]
  · exact fun bounds => ⟨LoadRecord.closedIf_inBounds bounds rfl _, bounds.2⟩

theorem State.CarriesOn.enterHalted (load : s.record a = some r) (haltable : r.phase.haltable = true) (why : HaltReason) :
    s.CarriesOn (s.enterHalted a why) := by
  have loaded := (s.record_eq_some a r).1 load
  refine .of_arms (ArmCtl.CarriesOn.upd ?_ (s.enterHalted_arms a why)) (by simp) (by simp) (by simp)
  refine .of_entry loaded (ArmCtl.mapRecord_loaded loaded) ?_ ?_ ?_ ?_ rfl (Phase.metered_of_haltable haltable) (by simp)
  · cases hp : r.phase <;> simp_all [ArmCtl.timersIn, Phase.haltable, Timer.runs]
  · intro _ on; rw [Accounts.closedIf_eq] at on; cases on
  · exact fun _ => ⟨fun h => absurd h (by simp [Phase.haltable]), fun _ => Option.some_ne_none _⟩
  · exact fun bounds => ⟨LoadRecord.closedIf_inBounds bounds rfl _, bounds.2⟩

theorem State.CarriesOn.halt (s : State) (a : Arm) (why : HaltReason) : s.CarriesOn (s.halt a why) := by
  unfold State.halt
  split
  · exact .refl s
  · next r load => exact iteInduction (motive := s.CarriesOn) (fun h => .enterHalted load h why) fun _ => .refl s

theorem State.CarriesOn.enterFinishing (load : s.record a = some r) (incomplete : r.phase ≠ .complete) :
    s.CarriesOn (s.enterFinishing a) := by
  have loaded := (s.record_eq_some a r).1 load
  refine .of_arms (ArmCtl.CarriesOn.upd ?_ (s.enterFinishing_arms a)) (by simp) (by simp) (by simp)
  refine .of_entry loaded (ArmCtl.mapRecord_loaded loaded) ?_ ?_ ?_ ?_ rfl incomplete (by simp)
  · simp [ArmCtl.timersIn, Phase.haltable, Timer.runs, Timer.startSeconds]
  · intro _ on; rw [Accounts.closedIf_eq] at on; cases on
  · exact fun _ => ⟨fun h => absurd h (by simp [Phase.haltable]), fun h => absurd h (by simp)⟩
  · exact fun bounds => ⟨LoadRecord.closedIf_inBounds bounds rfl _, bounds.2⟩

/-- The restrict state becomes ON only in FLOWING and PAUSED (R84). -/
theorem State.CarriesOn.setRestrict (on : Bool)
    (where_ : ∀ r, s.record a = some r → on = true → r.phase = .flowing ∨ r.phase.isPaused = true) :
    s.CarriesOn (s.setRestrict a on) := by
  refine .of_arms (ArmCtl.CarriesOn.upd ?_ (s.setRestrict_arms a on)) (by simp) (by simp) (by simp)
  cases occ : (s.arms.get a).occ with
  | loaded r =>
    have phase : ((s.arms.get a).mapRecord fun r => { r with acc := { r.acc with restrictOn := on } }).phase =
        (s.arms.get a).phase := ArmCtl.mapRecord_phase _ fun _ => rfl
    refine ⟨.of_loaded occ (ArmCtl.mapRecord_loaded occ) ?_ (fun _ => where_ r ((s.record_eq_some a r).2 occ)) id ?_ rfl,
      by rw [phase]⟩
    · exact ArmCtl.timersOk_congr phase rfl rfl rfl Iff.rfl
    · exact fun bounds => ⟨LoadRecord.closedIf_inBounds bounds rfl false, bounds.2⟩
  | _ =>
    have same (f : LoadRecord → LoadRecord) : (s.arms.get a).mapRecord f = s.arms.get a := by
      rw [ArmCtl.mapRecord, occ]; cases h : s.arms.get a; rw [h] at occ; cases occ; rfl
    rw [same]; exact .refl _

/-! #### A pulse and its delivery -/

theorem State.record_of_phase (phase : s.phase a = some p) : ∃ r, s.record a = some r ∧ r.phase = p :=
  (s.phase_eq_some a p).1 phase

theorem State.CarriesOn.blendTests (phase : s.phase a = some p) (from_ : p = .flowing ∨ p.isPaused = true) :
    s.CarriesOn (s.blendTests a) := by
  obtain ⟨r, load, rfl⟩ := State.record_of_phase phase
  unfold State.blendTests
  simp only [load]
  split
  · exact .halt s a _
  · split
    · exact .halt s a _
    · split
      · exact (State.CarriesOn.enterFlush load from_).trans (.additiveResults _ a)
      · refine ((State.CarriesOn.ethanolResult s a).trans ?_).trans (.additiveResults _ a)
        have kept : (s.ethanolResult a).phase a = s.phase a := by
          rcases s.ethanolResult_arms a with arms | arms
          · exact State.phase_congr (by rw [arms])
          · exact State.phase_of_mapRecord (f := fun r => { r with acc := { r.acc with closedValve := 0 } })
              (by rw [arms]; exact Bank.get_upd_same ..) fun _ => rfl
        unfold State.restrictTest
        split
        · exact .refl _
        · refine .setRestrict _ fun q after _ => ?_
          rw [State.phase, State.phase, after, load, Option.map_some, Option.map_some, Option.some.injEq] at kept
          rw [kept]; exact from_

theorem State.CarriesOn.laterStages (phase : s.phase a = some p) (baseVcf : Nat) :
    s.CarriesOn (s.laterStages a p baseVcf) := by
  have owed := State.CarriesOn.modRecord s a fun r => .oweEthanol r baseVcf
  have still : (s.modRecord a fun r => r.oweEthanol baseVcf).phase a = some p :=
    Eq.trans (b := s.phase a) (State.modRecord_phase a fun _ => rfl) phase
  cases p with
  | authorized => exact owed
  | flowing => exact owed.trans (.blendTests still (.inl rfl))
  | paused c => exact owed.trans (.blendTests still (.inr rfl))
  | flush => exact .additiveResults s a
  | halted => exact .refl s
  | finishing => exact .refl s
  | complete => exact .refl s

theorem State.CarriesOn.judge (phase : s.phase a = some p) (saturating : Bool) (baseVcf : Nat) :
    s.CarriesOn (s.judge a p saturating baseVcf) := by
  unfold State.judge
  split
  · exact .refl s
  · split
    · split
      · exact .halt s a _
      · split
        · exact .halt s a _
        · exact .laterStages phase baseVcf
    · exact .refl s

/-- A delivery's effect on the timers, and the load state in which its tests are made. -/
theorem State.CarriesOn.deliveryTimers (phase : s.phase a = some p) (m : Meter) :
    s.CarriesOn (s.deliveryTimers a p m) ∧
      (s.deliveryTimers a p m).phase a = some (if p.begins m then .flowing else p) := by
  obtain ⟨r, load, rfl⟩ := State.record_of_phase phase
  cases m with
  | ethanol => exact ⟨.withHeader s _, phase⟩
  | base =>
    unfold State.deliveryTimers
    dsimp only
    split
    · next begins =>
      have from_ : r.phase = .authorized ∨ r.phase.isPaused = true := by
        simp only [Phase.begins, decide_true, Bool.true_and, Bool.or_eq_true, decide_eq_true_eq] at begins
        exact begins.imp id fun h => by rw [h]; rfl
      refine ⟨.enterFlowing load from_, ?_⟩
      rw [State.phase, State.enterFlowing_record, if_pos rfl, load]; rfl
    · split
      · next flowing =>
        refine ⟨.modArm (.of_occ rfl ?_), Eq.trans (b := s.phase a) (State.modArm_phase a fun _ => rfl) phase⟩
        rintro ⟨noFlow, window, silence, settle⟩
        have holds : (s.arms.get a).phase = some .flowing := phase.trans (by rw [flowing])
        exact ⟨iff_of_true rfl holds, window, silence, settle⟩
      · exact ⟨.refl s, phase⟩

theorem State.CarriesOn.deliver (s : State) (a : Arm) (d : Delivery) : s.CarriesOn (s.deliver a d) := by
  unfold State.deliver
  split
  · exact .refl s
  · next r load =>
    have accounted := State.CarriesOn.modRecord s a fun r => .account r d (s.readings a)
    have phase : (s.modRecord a fun r => r.account d (s.readings a)).phase a = some r.phase :=
      Eq.trans (b := s.phase a) (State.modRecord_phase a fun _ => rfl) (by rw [State.phase, load]; rfl)
    obtain ⟨timed, judged⟩ := State.CarriesOn.deliveryTimers phase d.meter
    exact (accounted.trans timed).trans (.judge judged _ _)

theorem State.CarriesOn.unassigned (s : State) (a : Arm) (k : Nat) : s.CarriesOn (s.unassigned a k) := by
  refine ⟨fun b => ?_, .of_eq (by simp) (by simp), by simp, fun b m => ?_⟩
  · rw [show (s.unassigned a k).arms = s.arms by simp]; exact .refl _
  · have meter : (s.unassigned a k).meter b m = s.meter b m := by
      unfold State.unassigned
      dsimp only
      split
      all_goals
        simp only [State.meter, State.raiseSup_meters, State.modMeters_meters, Bank.get_upd]
        split
        · next e => subst e; cases m <;> rfl
        · rfl
    rw [meter]; exact id

theorem State.CarriesOn.pulse (s : State) (a : Arm) (m : Meter) : s.CarriesOn (s.pulse a m) := by
  have captured := State.CarriesOn.modMeter s a m (f := fun y => y.capture s.timebase) fun _ h => h
  unfold State.pulse
  dsimp only
  split
  · exact captured.trans ((State.CarriesOn.modMeter _ a m fun _ _ => Nat.mod_lt _ (by decide)).trans (.deliver _ a _))
  · exact captured.trans (.unassigned _ a _)

/-! #### Conversions and ticks -/

theorem State.CarriesOn.convertPressure (s : State) (code : Nat) : s.CarriesOn (s.convertPressure code) := by
  have compared : s.CarriesOn { s with scan := s.scan.comparePressure code s.header.threshold } := .of_same rfl rfl rfl rfl
  unfold State.convertPressure
  split
  · exact .refl s
  · dsimp only
    split
    · exact compared
    · split
      · exact (compared.trans (.revokeFrom _ 0)).trans (.of_same rfl rfl rfl rfl)
      · exact (compared.trans (.grants _)).trans (.of_same rfl rfl rfl rfl)

theorem State.CarriesOn.takeCode (s : State) (code : Nat) : s.CarriesOn (s.takeCode code) := by
  have reference (i : Fin 3) : s.CarriesOn (s.convertReference i code) := .of_same (by simp) (by simp) (by simp) (by simp)
  unfold State.takeCode
  dsimp only
  split
  · exact .of_same (by simp) (by simp) (by simp) (by simp)
  · split
    · exact .convertPressure s code
    · split
      · exact reference 0
      · split
        · exact reference 1
        · exact reference 2

theorem Timer.tick_runs (x : Timer) : x.tick.runs = x.runs := by cases x <;> rfl

theorem Timer.tick_eq_stopped (x : Timer) : x.tick = .stopped ↔ x = .stopped := by cases x <;> simp [Timer.tick]

theorem State.CarriesOn.tick (s : State) : s.CarriesOn s.tick := by
  refine ⟨fun b => ?_, ⟨rfl, rfl, s.records.ageTimer.tick_runs, rfl⟩, rfl, fun b m => ?_⟩
  · simp only [State.tick, Bank.get_tab]
    exact .of_occ rfl (ArmCtl.timersOk_congr rfl (Timer.tick_runs _) (Timer.tick_runs _) (Timer.tick_runs _)
      (Timer.tick_eq_stopped _))
  · simp only [State.meter, State.tick, Bank.get_tab]
    cases m <;> exact id

end Sys2Proof.Machine
end


section
/-! Hand-offs, completions, lost units and ended strokes: the laws of the books beside the arms' own. -/

namespace Sys2Proof.Machine

variable {s t u : State} {a b : Arm} {c d e : ArmCtl} {r q : LoadRecord}

/-! ### The load numbers in use -/

/-- The number of the load that arm `a` holds. -/
def State.numberAt (s : State) (a : Arm) : Option Nat := (s.record a).map LoadRecord.number

theorem State.mem_numbersInUse (s : State) (n : Nat) :
    n ∈ s.numbersInUse ↔ (∃ a, s.numberAt a = some n) ∨ n ∈ s.records.records.map fun d => d.figures.number := by
  simp only [State.numbersInUse, List.mem_append, List.mem_filterMap, List.mem_finRange, true_and, State.numberAt]

/-- Different numbers throughout: among the open loads, among the queued records, and between the two. -/
theorem State.numbersInUse_nodup_iff (s : State) :
    s.numbersInUse.Nodup ↔ (∀ a b n, s.numberAt a = some n → s.numberAt b = some n → a = b) ∧
      (s.records.records.map fun d => d.figures.number).Nodup ∧
      ∀ a n, s.numberAt a = some n → n ∉ s.records.records.map fun d => d.figures.number := by
  simp only [State.numbersInUse, List.nodup_append, List.mem_filterMap, List.mem_finRange, true_and]
  constructor
  · rintro ⟨loads, records, apart⟩
    refine ⟨fun a b n ha hb => ?_, records, fun a n ha mem => apart n ⟨a, ha⟩ n mem rfl⟩
    by_contra ne
    have symm : Std.Symm fun a b : Arm => ∀ n, (s.record a).map LoadRecord.number = some n →
        ∀ m, (s.record b).map LoadRecord.number = some m → n ≠ m :=
      ⟨fun a b h n hn m hm e => h m hm n hn e.symm⟩
    exact (List.pairwise_filterMap.1 loads).forall (List.mem_finRange a) (List.mem_finRange b) ne n ha n hb rfl
  · rintro ⟨loads, records, apart⟩
    refine ⟨(List.nodup_finRange 8).filterMap fun a b n ha hb => loads a b n ha hb, records, ?_⟩
    rintro n ⟨a, ha⟩ m mem rfl
    exact apart a n ha mem

/-- Fewer loads, fewer records, and records whose numbers were a load's. -/
theorem State.numberLaw_of_handed (law : s.numberLaw) (load : s.record a = some r)
    (gone : t.record a = none) (others : ∀ b, b ≠ a → t.record b = s.record b)
    (records : (t.records.records.map fun d => d.figures.number) =
      (s.records.records.map fun d => d.figures.number) ++ [r.number])
    (next : t.records.nextNumber = s.records.nextNumber) : t.numberLaw := by
  obtain ⟨nodup, range, low, high⟩ := law
  obtain ⟨loads, queued, apart⟩ := s.numbersInUse_nodup_iff.1 nodup
  have number : s.numberAt a = some r.number := by rw [State.numberAt, load]; rfl
  have kept {b : Arm} {n : Nat} (h : t.numberAt b = some n) : b ≠ a ∧ s.numberAt b = some n := by
    by_cases e : b = a
    · subst e; rw [State.numberAt, gone] at h; cases h
    · rw [State.numberAt, others b e] at h; exact ⟨e, h⟩
  refine ⟨t.numbersInUse_nodup_iff.2 ⟨fun b c n hb hc => loads b c n (kept hb).2 (kept hc).2, ?_, ?_⟩, ?_, ?_, ?_⟩
  · rw [records, ← List.concat_eq_append]
    exact queued.concat (apart a _ number)
  · intro b n hb mem
    obtain ⟨ne, before⟩ := kept hb
    rw [records, List.mem_append, List.mem_singleton] at mem
    obtain mem | rfl := mem
    · exact apart b n before mem
    · exact ne (loads b a _ before number)
  · intro n mem
    refine range n ((s.mem_numbersInUse n).2 ?_)
    rw [State.mem_numbersInUse, records, List.mem_append, List.mem_singleton] at mem
    obtain ⟨b, hb⟩ | mem | rfl := mem
    · exact .inl ⟨b, (kept hb).2⟩
    · exact .inr mem
    · exact .inl ⟨a, number⟩
  · rw [next]; exact low
  · rw [next]; exact high

/-- A record that leaves the queue frees its number. -/
theorem State.numberLaw_of_sublist (law : s.numberLaw) (loads : ∀ b, t.record b = s.record b)
    (records : t.records.records.Sublist s.records.records) (next : t.records.nextNumber = s.records.nextNumber) :
    t.numberLaw := by
  have sub : t.numbersInUse.Sublist s.numbersInUse := by
    rw [State.numbersInUse, State.numbersInUse, funext loads]
    exact (records.map _).append_left _
  obtain ⟨nodup, range, low, high⟩ := law
  exact ⟨nodup.sublist sub, fun n mem => range n (sub.subset mem), next ▸ low, next ▸ high⟩

/-! ### The references of a recipe entry -/

/-- The load of arm `a` names entry `e`. -/
def State.names (s : State) (a : Arm) (n : EntryNo) : Bool := (s.record a).any fun r => decide (r.snap.entry = n)

theorem State.armsOn_eq (s : State) (n : EntryNo) : s.armsOn n = (List.finRange 8).filter fun a => s.names a n := rfl

/-- One arm more on an entry. -/
theorem State.armsOn_length_succ {n : EntryNo} (others : ∀ b, b ≠ a → t.names b n = s.names b n)
    (before : s.names a n = false) (after : t.names a n = true) : (t.armsOn n).length = (s.armsOn n).length + 1 := by
  have perm : (t.armsOn n).Perm (a :: s.armsOn n) := by
    have nodup (x : State) : (x.armsOn n).Nodup := (List.nodup_finRange 8).filter _
    refine (List.perm_ext_iff_of_nodup (nodup t) (List.nodup_cons.2 ⟨?_, nodup s⟩)).2 fun b => ?_
    · simp [State.armsOn_eq, before]
    · by_cases e : b = a
      · subst e; simp [State.armsOn_eq, after]
      · simp [State.armsOn_eq, others b e, e]
  exact perm.length_eq

theorem State.armsOn_congr {n : EntryNo} (same : ∀ b, t.names b n = s.names b n) : t.armsOn n = s.armsOn n :=
  List.filter_congr fun b _ => same b

theorem State.names_of_record (same : t.record b = s.record b) (n : EntryNo) : t.names b n = s.names b n := by
  rw [State.names, State.names, same]

/-! ### A hand-off -/

theorem State.handOff_record (load : s.record a = some r) (b : Arm) :
    (s.handOff a).record b = if b = a then none else s.record b := by
  rw [State.record, State.handOff_arms_get, load]
  split
  · next h => rw [if_pos h.1]; rfl
  · next h => rw [if_neg fun e => h ⟨e, rfl⟩]; rfl

theorem State.handOff_codeLaw (load : s.record a = some r) (law : s.codeLaw) : (s.handOff a).codeLaw := by
  have entry (i : EntryNo) (active : ((s.handOff a).recipes.get i).state = .active) :
      (s.recipes.get i).state = .active ∧ ((s.handOff a).recipes.get i).code = (s.recipes.get i).code := by
    simp only [State.handOff_recipes, load, Bank.get_upd] at active ⊢
    split at active
    · next e =>
      subst e
      rw [if_pos rfl]
      unfold RecipeEntry.dropReference at active ⊢
      dsimp only at active
      split at active
      · cases active
      · exact ⟨active, rfl⟩
    · next ne => rw [if_neg ne]; exact ⟨active, rfl⟩
  intro i j hi hj same
  obtain ⟨activeI, codeI⟩ := entry i hi
  obtain ⟨activeJ, codeJ⟩ := entry j hj
  exact law i j activeI activeJ (by rw [← codeI, ← codeJ, same])

theorem State.handOff_referenceLaw (load : s.record a = some r) (law : s.referenceLaw) : (s.handOff a).referenceLaw := by
  intro n
  obtain ⟨count, empty, withdrawn⟩ := law n
  have others (b : Arm) (ne : b ≠ a) : s.names b n = (s.handOff a).names b n :=
    State.names_of_record (by rw [State.handOff_record load, if_neg ne]) n
  have after : (s.handOff a).names a n = false := by rw [State.names, State.handOff_record load, if_pos rfl]; rfl
  simp only [State.handOff_recipes, load, Bank.get_upd]
  by_cases e : n = r.snap.entry
  · have before : s.names a n = true := by rw [State.names, load]; exact decide_eq_true e.symm
    have length := State.armsOn_length_succ others after before
    subst e
    rw [if_pos rfl]
    unfold RecipeEntry.dropReference
    dsimp only
    refine ⟨by omega, ?_, ?_⟩
    · split
      · next h => exact fun _ => h.2
      · intro h; have := empty h; omega
    · split
      · exact fun h => nomatch h
      · next h => intro hw; have : ¬ _ := fun z => h ⟨hw, z⟩; omega
  · have before : s.names a n = false := by rw [State.names, load]; exact decide_eq_false (Ne.symm e)
    have same : (s.handOff a).armsOn n = s.armsOn n := State.armsOn_congr fun b => by
      by_cases h : b = a
      · rw [h, before, after]
      · exact (others b h).symm
    rw [if_neg e, same]
    exact ⟨count, empty, withdrawn⟩

theorem State.handOff_itemLaw (load : s.record a = some r) (law : s.itemLaw) : (s.handOff a).itemLaw := by
  obtain ⟨entries, loads⟩ := law
  refine ⟨fun n => ?_, fun b => ?_⟩
  · simp only [State.handOff_recipes, load, Bank.get_upd]
    split
    · exact entries _
    · exact entries n
  · rw [State.handOff_record load]
    split
    · trivial
    · exact loads b

/-- What holds of every load holds after a hand-off. -/
theorem State.handOff_loads {law : LoadRecord → Prop} (load : s.record a = some r)
    (loads : ∀ b, (s.record b).elim True law) (b : Arm) : ((s.handOff a).record b).elim True law := by
  rw [State.handOff_record load]
  split
  · trivial
  · exact loads b

theorem State.handOff_timerLaw (load : s.record a = some r) (complete : r.phase = .complete) (law : s.timerLaw) :
    (s.handOff a).timerLaw := by
  intro b
  rw [State.phase, State.handOff_record load, State.handOff_arms_get, load]
  by_cases e : b = a
  · subst e
    have stopped := law b
    rw [State.phase, load] at stopped
    simpa [complete, Phase.haltable] using stopped
  · simpa [e, State.phase] using law b

/-- A hand-off of a load in COMPLETE keeps the laws but the record queue's own. -/
theorem State.BooksKept.handOff (load : s.record a = some r) (complete : r.phase = .complete) :
    s.BooksKept (s.handOff a) := by
  have records : (s.handOff a).records.records = s.records.records ++ [s.deliveryRecord a r] := by
    rw [State.handOff_records, load]
  have next : (s.handOff a).records.nextNumber = s.records.nextNumber := by rw [State.handOff_records, load]
  exact ⟨fun law => State.numberLaw_of_handed law load (by rw [State.handOff_record load, if_pos rfl])
      (fun b ne => by rw [State.handOff_record load, if_neg ne]) (by rw [records, List.map_append]; rfl) next,
    State.handOff_codeLaw load, State.handOff_referenceLaw load, State.handOff_itemLaw load,
    State.handOff_timerLaw load complete, State.handOff_loads load, State.handOff_loads load⟩

/-- Where an arm holds no load, nothing is handed off. -/
theorem State.handOff_of_idle (idle : s.record a = none) : s.handOff a = s := by
  unfold State.handOff; rw [idle]

theorem State.handOff_ageLaw (a : Arm) (law : s.ageLaw) : (s.handOff a).ageLaw := by
  cases load : s.record a with
  | none => rw [State.handOff_of_idle load]; exact law
  | some r =>
    unfold State.ageLaw
    rw [State.handOff_records, load]
    dsimp only
    refine iff_of_true ?_ (by simp)
    split
    · rfl
    · next filled => exact law.2 filled

theorem State.handOff_accountLaw (a : Arm) (law : s.accountLaw) : (s.handOff a).accountLaw := by
  cases load : s.record a with
  | none => rw [State.handOff_of_idle load]; exact law
  | some r =>
    obtain ⟨bounds, residues⟩ := law
    refine ⟨State.handOff_loads load bounds, fun b m => ?_⟩
    rw [State.meter, show (s.handOff a).meters = s.meters by simp]
    exact residues b m

/-- The arm in COMPLETE whose record is to be handed off stands beside a queue that is lawful but for it. -/
theorem State.handOff_recordLaw (load : s.record a = some r) (room : s.records.records.length < 32)
    (full : s.records.wait ≠ [] → s.records.records.length = 31) (nodup : s.records.wait.Nodup)
    (waiting : ∀ b, b ∈ s.records.wait ↔ b ≠ a ∧ s.phase b = some .complete) : (s.handOff a).recordLaw := by
  unfold State.recordLaw
  rw [State.handOff_records, load]
  dsimp only
  rw [List.length_append, List.length_singleton]
  refine ⟨room, fun h => by rw [full h], nodup, fun b => (waiting b).trans ?_⟩
  rw [State.phase, State.phase, State.handOff_record load]
  by_cases e : b = a
  · simp [e]
  · simp [e]

/-! ### Completion -/

/-- The load `r` of arm `a` closed, with its last summary and its notices, before its record is offered. -/
def State.closing (s : State) (a : Arm) (r : LoadRecord) : State :=
  let closed := r.close (Bank.tab fun u => (s.units.get u).shot) s.clock
  { s with
    arms := s.arms.upd a fun c =>
      { c with occ := .loaded closed, settle := .stopped, lastSummary := some closed.figures }
    armLines := s.armLines.upd a fun x =>
      { x with notices := raiseIn ArmNotice.key .loadComplete (some r.number) (raiseShorts r.flags closed.flags x.notices) } }

theorem State.enterComplete_eq (load : s.record a = some r) : s.enterComplete a = (s.closing a r).offer a := by
  unfold State.enterComplete; rw [load]; rfl

/-- A load in FINISHING that is closed keeps its laws and its identity. -/
theorem ArmCtl.Keeps.closing (load : s.record a = some r) (finishing : r.phase = .finishing) (b : Arm) :
    (s.arms.get b).Keeps ((s.closing a r).arms.get b) := by
  have loaded := (s.record_eq_some a r).1 load
  simp only [State.closing, Bank.get_upd]
  split
  · next e =>
    rw [e]
    refine .of_loaded loaded rfl ?_ ?_ (fun _ => ⟨fun h => absurd h Bool.false_ne_true, fun h => nomatch h⟩) ?_ ?_
    · rw [ArmCtl.timersOk_iff_of_loaded loaded, ArmCtl.timersOk_iff_of_loaded rfl]
      simp +contextual [ArmCtl.timersIn, finishing, LoadRecord.close, Phase.haltable]
    · intro off on
      rcases off on with h | h
      · rw [finishing] at h; cases h
      · rw [finishing] at h; cases h
    · rintro ⟨accounts, items⟩
      refine ⟨accounts, fun j hj => ?_⟩
      obtain ⟨i, mem, rfl⟩ := List.mem_map.1 hj
      exact items i mem
    · simp only [LoadRecord.identity, LoadRecord.close, List.map_map, Prod.mk.injEq, true_and]
      exact List.map_congr_left fun _ _ => rfl
  · exact .refl _

theorem State.closing_record (s : State) (a : Arm) (r : LoadRecord) :
    ∃ q, (s.closing a r).record a = some q ∧ q.phase = .complete ∧
      ∀ b, b ≠ a → (s.closing a r).record b = s.record b := by
  refine ⟨_, by rw [State.record, State.closing, Bank.get_upd_same]; rfl, rfl, fun b ne => State.record_congr ?_⟩
  exact Bank.get_upd_of_ne _ _ ne

theorem State.LawsKept.enterComplete (load : s.record a = some r) (finishing : r.phase = .finishing) :
    s.LawsKept (s.enterComplete a) := by
  have keeps := ArmCtl.Keeps.closing load finishing
  have same : s.BooksSame (s.closing a r) := .of_eq rfl rfl
  obtain ⟨q, closed, complete, others⟩ := s.closing_record a r
  have phaseOf (b : Arm) (ne : b ≠ a) : (s.closing a r).phase b = s.phase b := by
    rw [State.phase, State.phase, others b ne]
  have phaseA : (s.closing a r).phase a = some .complete := by rw [State.phase, closed, ← complete]; rfl
  have incomplete : s.phase a ≠ some .complete := by rw [State.phase, load, Option.map_some, finishing]; simp
  have account (law : s.accountLaw) : (s.closing a r).accountLaw := ⟨fun b => (keeps b).bounds (law.1 b), law.2⟩
  rw [State.enterComplete_eq load]
  unfold State.offer
  split
  · next room =>
    refine ⟨fun law => State.handOff_accountLaw a (account law), fun law =>
      State.handOff_ageLaw a (same.ageLaw law), fun law => ⟨?_, (same.kept keeps).trans (.handOff closed complete)⟩⟩
    obtain ⟨-, full, nodup, waiting⟩ := law
    have none_waits : s.records.wait = [] := by
      by_contra h
      have := full h
      exact absurd room (by rw [show (s.closing a r).records = s.records from rfl, this]; decide)
    refine State.handOff_recordLaw closed room (fun h => absurd none_waits h) nodup fun b => ?_
    refine (waiting b).trans ⟨fun h => ?_, fun h => ?_⟩
    · have ne : b ≠ a := fun e => incomplete (e ▸ h)
      exact ⟨ne, (phaseOf b ne).trans h⟩
    · exact (phaseOf b h.1).symm.trans h.2
  · next noRoom =>
    have kept : s.BooksKept { s.closing a r with records := { s.records with wait := s.records.wait ++ [a] } } :=
      State.BooksSame.kept ⟨rfl, rfl, rfl, rfl⟩ keeps
    refine ⟨account, same.ageLaw, fun law => ⟨?_, kept⟩⟩
    obtain ⟨capacity, full, nodup, waiting⟩ := law
    have length : s.records.records.length = 32 := le_antisymm capacity (Nat.le_of_not_lt noRoom)
    refine ⟨capacity, fun _ => length, ?_, fun b => ?_⟩
    · change (s.records.wait ++ [a]).Nodup
      rw [← List.concat_eq_append]
      exact nodup.concat fun mem => incomplete ((waiting a).1 mem)
    · change b ∈ s.records.wait ++ [a] ↔ (s.closing a r).phase b = some .complete
      rw [List.mem_append, List.mem_singleton]
      by_cases e : b = a
      · subst e; exact iff_of_true (.inr rfl) phaseA
      · rw [phaseOf b e, ← waiting b]; simp [e]

theorem State.LawsKept.examine (s : State) (a : Arm) : s.LawsKept (s.examine a) := by
  unfold State.examine
  split
  · next completes =>
    cases load : s.record a with
    | none => rw [State.completes, load] at completes; cases completes
    | some r => exact .enterComplete load ((s.completes_iff a load).1 completes).1
  · exact .refl s

theorem State.LawsKept.foldl_examine (l : List Arm) (s : State) : s.LawsKept (l.foldl State.examine s) := by
  induction l generalizing s with
  | nil => exact .refl s
  | cons a l ih => exact (State.LawsKept.examine s a).trans (ih _)

/-! ### Units lost, and strokes ended -/

theorem State.LawsKept.unitLost (s : State) (u : UnitNo) (st : UnitState) (k : SupNotice) (d : Nat) :
    s.LawsKept (s.unitLost u st k d) :=
  (State.CarriesOn.loseUnit s u st k d).kept.trans (.foldl_examine _ _)

theorem State.LawsKept.unitServes (s : State) (u : UnitNo) : s.LawsKept (s.unitServes u) :=
  iteInduction (motive := s.LawsKept) (fun _ => ((State.CarriesOn.modUnit s u _).trans (.takeHead _ u)).kept)
    fun _ => .unitLost s u _ _ _

theorem State.LawsKept.refill (s : State) (u : UnitNo) (volume : Nat) : s.LawsKept (s.refill u volume) := by
  have low := (State.CarriesOn.modUnit s u fun x => { x with inventory := refilled x.inventory volume }).trans (.evalLow _ u)
  unfold State.refill
  dsimp only
  split
  · exact ((low.trans (.modUnit _ u _)).trans (.takeHead _ u)).kept
  · exact low.kept

theorem State.LawsKept.strokeConfirmed (s : State) (u : UnitNo) (a : Arm) : s.LawsKept (s.strokeConfirmed u a) := by
  unfold State.strokeConfirmed
  refine State.LawsKept.trans ?_ (.examine _ a)
  have credited := ((State.CarriesOn.modRecord s a fun r => .creditShot r u (s.units.get u).shot).trans
    (.modUnit _ u fun x => { x with
      strokeTimer := .stopped, confirmed := countUp32 x.confirmed, inventory := x.inventory - (s.units.get u).shot,
      failures := 0, inFlight := none })).trans (.evalLow _ u)
  split
  · exact (credited.trans (.backToReady _ u a)).kept
  · exact credited.kept.trans (.unitLost _ u _ _ _)

theorem State.LawsKept.strokeFailed (s : State) (u : UnitNo) (a : Arm) : s.LawsKept (s.strokeFailed u a) := by
  unfold State.strokeFailed
  refine State.LawsKept.trans ?_ (.examine _ a)
  have failed := State.CarriesOn.modUnit s u fun x => { x with
    strokeTimer := .stopped, failed := countUp32 x.failed, failures := x.failures + 1, inFlight := none }
  split
  · exact failed.kept.trans (.unitLost _ u _ _ _)
  · exact (failed.trans (.backToReady _ u a)).kept

theorem State.LawsKept.confirmation (s : State) (u : UnitNo) : s.LawsKept (s.confirmation u) := by
  unfold State.confirmation
  dsimp only
  split
  · exact .strokeConfirmed s u _
  · exact (State.CarriesOn.modUnit s u _).kept

end Sys2Proof.Machine
end


section
/-! The commands that change the books: removals, hand-offs, AUTHORIZE, and the Recipe Table's requests. -/

namespace Sys2Proof.Machine

variable {s t u : State} {a b : Arm} {c d e : ArmCtl} {r q : LoadRecord}

/-! ### The Record Queue's commands -/

theorem State.waitHandOff_eq_self (law : s.recordLaw) : s.waitHandOff = s := by
  obtain ⟨-, full, -, -⟩ := law
  unfold State.waitHandOff
  split
  · rfl
  · next b rest wait =>
    have length := full (by rw [wait]; exact List.cons_ne_nil _ _)
    exact if_neg (by rw [length]; decide)

theorem State.LawsKept.waitHandOff (s : State) : s.LawsKept s.waitHandOff := by
  refine ⟨?_, ?_, fun law => by rw [State.waitHandOff_eq_self law]; exact ⟨law, .refl s⟩⟩
  all_goals
    unfold State.waitHandOff
    split
  · exact id
  · exact iteInduction (motive := fun t : State => s.accountLaw → t.accountLaw)
      (fun _ law => State.handOff_accountLaw _ law) fun _ => id
  · exact id
  · exact iteInduction (motive := fun t : State => s.ageLaw → t.ageLaw) (fun _ law => State.handOff_ageLaw _ law) fun _ => id

/-- The age timer stands stopped with the queue empty and runs otherwise after a removal. -/
theorem RecordQueue.afterRemoval_runs (x : RecordQueue) : x.afterRemoval.ageTimer.runs = true ↔ x.records ≠ [] := by
  unfold RecordQueue.afterRemoval
  dsimp only
  split
  · next h => simp [h, Timer.runs]
  · next h => simp [h, Timer.startSeconds, Timer.runs]

/-- The queue without its head and, where an arm waits, the arm out of the wait list. -/
def State.unqueued (s : State) (rest : List DeliveryRecord) (wait : List Arm) : State :=
  { s with records := { s.records with records := rest, wait := wait } }

/-- The two ways a removal goes on: no arm waits, or the longest-waiting arm's record takes the freed place (R163, R164). -/
theorem State.removed_cases {d : DeliveryRecord} {rest : List DeliveryRecord} (law : s.recordLaw)
    (records : s.records.records = d :: rest) :
    (s.records.wait = [] ∧ s.removed rest = { s.unqueued rest [] with records := (s.unqueued rest []).records.afterRemoval }) ∨
    ∃ b w, s.records.wait = b :: w ∧ rest.length = 31 ∧
      s.removed rest = { (s.unqueued rest w).handOff b with records := ((s.unqueued rest w).handOff b).records.afterRemoval } := by
  obtain ⟨capacity, full, -, -⟩ := law
  cases wait : s.records.wait with
  | nil =>
    left
    refine ⟨rfl, ?_⟩
    unfold State.removed State.waitHandOff State.unqueued
    simp only [wait]
  | cons b w =>
    right
    have length : rest.length = 31 := by
      have := full (by rw [wait]; exact List.cons_ne_nil _ _)
      rw [records, List.length_cons] at this
      omega
    refine ⟨b, w, rfl, length, ?_⟩
    unfold State.removed State.waitHandOff State.unqueued
    simp only [wait]
    rw [if_pos (by rw [length]; decide)]

theorem State.removed_accountLaw (rest : List DeliveryRecord) (law : s.accountLaw) : (s.removed rest).accountLaw :=
  (State.LawsKept.waitHandOff { s with records := { s.records with records := rest } }).account law

theorem State.removed_ageLaw (s : State) (rest : List DeliveryRecord) : (s.removed rest).ageLaw :=
  RecordQueue.afterRemoval_runs _

theorem State.removed_books {d : DeliveryRecord} {rest : List DeliveryRecord} (law : s.recordLaw)
    (records : s.records.records = d :: rest) : (s.removed rest).recordLaw ∧ s.BooksKept (s.removed rest) := by
  have shorter (w : List Arm) : s.BooksKept (s.unqueued rest w) :=
    ⟨fun law => State.numberLaw_of_sublist law (fun _ => rfl) (records ▸ List.sublist_cons_self d rest) rfl,
      id, id, id, id, id, id⟩
  have settled (t : State) : t.BooksKept { t with records := t.records.afterRemoval } := ⟨id, id, id, id, id, id, id⟩
  obtain ⟨wait, same⟩ | ⟨b, w, wait, length, same⟩ := State.removed_cases law records
  · rw [same]
    refine ⟨?_, (shorter []).trans (settled _)⟩
    obtain ⟨capacity, -, -, waiting⟩ := law
    rw [records, List.length_cons] at capacity
    exact ⟨(Nat.le_succ _).trans capacity, fun h => absurd rfl h, List.nodup_nil, fun a => by rw [← wait]; exact waiting a⟩
  · rw [same]
    obtain ⟨-, -, nodup, waiting⟩ := law
    rw [wait, List.nodup_cons] at nodup
    obtain ⟨notIn, nodup⟩ := nodup
    obtain ⟨r, load, complete⟩ := (s.phase_eq_some b _).1 ((waiting b).1 (by rw [wait]; exact List.mem_cons_self))
    have load' : (s.unqueued rest w).record b = some r := load
    have lawful : ((s.unqueued rest w).handOff b).recordLaw := by
      refine State.handOff_recordLaw load' (by change rest.length < 32; omega) (fun _ => length) nodup fun c => ?_
      change c ∈ w ↔ c ≠ b ∧ s.phase c = some .complete
      rw [← waiting c, wait, List.mem_cons]
      constructor
      · exact fun mem => ⟨fun e => notIn (e ▸ mem), .inr mem⟩
      · rintro ⟨ne, eq | mem⟩
        · exact absurd eq ne
        · exact mem
    exact ⟨lawful, ((shorter w).trans (.handOff load' complete)).trans (settled _)⟩

theorem State.LawsKept.removeRecord (s : State) (number : Nat) : s.LawsKept (s.removeRecord number).state := by
  unfold State.removeRecord
  split
  · exact .refl s
  · next d rest records =>
    split
    · exact .refl s
    · exact ⟨State.removed_accountLaw rest, fun _ => s.removed_ageLaw rest, fun law => State.removed_books law records⟩

/-! ### AUTHORIZE -/

theorem nextLoadNumber_eq {n : Nat} (low : 1 ≤ n) (high : n ≤ 65535) : nextLoadNumber n = n % 65535 + 1 := by
  unfold nextLoadNumber
  split
  · rw [Nat.mod_eq_of_lt ‹_›]
  · obtain rfl : n = 65535 := by omega
    rfl

theorem nextLoadNumber_range (n : Nat) : 1 ≤ nextLoadNumber n ∧ nextLoadNumber n ≤ 65535 := by
  unfold nextLoadNumber; split <;> omega

theorem nextLoadNumber_iterate {n : Nat} (low : 1 ≤ n) (high : n ≤ 65535) (k : Nat) :
    nextLoadNumber^[k] n = (n - 1 + k) % 65535 + 1 := by
  induction k with
  | zero => rw [Function.iterate_zero_apply, Nat.mod_eq_of_lt (by omega)]; omega
  | succ k ih =>
    have below := Nat.mod_lt (n - 1 + k) (show 0 < 65535 by decide)
    rw [Function.iterate_succ_apply', ih, nextLoadNumber_eq (by omega) (by omega)]
    omega

/-- The search ends on a free number, or every number it looked at was in use. -/
theorem freeLoadNumber_free_or (used : List Nat) (fuel n : Nat) :
    freeLoadNumber used fuel n ∉ used ∨ ∀ k < fuel, nextLoadNumber^[k] n ∈ used := by
  induction fuel generalizing n with
  | zero => exact .inr fun k h => absurd h (Nat.not_lt_zero k)
  | succ fuel ih =>
    unfold freeLoadNumber
    split
    · next taken =>
      refine (ih (nextLoadNumber n)).imp id fun all k h => ?_
      cases k with
      | zero => exact taken
      | succ k => exact all k (by omega)
    · next free => exact .inl free

theorem freeLoadNumber_range (used : List Nat) (fuel : Nat) {n : Nat} (range : 1 ≤ n ∧ n ≤ 65535) :
    1 ≤ freeLoadNumber used fuel n ∧ freeLoadNumber used fuel n ≤ 65535 := by
  induction fuel generalizing n with
  | zero => exact range
  | succ fuel ih =>
    unfold freeLoadNumber
    split
    · exact ih (nextLoadNumber_range n)
    · exact range

/-- With at most 40 numbers in use, one of 41 in a row is free (R161). -/
theorem freeLoadNumber_free {used : List Nat} (few : used.length ≤ 40) {n : Nat} (low : 1 ≤ n) (high : n ≤ 65535) :
    freeLoadNumber used 41 n ∉ used := by
  refine (freeLoadNumber_free_or used 41 n).resolve_right fun all => ?_
  have distinct : ((List.range 41).map fun k => nextLoadNumber^[k] n).Nodup := by
    refine List.Nodup.map_on (fun j hj k hk same => ?_) List.nodup_range
    rw [List.mem_range] at hj hk
    rw [nextLoadNumber_iterate low high, nextLoadNumber_iterate low high] at same
    omega
  have within : ((List.range 41).map fun k => nextLoadNumber^[k] n) ⊆ used := by
    intro m mem
    obtain ⟨k, hk, rfl⟩ := List.mem_map.1 mem
    exact all k (List.mem_range.1 hk)
  have length := (distinct.subperm within).length_le
  rw [List.length_map, List.length_range] at length
  omega

theorem State.numbersInUse_length (law : s.recordLaw) : s.numbersInUse.length ≤ 40 := by
  obtain ⟨capacity, -, -, -⟩ := law
  have loads := List.length_filterMap_le (fun a => (s.record a).map LoadRecord.number) (List.finRange 8)
  rw [List.length_finRange] at loads
  rw [State.numbersInUse, List.length_append, List.length_map]
  omega

theorem State.authorized_record (s : State) (a b : Arm) (n : EntryNo) (preset : Nat) (bill : List Byte) :
    (s.authorized a n preset bill).record b = if b = a then some (s.newRecord n preset bill) else s.record b := by
  simp only [State.record, State.authorized, Bank.get_upd]
  split
  · rfl
  · rfl

theorem State.authorized_numberLaw (idle : s.record a = none) (records : s.recordLaw) (law : s.numberLaw) (n : EntryNo)
    (preset : Nat) (bill : List Byte) : (s.authorized a n preset bill).numberLaw := by
  obtain ⟨nodup, range, low, high⟩ := law
  have free : s.loadNumber ∉ s.numbersInUse := freeLoadNumber_free (State.numbersInUse_length records) low high
  rw [State.mem_numbersInUse, not_or] at free
  obtain ⟨notHeld, notQueued⟩ := free
  obtain ⟨loads, queued, apart⟩ := s.numbersInUse_nodup_iff.1 nodup
  have number (b : Arm) : (s.authorized a n preset bill).numberAt b = if b = a then some s.loadNumber else s.numberAt b := by
    rw [State.numberAt, State.authorized_record]
    split
    · rfl
    · rfl
  have cases_number {b : Arm} {m : Nat} (h : (s.authorized a n preset bill).numberAt b = some m) :
      (b = a ∧ m = s.loadNumber) ∨ (b ≠ a ∧ s.numberAt b = some m) := by
    rw [number] at h
    split at h
    · next e => exact .inl ⟨e, (Option.some.inj h).symm⟩
    · next e => exact .inr ⟨e, h⟩
  refine ⟨State.numbersInUse_nodup_iff _ |>.2 ⟨?_, queued, ?_⟩, ?_, nextLoadNumber_range _⟩
  · intro b c m hb hc
    obtain ⟨eb, em⟩ | ⟨-, heldB⟩ := cases_number hb
    · obtain ⟨ec, -⟩ | ⟨-, heldC⟩ := cases_number hc
      · rw [eb, ec]
      · exact absurd ⟨c, em ▸ heldC⟩ notHeld
    · obtain ⟨-, em⟩ | ⟨-, heldC⟩ := cases_number hc
      · exact absurd ⟨b, em ▸ heldB⟩ notHeld
      · exact loads b c m heldB heldC
  · intro b m hb
    obtain ⟨rfl, rfl⟩ | ⟨-, hb⟩ := cases_number hb
    · exact notQueued
    · exact apart b m hb
  · intro m mem
    rw [State.mem_numbersInUse] at mem
    obtain ⟨b, hb⟩ | mem := mem
    · obtain ⟨rfl, rfl⟩ | ⟨-, hb⟩ := cases_number hb
      · exact freeLoadNumber_range _ _ ⟨low, high⟩
      · exact range m ((s.mem_numbersInUse m).2 (.inl ⟨b, hb⟩))
    · exact range m ((s.mem_numbersInUse m).2 (.inr mem))

theorem State.authorized_referenceLaw (idle : s.record a = none) {n : EntryNo} (active : (s.recipes.get n).state = .active)
    (law : s.referenceLaw) (preset : Nat) (bill : List Byte) : (s.authorized a n preset bill).referenceLaw := by
  intro m
  obtain ⟨count, empty, withdrawn⟩ := law m
  have others (b : Arm) (ne : b ≠ a) : (s.authorized a n preset bill).names b m = s.names b m :=
    State.names_of_record (by rw [State.authorized_record, if_neg ne]) m
  have before : s.names a m = false := by rw [State.names, idle]; rfl
  have after : (s.authorized a n preset bill).names a m = decide (n = m) := by
    rw [State.names, State.authorized_record, if_pos rfl]; rfl
  have recipes : (s.authorized a n preset bill).recipes = s.recipes.upd n fun e => { e with refCount := e.refCount + 1 } := rfl
  rw [recipes, Bank.get_upd]
  by_cases e : m = n
  · subst e
    rw [if_pos rfl, State.armsOn_length_succ others before (after.trans (decide_eq_true rfl))]
    exact ⟨congrArg (· + 1) count, fun h => absurd (active.symm.trans h) (by decide), fun _ => Nat.le_add_left _ _⟩
  · have same : (s.authorized a n preset bill).armsOn m = s.armsOn m := State.armsOn_congr fun b => by
      by_cases h : b = a
      · rw [h, before, after]; exact decide_eq_false (Ne.symm e)
      · exact others b h
    rw [if_neg e, same]
    exact ⟨count, empty, withdrawn⟩

/-- What holds of every load and of the new record holds of every load after an acceptance. -/
theorem State.authorized_loads {law : LoadRecord → Prop} {n : EntryNo} {preset : Nat} {bill : List Byte}
    (new : law (s.newRecord n preset bill)) (loads : ∀ b, (s.record b).elim True law) (b : Arm) :
    ((s.authorized a n preset bill).record b).elim True law := by
  rw [State.authorized_record]
  split
  · exact new
  · exact loads b

theorem State.authorized_timerLaw (idle : s.record a = none) (law : s.timerLaw) (n : EntryNo) (preset : Nat)
    (bill : List Byte) : (s.authorized a n preset bill).timerLaw := by
  intro b
  rw [State.phase, State.authorized_record]
  by_cases e : b = a
  · subst e
    obtain ⟨noFlow, -, -, settle⟩ := law b
    rw [State.phase, idle] at noFlow settle
    have get : (s.authorized b n preset bill).arms.get b = { s.arms.get b with
        occ := .loaded (s.newRecord n preset bill), window := Timer.startSeconds s.settings.window,
        linkSilence := Timer.startSeconds s.settings.linkSilence } := Bank.get_upd_same ..
    rw [get, if_pos rfl]
    exact ⟨noFlow.trans (by simp [State.newRecord]), iff_of_true rfl rfl, iff_of_true rfl rfl,
      settle.trans (by simp [State.newRecord])⟩
  · have get : (s.authorized a n preset bill).arms.get b = s.arms.get b := Bank.get_upd_of_ne _ _ e
    rw [get, if_neg e]
    exact law b

theorem State.authorized_itemLaw (law : s.itemLaw) (n : EntryNo) (preset : Nat) (bill : List Byte) :
    (s.authorized a n preset bill).itemLaw := by
  obtain ⟨entries, loads⟩ := law
  refine ⟨fun m => ?_, State.authorized_loads ?_ loads⟩
  · change (((s.recipes.upd n _).get m).items.map AdditiveItem.unit).Nodup
    rw [Bank.get_upd]
    split
    · exact entries n
    · exact entries m
  · have units : (s.newRecord n preset bill).items.map LoadItem.unit = (s.recipes.get n).items.map AdditiveItem.unit := by
      simp only [State.newRecord, List.map_map]
      exact List.map_congr_left fun _ _ => rfl
    rw [units]
    exact entries n

theorem State.authorized_accountLaw (law : s.accountLaw) (n : EntryNo) (preset : Nat) (bill : List Byte) :
    (s.authorized a n preset bill).accountLaw := by
  obtain ⟨bounds, residues⟩ := law
  refine ⟨State.authorized_loads ⟨?_, fun i mem => ?_⟩ bounds, fun b m => ?_⟩
  · exact ⟨rfl, Nat.zero_le _, rfl, Nat.zero_le _, show 0 < 10000000 by decide, show 0 < 10000000 by decide, Nat.zero_le _⟩
  · obtain ⟨j, -, rfl⟩ := List.mem_map.1 mem
    exact ⟨Nat.zero_le _, Nat.zero_le _⟩
  · change ((s.meters.upd a _).get b |>.input m).residue < 1000
    rw [Bank.get_upd]
    split
    · cases m
      · exact Nat.zero_lt_succ _
      · exact Nat.zero_lt_succ _
    · exact residues b m

theorem State.authorized_codeLaw (law : s.codeLaw) (n : EntryNo) (preset : Nat) (bill : List Byte) :
    (s.authorized a n preset bill).codeLaw := by
  have same (i : EntryNo) : ((s.authorized a n preset bill).recipes.get i).state = (s.recipes.get i).state ∧
      ((s.authorized a n preset bill).recipes.get i).code = (s.recipes.get i).code := by
    change ((s.recipes.upd n _).get i).state = _ ∧ ((s.recipes.upd n _).get i).code = _
    rw [Bank.get_upd]
    split
    · next e => rw [e]; exact ⟨rfl, rfl⟩
    · exact ⟨rfl, rfl⟩
  intro i j hi hj
  rw [(same i).1] at hi
  rw [(same j).1] at hj
  rw [(same i).2, (same j).2]
  exact law i j hi hj

theorem State.LawsKept.authorized (idle : s.record a = none) {n : EntryNo} (active : (s.recipes.get n).state = .active)
    (preset : Nat) (bill : List Byte) : s.LawsKept (s.authorized a n preset bill) := by
  refine ⟨fun law => State.authorized_accountLaw law n preset bill, id, fun records => ⟨?_, ?_⟩⟩
  · obtain ⟨capacity, full, nodup, waiting⟩ := records
    refine ⟨capacity, full, nodup, fun b => (waiting b).trans ?_⟩
    rw [State.phase, State.phase, State.authorized_record]
    by_cases e : b = a
    · subst e; rw [idle]; simp [State.newRecord]
    · rw [if_neg e]
  · exact ⟨fun law => State.authorized_numberLaw idle records law n preset bill,
      fun law => State.authorized_codeLaw law n preset bill,
      fun law => State.authorized_referenceLaw idle active law preset bill,
      fun law => State.authorized_itemLaw law n preset bill, fun law => State.authorized_timerLaw idle law n preset bill,
      State.authorized_loads (fun on => absurd on Bool.false_ne_true),
      State.authorized_loads ⟨fun _ => rfl, (fun h => nomatch h)⟩⟩

/-- The product-code lookup finds an ACTIVE entry with the code (R44). -/
theorem State.lookup_eq_some {code : Nat} {n : EntryNo} (found : s.lookup code = some n) :
    (s.recipes.get n).state = .active ∧ (s.recipes.get n).code = code := by
  have := List.find?_some found
  simpa using this

theorem State.LawsKept.authorize (s : State) (a : Arm) (code preset : Nat) (bill : List Byte) :
    s.LawsKept (s.authorize a code preset bill).state := by
  unfold State.authorize
  split
  · exact .refl s
  · split
    · exact .refl s
    · split
      · exact .refl s
      · exact .refl s
    · next idle =>
      split
      · exact .refl s
      · next n found =>
        have vacant : s.record a = none := by rw [State.record, idle]; rfl
        have accepted := State.LawsKept.authorized vacant (State.lookup_eq_some found).1 preset bill
        dsimp only
        split
        · exact .refl s
        · split
          · exact .refl s
          · split
            · exact .refl s
            · exact accepted

/-! ### The Recipe Table -/

/-- A change of the recipe table alone that keeps its laws. -/
theorem State.LawsKept.of_recipes (arms : t.arms = s.arms) (records : t.records = s.records) (meters : t.meters = s.meters)
    (code : s.codeLaw → t.codeLaw) (reference : s.referenceLaw → t.referenceLaw)
    (entries : (∀ e : EntryNo, ((s.recipes.get e).items.map AdditiveItem.unit).Nodup) →
      ∀ e : EntryNo, ((t.recipes.get e).items.map AdditiveItem.unit).Nodup) : s.LawsKept t := by
  have record (b : Arm) : t.record b = s.record b := State.record_congr (by rw [arms])
  have phase (b : Arm) : t.phase b = s.phase b := State.phase_congr (by rw [arms])
  have meter (b : Arm) (m : Meter) : t.meter b m = s.meter b m := by rw [State.meter, meters]; rfl
  refine ⟨?_, ?_, ?_⟩
  · unfold State.accountLaw; simp only [record, meter]; exact id
  · unfold State.ageLaw; rw [records]; exact id
  · intro law
    refine ⟨?_, ?_, code, reference, ?_, ?_, ?_, ?_⟩
    · unfold State.recordLaw; simp only [records, phase]; exact law
    · unfold State.numberLaw State.numbersInUse; simp only [records, record]; exact id
    · rintro ⟨lists, loads⟩; exact ⟨entries lists, fun b => by rw [record]; exact loads b⟩
    · unfold State.timerLaw; simp only [phase, arms]; exact id
    · unfold State.restrictLaw; simp only [record]; exact id
    · unfold State.reasonLaw; simp only [record]; exact id

/-- Within the ranges of R39 the items name different units, and each unit there is. -/
theorem units_nodup_of_inRange {f : RecipeFields} (inRange : recipeInRange f = true) :
    ((f.items.map additiveItemOf).map AdditiveItem.unit).Nodup := by
  simp only [recipeInRange, Bool.and_eq_true, decide_eq_true_eq, List.all_eq_true] at inRange
  obtain ⟨⟨⟨⟨⟨⟨-, items⟩, -⟩, -⟩, nodup⟩, -⟩, -⟩ := inRange
  have small (i : AdditiveField) (mem : i ∈ f.items) : i.unit ≤ 3 := by
    have := items i mem
    simp only [additiveInRange, Bool.and_eq_true, decide_eq_true_eq] at this
    exact this.1.1.1
  rw [List.map_map]
  refine List.Nodup.map_on (fun i hi j hj same => List.inj_on_of_nodup_map nodup hi hj ?_) nodup.of_map
  have hi := small i hi
  have hj := small j hj
  simp only [Function.comp, additiveItemOf, Fin.ext_iff, Fin.ofNat] at same
  omega

theorem State.LawsKept.defineRecipe (s : State) (f : RecipeFields) : s.LawsKept (s.defineRecipe f).state := by
  unfold State.defineRecipe
  split
  · next h =>
    dsimp only
    split
    · exact .refl s
    · next empty =>
      split
      · exact .refl s
      · next inRange =>
        split
        · exact .refl s
        · next free =>
          rw [ne_eq, not_not] at empty
          rw [Bool.not_eq_true', Bool.not_eq_false] at inRange
          have untaken (j : EntryNo) (ne : j ≠ ⟨f.entry, h⟩) (active : (s.recipes.get j).state = .active) :
              (s.recipes.get j).code ≠ f.code := by
            intro same
            exact free (List.any_eq_true.2 ⟨j, List.mem_finRange j, by simp [ne, active, same]⟩)
          refine .of_recipes rfl rfl rfl (fun law i j hi hj same => ?_) (fun law n => ?_) fun lists n => ?_
          · simp only [Bank.get_upd] at hi hj same
            split at hi
            · next ei =>
              split at hj
              · next ej => rw [ei, ej]
              · next ej => rw [if_pos ei, if_neg ej] at same; exact absurd same.symm (untaken j ej hj)
            · next ei =>
              split at hj
              · next ej => rw [if_neg ei, if_pos ej] at same; exact absurd same (untaken i ei hi)
              · next ej => rw [if_neg ei, if_neg ej] at same; exact law i j hi hj same
          · obtain ⟨count, unused, -⟩ := law n
            change ((s.recipes.upd _ _).get n).refCount = (s.armsOn n).length ∧ _
            simp only [Bank.get_upd]
            split
            · next e =>
              subst e
              refine ⟨?_, (fun h => nomatch h), (fun h => nomatch h)⟩
              rw [← count, unused empty]; rfl
            · exact law n
          · simp only [Bank.get_upd]
            split
            · exact units_nodup_of_inRange inRange
            · exact lists n
  · exact .refl s

theorem State.LawsKept.withdrawRecipe (s : State) (entry : Nat) : s.LawsKept (s.withdrawRecipe entry).state := by
  unfold State.withdrawRecipe
  split
  · next h =>
    dsimp only
    split
    · exact .refl s
    · next active =>
      rw [ne_eq, not_not] at active
      have withdrawn (i : EntryNo) :
          ((s.recipes.put ⟨entry, h⟩ (s.recipes.get ⟨entry, h⟩).withdraw).get i).state = .active →
          i ≠ ⟨entry, h⟩ := by
        rintro hi rfl
        rw [Bank.get_put_same] at hi
        unfold RecipeEntry.withdraw at hi
        dsimp only at hi
        split at hi
        · cases hi
        · cases hi
      refine .of_recipes rfl rfl rfl (fun law i j hi hj => ?_) (fun law n => ?_) fun lists n => ?_
      · have ei := withdrawn i hi
        have ej := withdrawn j hj
        rw [Bank.get_put_of_ne _ _ ei] at hi
        rw [Bank.get_put_of_ne _ _ ej] at hj
        rw [Bank.get_put_of_ne _ _ ei, Bank.get_put_of_ne _ _ ej]
        exact law i j hi hj
      · obtain ⟨count, -, -⟩ := law n
        change ((s.recipes.put _ _).get n).refCount = (s.armsOn n).length ∧ _
        simp only [Bank.get_put]
        split
        · next e =>
          subst e
          unfold RecipeEntry.withdraw
          dsimp only
          refine ⟨count, ?_, ?_⟩
          · split
            · next zero => exact fun _ => zero
            · exact fun h => nomatch h
          · split
            · exact fun h => nomatch h
            · next some => exact fun _ => Nat.one_le_iff_ne_zero.2 some
        · exact law n
      · simp only [Bank.get_put]
        split
        · exact lists _
        · exact lists n
  · exact .refl s

end Sys2Proof.Machine
end


section
/-! Every command keeps the laws of the loads, the record queue, the age timer, the load numbers and the recipe table. -/

namespace Sys2Proof.Machine

variable {s t u : State} {a b : Arm} {c d e : ArmCtl} {r q : LoadRecord}

theorem State.CarriesOn.nextChannel (s : State) : s.CarriesOn s.nextChannel := .of_same rfl rfl rfl rfl

theorem State.LawsKept.modMeter (s : State) (a : Arm) (m : Meter) {f : MeterInput → MeterInput}
    (residue : ∀ x : MeterInput, x.residue < 1000 → (f x).residue < 1000) : s.LawsKept (s.modMeter a m f) :=
  (State.CarriesOn.modMeter s a m residue).kept

/-! ### Requests -/

theorem State.LawsKept.serve {l : Line} {c : Instr} {type : Nat} {x : Answer} (kept : s.LawsKept x.state) :
    s.LawsKept (s.serve l c type x) := by
  obtain same | ⟨p, served⟩ := s.serve_cases l c type x
  · rw [same]; exact .refl s
  · rw [served]; exact kept.trans (State.CarriesOn.modLine _ l _).kept

theorem State.CarriesOn.setMeters (s : State) (arm kb ke fb fe mb me : Nat) :
    s.CarriesOn (s.setMeters arm kb ke fb fe mb me).state := by
  unfold State.setMeters
  split
  · next h =>
    dsimp only
    split
    · exact .refl s
    · split
      · exact .refl s
      · refine ⟨fun _ => .refl _, .of_eq rfl rfl, rfl, fun b m => ?_⟩
        simp only [State.meter, State.modMeters_meters, Bank.get_upd]
        split
        · next e => subst e; cases m <;> exact id
        · exact id
  · exact .refl s

theorem State.CarriesOn.readMeters (s : State) (arm : Nat) : s.CarriesOn (s.readMeters arm).state := by
  unfold State.readMeters
  split
  · next h =>
    refine ⟨fun _ => .refl _, .of_eq rfl rfl, rfl, fun b m => ?_⟩
    simp only [State.meter, State.modMeters_meters, Bank.get_upd]
    split
    · next e => subst e; cases m <;> exact id
    · exact id
  · exact .refl s

/-- An arm without a load that goes into service or out of it. -/
theorem ArmCtl.CarriesOn.of_noLoad (before : c.occ.record = none) (after : d.occ.record = none)
    (timers : d.noFlow = c.noFlow ∧ d.window = c.window ∧ d.linkSilence = c.linkSilence ∧ d.settle = c.settle) :
    c.CarriesOn d := by
  obtain ⟨noFlow, window, silence, settle⟩ := timers
  have phase : d.phase = c.phase := by rw [ArmCtl.phase, ArmCtl.phase, before, after]
  refine ⟨⟨ArmCtl.timersOk_congr phase (by rw [noFlow]) (by rw [window]) (by rw [silence]) (by rw [settle]), ?_, ?_, ?_, ?_⟩,
    by rw [phase]⟩
  all_goals rw [before, after]
  all_goals exact id

theorem State.CarriesOn.setArmService (s : State) (arm service : Nat) : s.CarriesOn (s.setArmService arm service).state := by
  unfold State.setArmService
  split
  · next h =>
    dsimp only
    split
    · exact .refl s
    · split
      · split
        · next out =>
          split
          · exact .modArm (.of_noLoad (by rw [out]; rfl) rfl ⟨rfl, rfl, rfl, rfl⟩)
          · exact .refl s
        · exact .refl s
        · exact .refl s
      · split
        · exact .refl s
        · next idle => exact .modArm (.of_noLoad (by rw [idle]; rfl) rfl ⟨rfl, rfl, rfl, rfl⟩)
        · exact .refl s
  · exact .refl s

theorem State.CarriesOn.pause (s : State) (a : Arm) : s.CarriesOn (s.pause a).state := by
  unfold State.pause
  split
  · exact .refl s
  · next flowing => exact .enterPaused .driver flowing
  · next paused =>
    obtain ⟨r, load, phase⟩ := State.record_of_phase paused
    have loaded := (s.record_eq_some a r).1 load
    refine .modArm (.of_entry loaded (ArmCtl.mapRecord_loaded loaded) ?_ (fun _ _ => .inr rfl) ?_ id rfl (by simp [phase])
      (by simp))
    · simp [ArmCtl.timersIn, phase, Phase.haltable]
    · simp [LoadRecord.reasonOk, phase, Phase.haltable]
  · exact .refl s
  · exact .refl s

theorem State.CarriesOn.resume (s : State) (a : Arm) : s.CarriesOn (s.resume a).state := by
  unfold State.resume
  split
  · exact .refl s
  · next paused =>
    obtain ⟨r, load, phase⟩ := State.record_of_phase paused
    exact .enterFlowing load (.inr (by rw [phase]; rfl))
  · exact .refl s
  · exact .refl s

theorem State.CarriesOn.endLoad (s : State) (a : Arm) : s.CarriesOn (s.endLoad a).state := by
  have ended {p : Phase} (phase : s.phase a = some p) (incomplete : p ≠ .complete) : s.CarriesOn (s.enterFinishing a) := by
    obtain ⟨r, load, rfl⟩ := State.record_of_phase phase
    exact .enterFinishing load incomplete
  unfold State.endLoad
  split
  · exact .refl s
  · next phase => exact ended phase (by simp)
  · next phase => exact ended phase (by simp)
  · next phase => exact (ended phase (by simp)).trans (.finalShots _ a)
  · next phase => exact (ended phase (by simp)).trans (.finalShots _ a)
  · next phase => exact (ended phase (by simp)).trans (.finalShots _ a)
  · exact .refl s
  · exact .refl s

theorem State.LawsKept.aborted (load : s.record a = some r) (incomplete : r.phase ≠ .complete) :
    s.LawsKept (s.aborted a r) := by
  have flagged : s.CarriesOn (s.modRecord a fun r => { r with flags := { r.flags with aborted := true } }) :=
    .modRecord s a fun _ => ⟨rfl, rfl, rfl, rfl, rfl, rfl, id⟩
  have load' : (s.modRecord a fun r => { r with flags := { r.flags with aborted := true } }).record a =
      some { r with flags := { r.flags with aborted := true } } := by
    rw [State.modRecord_record, if_pos rfl, load]; rfl
  unfold State.aborted
  split
  · have unmarked := (flagged.trans (.clearMarks _ a)).trans (.leaveQueues _ a)
    exact iteInduction (motive := s.LawsKept) (fun _ => unmarked.kept.trans (.examine _ a)) fun _ => unmarked.kept
  · exact (flagged.trans (.enterFinishing load' incomplete)).kept

theorem State.LawsKept.abortLoad (s : State) (arm number : Nat) : s.LawsKept (s.abortLoad arm number).state := by
  unfold State.abortLoad
  dsimp only
  split
  · split
    · exact .refl s
    · next r load =>
      split
      · exact .refl s
      · next incomplete =>
        split
        · exact .refl s
        · exact .aborted load incomplete
  · exact .refl s

theorem State.CarriesOn.setHeader (s : State) (slots hold flowTimeout alpha threshold : Nat) :
    s.CarriesOn (s.setHeader slots hold flowTimeout alpha threshold).state := by
  have configured := State.CarriesOn.withHeader s (s.header.configure slots hold flowTimeout alpha threshold)
  unfold State.setHeader State.slotsChanged
  dsimp only
  split
  · exact configured.trans (.revokeFrom _ _)
  · split
    · exact configured.trans (.grants _)
    · exact configured

theorem State.CarriesOn.setUnit (s : State) (unit shot low timeout settle : Nat) :
    s.CarriesOn (s.setUnit unit shot low timeout settle).state := by
  unfold State.setUnit
  dsimp only
  split
  · split
    · exact .refl s
    · split
      · exact .refl s
      · exact (State.CarriesOn.modUnit s _ _).trans (.evalLow _ _)
  · exact .refl s

theorem State.LawsKept.setUnitService (s : State) (unit service : Nat) :
    s.LawsKept (s.setUnitService unit service).state := by
  unfold State.setUnitService
  dsimp only
  split
  · split
    · exact .refl s
    · split
      · split
        · split
          · exact .refl s
          · exact (State.CarriesOn.modUnit s _ _).kept.trans (.unitServes _ _)
        · exact .refl s
      · split
        · exact .refl s
        · exact .refl s
        · exact .refl s
        all_goals
          split
          · exact .refl s
          · exact (State.CarriesOn.modUnit s _ _).kept
  · exact .refl s

theorem State.LawsKept.refillUnit (s : State) (unit volume : Nat) : s.LawsKept (s.refillUnit unit volume).state := by
  unfold State.refillUnit
  dsimp only
  split
  · split
    · exact .refl s
    · exact .refill s _ volume
  · exact .refl s

theorem State.LawsKept.clearUnit (s : State) (unit : Nat) : s.LawsKept (s.clearUnit unit).state := by
  unfold State.clearUnit
  dsimp only
  split
  · split
    · exact (State.CarriesOn.modUnit s _ _).kept.trans (.unitServes _ _)
    · exact .refl s
  · exact .refl s

theorem State.CarriesOn.setStopInputs (s : State) (e0 e1 e2 e3 : Nat) : s.CarriesOn (s.setStopInputs e0 e1 e2 e3).state := by
  have enabled : s.CarriesOn { s with stop := s.stop.enable (enablesTaken e0 e1 e2 e3) } := .of_same rfl rfl rfl rfl
  unfold State.setStopInputs
  split
  · exact .refl s
  · exact enabled.trans (.stopByEnable _)

theorem State.CarriesOn.terminalResume (s : State) : s.CarriesOn s.terminalResume.state := by
  unfold State.terminalResume
  dsimp only
  split
  · exact .refl s
  · split
    · exact .refl s
    · exact .clearLatch s

theorem State.CarriesOn.readNoticeSupervisor (s : State) : s.CarriesOn s.readNoticeSupervisor.state := by
  unfold State.readNoticeSupervisor
  split
  · exact .refl s
  · exact .of_same rfl rfl rfl rfl

theorem State.CarriesOn.readNoticeArm (s : State) (n : Arm) : s.CarriesOn (s.readNoticeArm n).state := by
  unfold State.readNoticeArm
  split
  · exact .refl s
  · exact .of_same rfl rfl rfl rfl

/-! ### Telegrams, replies and resets -/

theorem Timer.retrigger_runs (x : Timer) (n : Nat) : (x.retrigger n).runs = x.runs := by
  unfold Timer.retrigger
  split
  · next h => rw [h]; rfl
  · rfl

theorem State.CarriesOn.checkTelegram (s : State) (l : Line) (chars : List Byte) : s.CarriesOn (s.checkTelegram l chars) := by
  have heard : s.CarriesOn (s.heard l) := by
    cases l with
    | supervisor => exact .refl s
    | arm n => exact .modArm (.of_occ rfl (ArmCtl.timersOk_congr rfl rfl rfl (Timer.retrigger_runs _ _) Iff.rfl))
  unfold State.checkTelegram
  split
  · exact .refl s
  · split
    · exact .modLine s l _
    · split
      · exact .modLine s l _
      · exact heard.trans (.modLine _ l _)

theorem State.CarriesOn.replyStart (s : State) : s.CarriesOn s.replyStart :=
  iteInduction (motive := s.CarriesOn) (fun _ => .of_same rfl rfl rfl rfl) fun _ => .refl s

/-- After a reset every law holds, whatever held before. -/
theorem State.LawsKept.resetTo (s u : State) (p : Pins) : s.LawsKept (u.resetTo p) :=
  ⟨fun _ => State.resetWith_accountLaw p, fun _ => State.resetWith_ageLaw p, fun _ => ⟨State.resetWith_recordLaw p,
    fun _ => State.resetWith_numberLaw p, fun _ => State.resetWith_codeLaw p, fun _ => State.resetWith_referenceLaw p,
    fun _ => State.resetWith_itemLaw p, fun _ => State.resetWith_timerLaw p, fun _ => State.resetWith_restrictLaw p,
    fun _ => State.resetWith_reasonLaw p⟩⟩

theorem State.LawsKept.replySent (s : State) (l : Line) : s.LawsKept (s.replySent l) := by
  unfold State.replySent
  split
  · exact .refl s
  · split
    · exact .resetTo s _ _
    · have emptied := State.CarriesOn.modLine s l fun y => { y with slot := none }
      cases l with
      | supervisor =>
        refine (emptied.trans ?_).kept
        exact .of_same rfl rfl rfl rfl
      | arm n => exact emptied.kept

theorem State.CarriesOn.receiveSupervisor (s : State) (data : Byte) (marker stopHigh : Bool) :
    s.CarriesOn (s.receiveSupervisor data marker stopHigh) := by
  unfold State.receiveSupervisor
  split
  · exact .refl s
  · split
    · exact .of_same rfl rfl rfl rfl
    · exact .modLine s .supervisor _

/-! ### Every command -/

/-- From `s`, where this outcome is a next state, that state keeps the laws. -/
def LawsKeptFrom (s : State) (o : Host.Outcome State Fault Refusal) : Prop := ∀ t, o = .next t → s.LawsKept t

theorem LawsKeptFrom.next (kept : s.LawsKept t) : LawsKeptFrom s (.next t) := by
  rintro _ ⟨⟩
  exact kept

theorem LawsKeptFrom.carriesOn (on : s.CarriesOn t) : LawsKeptFrom s (.next t) := .next on.kept

/-- An event that has its effect where its condition holds, and none otherwise (log entry 4). -/
theorem LawsKeptFrom.event {c : Prop} [Decidable c] (effect : c → s.LawsKept t) :
    LawsKeptFrom s (if c then .next t else .next s) :=
  iteInduction (fun h => .next (effect h)) fun _ => .next (.refl s)

theorem LawsKeptFrom.request {l : Line} {c : Instr} {type : Nat} {x : Answer} (effect : s.LawsKept x.state) :
    LawsKeptFrom s (.next (s.serve l c type x)) :=
  .next (.serve effect)

theorem LawsKeptFrom.requestReads {l : Line} {c : Instr} {type : Nat} {x : Answer} (same : x.state = s) :
    LawsKeptFrom s (.next (s.serve l c type x)) :=
  .request (by rw [same]; exact .refl s)

theorem execMeterLevelChange_lawsKept (s : State) (a : Arm) (m : Meter) (high : Bool) :
    LawsKeptFrom s (execMeterLevelChange a m high s) := by
  have presented := State.CarriesOn.modMeter s a m (f := fun y => y.present high) fun x h => by
    unfold MeterInput.present; split <;> exact h
  unfold execMeterLevelChange
  dsimp only
  split
  · split
    · exact .carriesOn (presented.trans (.pulse _ a m))
    · exact .carriesOn (presented.trans (.modMeter _ a m fun _ h => h))
  · exact .carriesOn presented

/-! #### Expiries: a due timer is one that runs, and the load state it runs in is the one its expiry ends -/

/-- An entry into PAUSED stops the no-flow timer, stopped before or not. -/
theorem State.enterPaused_stopped (s : State) (a : Arm) (cause : PauseCause) :
    (s.modArm a fun c => { c with noFlow := .stopped }).enterPaused a cause = s.enterPaused a cause := by
  have entered : (((s.modArm a fun c => { c with noFlow := .stopped }).setPhase a (.paused cause)).modArm a
      fun x => { x with noFlow := .stopped }) = (s.setPhase a (.paused cause)).modArm a fun x => { x with noFlow := .stopped } := by
    simp only [State.setPhase, State.modRecord, State.modArm, Bank.upd_upd]
    rfl
  unfold State.enterPaused
  rw [entered]

/-- An entry into HALTED stops the link-silence timer, stopped before or not. -/
theorem State.enterHalted_stopped (s : State) (a : Arm) (why : HaltReason) :
    (s.modArm a fun c => { c with linkSilence := .stopped }).enterHalted a why = s.enterHalted a why := by
  have entered : (((s.modArm a fun c => { c with linkSilence := .stopped }).modRecord a
      fun r => { r with phase := .halted, haltReason := some (r.haltReason.getD why) }).modArm a
        fun x => { x with noFlow := .stopped, linkSilence := .stopped, window := .stopped }) =
      (s.modRecord a fun r => { r with phase := .halted, haltReason := some (r.haltReason.getD why) }).modArm a
        fun x => { x with noFlow := .stopped, linkSilence := .stopped, window := .stopped } := by
    simp only [State.modRecord, State.modArm, Bank.upd_upd]
    rfl
  unfold State.enterHalted
  dsimp only
  rw [entered]

/-- The load with its EXPIRED flag set (R100). -/
def LoadRecord.setExpired (r : LoadRecord) : LoadRecord := { r with flags := { r.flags with expired := true } }

/-- An entry into FINISHING stops the window timer, stopped before or not. -/
theorem State.enterFinishing_stopped (s : State) (a : Arm) (f : LoadRecord → LoadRecord) :
    ((s.modArm a fun c => { c with window := .stopped }).modRecord a f).enterFinishing a = (s.modRecord a f).enterFinishing a := by
  have entered : ((((s.modArm a fun c => { c with window := .stopped }).modRecord a f).setPhase a .finishing).modArm a
      fun x => { x with noFlow := .stopped, linkSilence := .stopped, window := .stopped, settle := Timer.startSeconds s.settings.settle }) =
      ((s.modRecord a f).setPhase a .finishing).modArm a fun x =>
        { x with noFlow := .stopped, linkSilence := .stopped, window := .stopped, settle := Timer.startSeconds s.settings.settle } := by
    simp only [State.setPhase, State.modRecord, State.modArm, Bank.upd_upd]
    rfl
  unfold State.enterFinishing
  dsimp only [State.modRecord_settings, State.modArm_settings]
  rw [entered]

theorem execNoFlowExpiry_lawsKept (s : State) (a : Arm) : LawsKeptFrom s (execNoFlowExpiry a s) := by
  unfold execNoFlowExpiry
  split
  · next due =>
    dsimp only
    split
    · next flowing => rw [State.enterPaused_stopped]; exact .carriesOn (.enterPaused .noFlow flowing)
    · next notFlowing =>
      exact .carriesOn (.modArm (.of_occ rfl fun ⟨noFlow, _⟩ => absurd (noFlow.1 (Timer.runs_of_due due)) notFlowing))
  · exact .next (.refl s)

theorem execLinkSilenceExpiry_lawsKept (s : State) (a : Arm) : LawsKeptFrom s (execLinkSilenceExpiry a s) := by
  unfold execLinkSilenceExpiry
  split
  · next due =>
    refine .carriesOn ?_
    by_cases haltable : (s.phase a).any Phase.haltable = true
    · obtain ⟨r, load, live⟩ : ∃ r, s.record a = some r ∧ r.phase.haltable = true := by
        rw [State.phase, Option.any_map] at haltable
        exact (Option.any_eq_true _ _).1 haltable
      have load' : (s.modArm a fun c => { c with linkSilence := .stopped }).record a = some r := by
        rw [State.record, State.modArm_arms, Bank.get_upd_same]; exact load
      rw [State.halt_of_haltable load' live, State.enterHalted_stopped]
      exact .enterHalted load live .linkSilent
    · refine State.CarriesOn.trans (.modArm (.of_occ rfl fun ⟨_, _, silence, _⟩ => ?_)) (.halt _ a .linkSilent)
      exact absurd (silence.1 (Timer.runs_of_due due)) haltable
  · exact .next (.refl s)

theorem execAuthorizationWindowExpiry_lawsKept (s : State) (a : Arm) :
    LawsKeptFrom s (execAuthorizationWindowExpiry a s) := by
  unfold execAuthorizationWindowExpiry
  split
  · next due =>
    dsimp only
    split
    · next authorized =>
      obtain ⟨r, load, phase⟩ := State.record_of_phase authorized
      have load' : (s.modRecord a LoadRecord.setExpired).record a = some r.setExpired := by
        rw [State.modRecord_record, if_pos rfl, load]; rfl
      have flagged : s.CarriesOn (s.modRecord a LoadRecord.setExpired) :=
        .modRecord s a fun _ => ⟨rfl, rfl, rfl, rfl, rfl, rfl, id⟩
      refine .carriesOn ?_
      rw [State.enterFinishing_stopped]
      exact flagged.trans (.enterFinishing load' (by rw [LoadRecord.setExpired, phase]; simp))
    · next notAuthorized =>
      exact .carriesOn (.modArm (.of_occ rfl fun ⟨_, window, _⟩ => absurd (window.1 (Timer.runs_of_due due)) notAuthorized))
  · exact .next (.refl s)

theorem execSettleExpiry_lawsKept (s : State) (a : Arm) : LawsKeptFrom s (execSettleExpiry a s) := by
  unfold execSettleExpiry
  refine .event fun due => ?_
  have runs : (s.arms.get a).settle ≠ .stopped := by rw [(Timer.due_eq_true _).1 due]; simp
  have expired : s.CarriesOn (s.modArm a fun c => { c with settle := .expired }) :=
    .modArm (.of_occ rfl (ArmCtl.timersOk_congr rfl rfl rfl rfl (by simp [runs])))
  exact expired.kept.trans (.examine _ a)

theorem execStrokeTimeout_lawsKept (s : State) (u : UnitNo) : LawsKeptFrom s (execStrokeTimeout u s) := by
  unfold execStrokeTimeout
  dsimp only
  split
  · exact .event fun _ => .strokeFailed s u _
  · exact .next (.refl s)

theorem execTerminalStopHalt_lawsKept (s : State) (a : Arm) : LawsKeptFrom s (execTerminalStopHalt a s) := by
  unfold execTerminalStopHalt
  split
  · exact .next (.refl s)
  · refine .event fun _ => (State.CarriesOn.trans ?_ (.halt _ a .terminalStop)).kept
    exact .modRecord s a fun _ => ⟨rfl, rfl, rfl, rfl, rfl, rfl, id⟩

theorem execAdditiveLostHalt_lawsKept (s : State) (a : Arm) (u : UnitNo) :
    LawsKeptFrom s (execAdditiveLostHalt a u s) := by
  unfold execAdditiveLostHalt
  split
  · exact .next (.refl s)
  · refine .event fun _ => (State.CarriesOn.trans ?_ (.halt _ a (.additiveLost u))).kept
    exact .modRecord s a fun _ => ⟨rfl, rfl, rfl, rfl, rfl, rfl, id⟩

theorem execStopInputAcceptedEdge_lawsKept (s : State) (i : StopNo) : LawsKeptFrom s (execStopInputAcceptedEdge i s) := by
  have edge : s.CarriesOn (s.modStop i fun y => { y with accepted := y.presented, test := none }) :=
    .of_same rfl rfl rfl rfl
  unfold execStopInputAcceptedEdge
  dsimp only
  split
  · split
    · exact .carriesOn (edge.trans (.setLatch _ _))
    · exact .carriesOn edge
  · exact .next (.refl s)

theorem execCharacterReceived_lawsKept (s : State) (l : Line) (data : Byte) (marker stopHigh : Bool) :
    LawsKeptFrom s (execCharacterReceived l data marker stopHigh s) := by
  cases l with
  | supervisor => exact .carriesOn (.receiveSupervisor s data marker stopHigh)
  | arm n => exact .carriesOn (.modLine s (.arm n) _)

theorem execTelegramReceived_lawsKept (s : State) (l : Line) : LawsKeptFrom s (execTelegramReceived l s) := by
  unfold execTelegramReceived
  split
  · exact .next (.refl s)
  · next rest _ =>
    have taken := State.CarriesOn.modLine s l fun y => { y with received := rest }
    dsimp only
    split
    · exact .carriesOn (taken.trans (.modLine _ l _))
    · exact .carriesOn (taken.trans (.checkTelegram _ l _))

theorem execReplySent_lawsKept (s : State) (l : Line) : LawsKeptFrom s (execReplySent l s) := by
  unfold execReplySent
  split
  · cases l with
    | supervisor => exact .next ((State.CarriesOn.replyStart s).kept.trans (.replySent _ .supervisor))
    | arm n => exact .next (.replySent s (.arm n))
  · exact .next (.refl s)

/-- The age timer's expiry starts it again: it runs before and after (R167). -/
theorem execAgeTimerExpiry_lawsKept (s : State) : LawsKeptFrom s (execAgeTimerExpiry s) := by
  unfold execAgeTimerExpiry
  refine .event fun due => ?_
  have same : s.CarriesOn (State.recordsWaiting
      { s with records := { s.records with ageTimer := Timer.startSeconds s.records.ageTimeout } }) :=
    ⟨fun _ => .refl _, ⟨rfl, rfl, (Timer.runs_of_due due).symm, rfl⟩, rfl, fun _ _ => id⟩
  exact same.kept

/-- Every command keeps the laws. -/
theorem exec_lawsKept (s : State) (c : Instr) : LawsKeptFrom s (exec c s) := by
  have unchanged (t : State) (arms : t.arms = s.arms) (records : t.records = s.records) (recipes : t.recipes = s.recipes)
      (meters : t.meters = s.meters) : s.LawsKept t :=
    (State.CarriesOn.of_same arms records recipes meters).kept
  cases c with
  | meterLevelChange a m high => exact execMeterLevelChange_lawsKept s a m high
  | meterPulseAcceptance a m => exact .event fun _ => (State.CarriesOn.pulse s a m).kept
  | capExpiry a m => exact .event fun _ => .modMeter s a m fun _ h => h
  | idleExpiry a m => exact .event fun _ => .modMeter s a m fun _ h => h
  | meterAcceptedFallingEdge a m => exact .event fun _ => .modMeter s a m fun _ h => h
  | setMeters arm kb ke fb fe mb me => exact .request (State.CarriesOn.setMeters s arm kb ke fb fe mb me).kept
  | readMeters arm => exact .request (State.CarriesOn.readMeters s arm).kept
  | scanConversionComplete code =>
    exact .event fun _ => ((State.CarriesOn.takeCode s code.toNat).trans (.nextChannel _)).kept
  | readScan => exact .requestReads rfl
  | defineRecipe f => exact .request (.defineRecipe s f)
  | withdrawRecipe entry => exact .request (.withdrawRecipe s entry)
  | readRecipe entry => exact .requestReads (s.readRecipe_state entry)
  | setArmService arm service => exact .request (State.CarriesOn.setArmService s arm service).kept
  | authorize n code preset bill => exact .request (.authorize s n code preset bill)
  | pause n => exact .request (State.CarriesOn.pause s n).kept
  | resume n => exact .request (State.CarriesOn.resume s n).kept
  | endLoad n => exact .request (State.CarriesOn.endLoad s n).kept
  | abortLoad arm number => exact .request (.abortLoad s arm number)
  | noFlowExpiry n => exact execNoFlowExpiry_lawsKept s n
  | linkSilenceExpiry n => exact execLinkSilenceExpiry_lawsKept s n
  | authorizationWindowExpiry n => exact execAuthorizationWindowExpiry_lawsKept s n
  | settleExpiry n => exact execSettleExpiry_lawsKept s n
  | setStation nf ls w st al => exact .request (unchanged _ rfl rfl rfl rfl)
  | loadStatus n => exact .requestReads (s.loadStatus_state n)
  | readLoad arm => exact .requestReads (s.readLoad_state arm)
  | lastSummaryArm n => exact .requestReads (s.lastSummary_state n)
  | lastSummarySupervisor arm => exact .requestReads (s.lastSummaryOf_state arm)
  | holdTimerExpiry n => exact .event fun _ => (State.CarriesOn.holdExpires s n).kept
  | ethanolFlowTimerExpiry n => exact .event fun _ => (State.CarriesOn.halt s n _).kept
  | setHeader slots hold flow alpha threshold =>
    exact .request (State.CarriesOn.setHeader s slots hold flow alpha threshold).kept
  | readHeader => exact .requestReads rfl
  | unitSettleExpiry u => exact .event fun _ => (State.CarriesOn.modUnit s u _).kept
  | strokeConfirmLevelChange u high => exact .carriesOn (.modUnit s u _)
  | strokeConfirmation u => exact .event fun _ => (State.CarriesOn.modUnit s u _).kept.trans (.confirmation _ u)
  | confirmAcceptedFallingEdge u => exact .event fun _ => (State.CarriesOn.modUnit s u _).kept
  | strokeTimeout u => exact execStrokeTimeout_lawsKept s u
  | additiveLostHalt n u => exact execAdditiveLostHalt_lawsKept s n u
  | setUnit unit shot low timeout settle => exact .request (State.CarriesOn.setUnit s unit shot low timeout settle).kept
  | setUnitService unit service => exact .request (.setUnitService s unit service)
  | refillUnit unit volume => exact .request (.refillUnit s unit volume)
  | clearUnit unit => exact .request (.clearUnit s unit)
  | readUnit unit => exact .requestReads (s.readUnit_state unit)
  | readRecord => exact .requestReads s.readRecord_state
  | removeRecord number => exact .request (.removeRecord s number)
  | waitListHandOff => exact .next (.waitHandOff s)
  | ageTimerExpiry => exact execAgeTimerExpiry_lawsKept s
  | setRecordNotice trigger age =>
    have same : s.CarriesOn (s.setRecordNotice trigger age).state :=
      ⟨fun _ => .refl _, ⟨rfl, rfl, rfl, rfl⟩, rfl, fun _ _ => id⟩
    exact .request same.kept
  | stopInputLevelChange i high => exact .next (unchanged _ rfl rfl rfl rfl)
  | stopInputAcceptedEdge i => exact execStopInputAcceptedEdge_lawsKept s i
  | terminalStopHalt n => exact execTerminalStopHalt_lawsKept s n
  | setStopInputs e0 e1 e2 e3 => exact .request (State.CarriesOn.setStopInputs s e0 e1 e2 e3).kept
  | terminalStop => exact .request (State.CarriesOn.setLatch s .supervisor).kept
  | terminalResume => exact .request (State.CarriesOn.terminalResume s).kept
  | characterReceived l data marker stopHigh => exact execCharacterReceived_lawsKept s l data marker stopHigh
  | characterGapTimeout l => exact .event fun _ => (State.CarriesOn.modLine s l _).kept
  | telegramReceived l => exact execTelegramReceived_lawsKept s l
  | replyStart => exact .carriesOn (.replyStart s)
  | replySent l => exact execReplySent_lawsKept s l
  | powerOnReset pins => exact .next (.resetTo s s pins)
  | readLines => exact .request (unchanged _ rfl rfl rfl rfl)
  | readNoticeSupervisor => exact .request (State.CarriesOn.readNoticeSupervisor s).kept
  | readNoticeArm n => exact .request (State.CarriesOn.readNoticeArm s n).kept
  | stationClockAdvance => exact .event fun _ => unchanged _ rfl rfl rfl rfl
  | setClock count => exact .request (unchanged _ rfl rfl rfl rfl)
  | readStation => exact .requestReads rfl
  | restart force => exact .requestReads (s.restartAnswer_state force)

theorem step_lawsKept (s : State) : LawsKeptFrom s (step s) := by
  unfold step
  split
  · exact .carriesOn (.tick s)
  · next c rest _ =>
    intro t stepped
    have taken : s.CarriesOn { s with pending := rest } := .of_same rfl rfl rfl rfl
    exact taken.kept.trans (exec_lawsKept _ c t stepped)

end Sys2Proof.Machine

namespace Sys2Proof.Proofs

open Sys2Proof.Machine

/-- Settles O5: what each command does to the queue, to the loads in COMPLETE and to the numbers in use keeps the three laws. -/
theorem recordLawsKept : Obligations.RecordLawsKept := by
  unfold Obligations.RecordLawsKept
  intro s t records age numbers stepped
  have kept := step_lawsKept s t stepped
  obtain ⟨after, books⟩ := kept.books records
  exact ⟨after, kept.age age, books.number numbers⟩

/-- Settles O10: no command takes an account past its bound, and a pulse leaves its residue below a millilitre. -/
theorem accountLawKept : Obligations.AccountLawKept := by
  unfold Obligations.AccountLawKept
  intro s t law stepped
  exact (step_lawsKept s t stepped).account law

/-- Settles O11: definitions and withdrawals keep the recipe table's laws, and acceptances and hand-offs keep the counts. -/
theorem recipeLawKept : Obligations.RecipeLawKept := by
  unfold Obligations.RecipeLawKept
  intro s t code reference item records stepped
  obtain ⟨-, books⟩ := (step_lawsKept s t stepped).books records
  exact ⟨books.code code, books.reference reference, books.item item⟩

/-- Settles O12: each entry into a load state leaves the timers, the restrict state and the halt reason that go with it. -/
theorem loadStateLawKept : Obligations.LoadStateLawKept := by
  unfold Obligations.LoadStateLawKept
  intro s t timers restrict reason records stepped
  obtain ⟨-, books⟩ := (step_lawsKept s t stepped).books records
  exact ⟨books.timer timers, books.restrict restrict, books.reason reason⟩

end Sys2Proof.Proofs
end


section
/-! The law of the shot queues (R133, R135), operation by operation: which arms stay queued, and that each of them may be. -/

namespace Sys2Proof.Machine

variable {s t x : State} {a b : Arm} {u v : UnitNo} {r q : LoadRecord}

/-! ### The arms that may stand in a shot queue -/

/-- The load may wait for a shot of unit `u`: in FLOWING or FLUSH, or in FINISHING with a set mark for the unit (R133,
R135). -/
def LoadRecord.mayQueue (r : LoadRecord) (u : UnitNo) : Prop :=
  r.phase = .flowing ∨ r.phase = .flush ∨ (r.phase = .finishing ∧ r.marked u = true)

/-- Arm `a` holds a load that may wait for a shot of unit `u`. -/
def State.mayQueue (s : State) (u : UnitNo) (a : Arm) : Prop := ∃ r, s.record a = some r ∧ r.mayQueue u

theorem State.shotQueueLaw_iff (s : State) :
    s.shotQueueLaw ↔ ∀ u : UnitNo, (s.units.get u).queue.Nodup ∧
      ∀ a ∈ (s.units.get u).queue, (s.units.get u).inFlight ≠ some a ∧ s.mayQueue u a := by
  refine forall_congr' fun u => and_congr Iff.rfl (forall₂_congr fun a _ => and_congr Iff.rfl ?_)
  rw [State.mayQueue, State.phase]
  cases s.record a with
  | none => simp
  | some r => simp [LoadRecord.mayQueue]

theorem State.mayQueue_congr (arms : t.arms.get b = s.arms.get b) : t.mayQueue v b ↔ s.mayQueue v b := by
  rw [State.mayQueue, State.mayQueue, State.record_congr arms]

/-- A change of a load record under which it may wait for the same shots. -/
def LoadRecord.QueuesAlike (r q : LoadRecord) : Prop := q.phase = r.phase ∧ ∀ u, q.marked u = r.marked u

theorem LoadRecord.QueuesAlike.mayQueue (alike : r.QueuesAlike q) (u : UnitNo) : q.mayQueue u ↔ r.mayQueue u := by
  obtain ⟨phase, marked⟩ := alike
  rw [LoadRecord.mayQueue, LoadRecord.mayQueue, phase, marked]

theorem LoadRecord.QueuesAlike.of_items (phase : q.phase = r.phase) (items : q.items = r.items) : r.QueuesAlike q :=
  ⟨phase, fun u => by rw [LoadRecord.marked, LoadRecord.marked, items]⟩

theorem LoadRecord.QueuesAlike.of_map {f : LoadItem → LoadItem} (phase : q.phase = r.phase) (items : q.items = r.items.map f)
    (same : ∀ i, (f i).unit = i.unit ∧ (f i).finalShot = i.finalShot) : r.QueuesAlike q := by
  refine ⟨phase, fun u => ?_⟩
  rw [LoadRecord.marked, LoadRecord.marked, items, List.any_map]
  congr 1
  funext i
  obtain ⟨unit, finalShot⟩ := same i
  rw [Function.comp, unit, finalShot]

theorem LoadRecord.QueuesAlike.account (r : LoadRecord) (d : Delivery) (x : Readings) : r.QueuesAlike (r.account d x) :=
  .of_map rfl rfl fun _ => ⟨rfl, rfl⟩

theorem LoadRecord.QueuesAlike.creditShot (r : LoadRecord) (u : UnitNo) (shot : Nat) : r.QueuesAlike (r.creditShot u shot) := by
  unfold LoadRecord.creditShot
  split
  · refine .of_map (f := fun i => if i.unit = u then i.credit shot r.acc.totalGross else i) rfl rfl fun i => ?_
    split
    · exact ⟨rfl, rfl⟩
    · exact ⟨rfl, rfl⟩
  · exact .of_items rfl rfl

theorem LoadRecord.QueuesAlike.handStop (r : LoadRecord) : r.QueuesAlike r.handStop := by
  unfold LoadRecord.handStop
  split
  · exact .of_items rfl rfl
  · exact .of_items rfl rfl

/-- What is done to the items of unit `u` leaves the marks of the other units. -/
theorem LoadRecord.marked_modItem_of_ne {f : LoadItem → LoadItem} (unit : ∀ i, (f i).unit = i.unit) (ne : v ≠ u)
    (r : LoadRecord) : (r.modItem u f).marked v = r.marked v := by
  simp only [LoadRecord.marked, LoadRecord.modItem, List.any_map]
  congr 1
  funext i
  rw [Function.comp]
  split
  · next e => rw [unit, e, decide_eq_false (Ne.symm ne)]; rfl
  · rfl

theorem LoadRecord.loseUnit_marked_of_ne (ne : v ≠ u) (r : LoadRecord) : (r.loseUnit u).marked v = r.marked v := by
  have cleared : (r.modItem u fun i => { i with finalShot := false }).marked v = r.marked v :=
    LoadRecord.marked_modItem_of_ne (f := fun i => { i with finalShot := false }) (fun _ => rfl) ne r
  unfold LoadRecord.loseUnit
  dsimp only
  split
  · exact cleared
  · split
    · split
      · exact cleared
      · exact Eq.trans (LoadRecord.marked_modItem_of_ne (f := fun j => { j with short := true }) (fun _ => rfl) ne
          (r.modItem u fun i => { i with finalShot := false })) cleared
    · exact cleared

theorem LoadRecord.mayQueue_of_ne (phase : q.phase = r.phase) (marked : q.marked v = r.marked v) :
    q.mayQueue v ↔ r.mayQueue v := by
  rw [LoadRecord.mayQueue, LoadRecord.mayQueue, phase, marked]

theorem State.mayQueue_of_mapRecord {f : LoadRecord → LoadRecord} (arms : t.arms.get b = (s.arms.get b).mapRecord f)
    (alike : ∀ r, (f r).mayQueue v ↔ r.mayQueue v) : t.mayQueue v b ↔ s.mayQueue v b := by
  have record : t.record b = (s.record b).map f := by
    rw [State.record, arms]; exact Occupancy.record_mapRecord _ f
  rw [State.mayQueue, State.mayQueue, record]
  cases s.record b with
  | none => simp
  | some r => simp [alike]

/-! ### Queues that only get shorter -/

/-- No arm joins a queue, and of those that stay none is taken in flight or may no longer wait. -/
structure State.QueuesKept (s t : State) : Prop where
  queue : ∀ u, (t.units.get u).queue.Sublist (s.units.get u).queue
  inFlight : ∀ u, ∀ b ∈ (t.units.get u).queue, (s.units.get u).inFlight ≠ some b → (t.units.get u).inFlight ≠ some b
  may : ∀ u, ∀ b ∈ (t.units.get u).queue, s.mayQueue u b → t.mayQueue u b

theorem State.shotQueueLaw_of_kept (law : s.shotQueueLaw) (kept : s.QueuesKept t) : t.shotQueueLaw := by
  rw [State.shotQueueLaw_iff] at law ⊢
  intro u
  obtain ⟨nodup, queued⟩ := law u
  refine ⟨nodup.sublist (kept.queue u), fun b mem => ?_⟩
  obtain ⟨notFlying, may⟩ := queued b ((kept.queue u).subset mem)
  exact ⟨kept.inFlight u b mem notFlying, kept.may u b mem may⟩

theorem State.QueuesKept.refl (s : State) : s.QueuesKept s :=
  ⟨fun _ => List.Sublist.refl _, fun _ _ _ => id, fun _ _ _ => id⟩

theorem State.QueuesKept.trans (first : s.QueuesKept t) (second : t.QueuesKept x) : s.QueuesKept x :=
  ⟨fun u => (second.queue u).trans (first.queue u),
    fun u b mem => second.inFlight u b mem ∘ first.inFlight u b ((second.queue u).subset mem),
    fun u b mem => second.may u b mem ∘ first.may u b ((second.queue u).subset mem)⟩

/-- The queues and the arms in flight are as they were, and so are the loads that may wait. -/
theorem State.QueuesKept.of_may
    (units : ∀ u, (t.units.get u).queue = (s.units.get u).queue ∧ (t.units.get u).inFlight = (s.units.get u).inFlight)
    (may : ∀ u b, s.mayQueue u b → t.mayQueue u b) : s.QueuesKept t := by
  refine ⟨fun u => ?_, fun u b _ => ?_, fun u b _ => may u b⟩
  · rw [(units u).1]
  · rw [(units u).2]; exact id

theorem State.QueuesKept.of_arms (units : t.units = s.units) (may : ∀ u b, s.mayQueue u b → t.mayQueue u b) :
    s.QueuesKept t := .of_may (fun u => by rw [units]; exact ⟨rfl, rfl⟩) may

/-- A change that touches neither the arms nor the units. -/
theorem State.QueuesKept.of_same (units : t.units = s.units) (arms : t.arms = s.arms) : s.QueuesKept t :=
  .of_arms units fun _ b => (State.mayQueue_congr (by rw [arms])).2

/-- A change of units that leaves their queues and the arms in flight. -/
theorem State.QueuesKept.modUnit (s : State) (u : UnitNo) {f : AdditiveUnit → AdditiveUnit}
    (same : ∀ y : AdditiveUnit, (f y).queue = y.queue ∧ (f y).inFlight = y.inFlight) : s.QueuesKept (s.modUnit u f) := by
  refine .of_may (fun v => ?_) fun _ _ => id
  simp only [State.modUnit_units, Bank.get_upd]
  split
  · next e => rw [e]; exact same _
  · exact ⟨rfl, rfl⟩

theorem State.QueuesKept.modRecord (s : State) (a : Arm) {f : LoadRecord → LoadRecord}
    (alike : ∀ r : LoadRecord, r.QueuesAlike (f r)) : s.QueuesKept (s.modRecord a f) := by
  refine .of_arms rfl fun v b => ?_
  by_cases e : b = a
  · subst e
    exact (State.mayQueue_of_mapRecord (f := f) (Bank.get_upd_same ..) fun r => (alike r).mayQueue v).2
  · exact (State.mayQueue_congr (Bank.get_upd_of_ne _ _ e)).2

theorem State.QueuesKept.modArm (s : State) (a : Arm) {f : ArmCtl → ArmCtl} (occ : ∀ c, (f c).occ = c.occ) :
    s.QueuesKept (s.modArm a f) := by
  refine .of_arms rfl fun v b => ?_
  by_cases e : b = a
  · subst e
    rw [State.mayQueue, State.mayQueue, State.record, State.record, State.modArm_arms, Bank.get_upd_same, occ]
    exact id
  · exact (State.mayQueue_congr (Bank.get_upd_of_ne _ _ e)).2

/-- A change of the one arm `a` that stands in no queue after it. -/
theorem State.QueuesKept.of_other_arms (queue : ∀ u, (t.units.get u).queue.Sublist (s.units.get u).queue)
    (inFlight : ∀ u, (t.units.get u).inFlight = (s.units.get u).inFlight)
    (others : ∀ b, b ≠ a → t.arms.get b = s.arms.get b) (out : ∀ u, a ∉ (t.units.get u).queue) : s.QueuesKept t := by
  refine ⟨queue, fun u b _ => by rw [inFlight]; exact id, fun u b mem => ?_⟩
  have ne : b ≠ a := fun e => out u (e ▸ mem)
  exact (State.mayQueue_congr (others b ne)).2

/-- An arm whose load may not wait stands in no queue. -/
theorem State.not_queued (law : s.shotQueueLaw) (may_not : ∀ u, ¬ s.mayQueue u a) (u : UnitNo) :
    a ∉ (s.units.get u).queue := fun mem => may_not u (((State.shotQueueLaw_iff s).1 law u).2 a mem).2

theorem State.not_mayQueue_of_noLoad (idle : s.record a = none) (u : UnitNo) : ¬ s.mayQueue u a := by
  rintro ⟨r, load, -⟩
  rw [idle] at load
  cases load

/-- A load in a state in which none waits for a shot. -/
theorem State.not_mayQueue_of_phase {p : Phase} (phase : s.phase a = some p)
    (idle : p ≠ .flowing ∧ p ≠ .flush ∧ p ≠ .finishing) (u : UnitNo) : ¬ s.mayQueue u a := by
  obtain ⟨notFlowing, notFlush, notFinishing⟩ := idle
  obtain ⟨q, load, rfl⟩ := (s.phase_eq_some a p).1 phase
  rintro ⟨r, load', may⟩
  rw [load] at load'
  cases load'
  obtain h | h | ⟨h, -⟩ := may
  · exact notFlowing h
  · exact notFlush h
  · exact notFinishing h

/-- A change of an arm whose load may not wait, which leaves the units alone. -/
theorem State.shotQueueLaw_of_idle_arm (law : s.shotQueueLaw) (units : t.units = s.units)
    (others : ∀ b, b ≠ a → t.arms.get b = s.arms.get b) (may_not : ∀ u, ¬ s.mayQueue u a) : t.shotQueueLaw := by
  refine State.shotQueueLaw_of_kept law (.of_other_arms (a := a) (fun u => by rw [units]) (fun u => by rw [units]) others
    fun u => ?_)
  rw [units]
  exact State.not_queued law may_not u

theorem State.QueuesKept.foldl {α : Type} {f : State → α → State} (step : ∀ (s : State) (y : α), s.QueuesKept (f s y))
    (l : List α) (s : State) : s.QueuesKept (l.foldl f s) := by
  induction l generalizing s with
  | nil => exact .refl s
  | cons y l ih => exact (step s y).trans (ih _)

/-! ### The header -/

theorem State.QueuesKept.grants (s : State) : s.QueuesKept s.grants := .of_same (by simp) (by simp)

theorem State.QueuesKept.withHeader (s : State) (h : Header) : s.QueuesKept { s with header := h } := .of_same rfl rfl

theorem State.QueuesKept.valveCloses (s : State) (a : Arm) : s.QueuesKept (s.valveCloses a) :=
  .modRecord s a fun _ => .of_items rfl rfl

theorem State.QueuesKept.releaseHolder (s : State) (a : Arm) : s.QueuesKept (s.releaseHolder a) :=
  (State.QueuesKept.withHeader s _).trans (.valveCloses _ a)

theorem State.QueuesKept.leaveHeader (s : State) (a : Arm) : s.QueuesKept (s.leaveHeader a) := by
  unfold State.leaveHeader
  split
  · exact (State.QueuesKept.releaseHolder s a).trans (.grants _)
  · split
    · exact .withHeader s _
    · exact .refl s

theorem State.QueuesKept.revokeFrom (s : State) (n : Nat) : s.QueuesKept (s.revokeFrom n) := by
  unfold State.revokeFrom
  exact (State.QueuesKept.withHeader s _).trans (.foldl .valveCloses _ _)

theorem State.QueuesKept.holdExpires (s : State) (a : Arm) : s.QueuesKept (s.holdExpires a) := by
  have released := State.QueuesKept.releaseHolder s a
  unfold State.holdExpires
  split
  · exact .withHeader s _
  · refine State.QueuesKept.trans ?_ (.grants _)
    exact iteInduction (motive := s.QueuesKept) (fun _ => released.trans (.withHeader _ _)) fun _ => released

theorem State.QueuesKept.ethanolResult (s : State) (a : Arm) : s.QueuesKept (s.ethanolResult a) := by
  unfold State.ethanolResult
  split
  · exact .refl s
  · split
    · exact .of_same (by simp) (by simp)
    · split
      · exact .leaveHeader s a
      · exact .refl s

theorem State.QueuesKept.raiseArm (s : State) (a : Arm) (k : ArmNotice) (d : Option Nat) : s.QueuesKept (s.raiseArm a k d) :=
  .of_same rfl rfl

theorem State.QueuesKept.setRestrict (s : State) (a : Arm) (on : Bool) : s.QueuesKept (s.setRestrict a on) := by
  unfold State.setRestrict
  split
  · exact .refl s
  · split
    · exact .refl s
    · refine State.QueuesKept.trans ?_ (.raiseArm _ a _ _)
      exact .modRecord s a fun _ => .of_items rfl rfl

/-! ### Heads taken, and arms that join -/

theorem State.takeHead_shotQueueLaw (law : s.shotQueueLaw) (u : UnitNo) : (s.takeHead u).shotQueueLaw := by
  rw [State.shotQueueLaw_iff] at law ⊢
  intro v
  obtain ⟨nodup, queued⟩ := law v
  have arms (b : Arm) := s.takeHead_arms_get u b
  have units := s.takeHead_units_get u v
  -- a load that the head's mark is taken from, or any other, may wait for the shots of the other units as before
  have may_other (ne : v ≠ u) (b : Arm) : (s.takeHead u).mayQueue v b ↔ s.mayQueue v b := by
    have get := arms b
    split at get
    · exact State.mayQueue_of_mapRecord get fun r =>
        LoadRecord.mayQueue_of_ne rfl
          (LoadRecord.marked_modItem_of_ne (f := fun i => { i with finalShot := false }) (fun _ => rfl) ne r)
    · exact State.mayQueue_congr get
  by_cases ready : (s.units.get u).state = .ready
  case neg =>
    rw [State.takeHead_eq_self s u (.inl ready)]
    exact ⟨nodup, queued⟩
  cases queue : (s.units.get u).queue with
  | nil =>
    rw [State.takeHead_eq_self s u (.inr queue)]
    exact ⟨nodup, queued⟩
  | cons a rest =>
    rw [queue] at units
    dsimp only at units
    by_cases e : v = u
    · subst e
      rw [queue, List.nodup_cons] at nodup
      obtain ⟨notIn, nodup⟩ := nodup
      rw [if_pos ⟨rfl, ready⟩] at units
      rw [units, AdditiveUnit.begin_eq]
      refine ⟨nodup, fun b mem => ?_⟩
      have ne : b ≠ a := fun h => notIn (h ▸ mem)
      refine ⟨fun h => ne (Option.some.inj h).symm, ?_⟩
      have get := arms b
      rw [queue, if_neg fun h => ne (Option.some.inj h.1).symm] at get
      exact (State.mayQueue_congr get).2 (queued b (queue ▸ List.mem_cons_of_mem a mem)).2
    · rw [if_neg fun h => e h.1] at units
      rw [units]
      exact ⟨nodup, fun b mem => ⟨(queued b mem).1, (may_other e b).2 (queued b mem).2⟩⟩

/-- An arm joins that may wait and is not in flight. -/
theorem State.join_shotQueueLaw (law : s.shotQueueLaw) (may : s.mayQueue u a) (notFlying : (s.units.get u).inFlight ≠ some a) :
    (s.modUnit u fun y => y.join a).shotQueueLaw := by
  rw [State.shotQueueLaw_iff] at law ⊢
  intro v
  simp only [State.modUnit_units, Bank.get_upd]
  split
  · next e =>
    subst e
    obtain ⟨nodup, queued⟩ := law v
    unfold AdditiveUnit.join
    split
    · exact ⟨nodup, queued⟩
    · next notIn =>
      refine ⟨by rw [← List.concat_eq_append]; exact nodup.concat notIn, fun b mem => ?_⟩
      rw [List.mem_append, List.mem_singleton] at mem
      obtain mem | rfl := mem
      · exact queued b mem
      · exact ⟨notFlying, may⟩
  · exact law v

theorem State.enqueue_shotQueueLaw (law : s.shotQueueLaw) (may : s.mayQueue u a)
    (notFlying : (s.units.get u).inFlight ≠ some a) : (s.enqueue u a).shotQueueLaw :=
  State.takeHead_shotQueueLaw (State.join_shotQueueLaw law may notFlying) u

theorem State.mayQueue_of_metering (phase : s.phase a = some .flowing ∨ s.phase a = some .flush) (u : UnitNo) :
    s.mayQueue u a := by
  obtain h | h := phase
  · obtain ⟨r, load, phase⟩ := (s.phase_eq_some a _).1 h
    exact ⟨r, load, .inl phase⟩
  · obtain ⟨r, load, phase⟩ := (s.phase_eq_some a _).1 h
    exact ⟨r, load, .inr (.inl phase)⟩

theorem State.additiveDue_shotQueueLaw (law : s.shotQueueLaw) (u : UnitNo) (a : Arm) : (s.additiveDue u a).shotQueueLaw := by
  unfold State.additiveDue
  dsimp only
  split
  · next due =>
    obtain ⟨-, metering, -, notFlying⟩ := due
    exact State.enqueue_shotQueueLaw law (State.mayQueue_of_metering metering u) notFlying
  · exact law

theorem State.shotQueueLaw_foldl {α : Type} {f : State → α → State}
    (step : ∀ (s : State) (y : α), s.shotQueueLaw → (f s y).shotQueueLaw) (l : List α) (s : State) (law : s.shotQueueLaw) :
    (l.foldl f s).shotQueueLaw := by
  induction l generalizing s with
  | nil => exact law
  | cons y l ih => exact ih _ (step s y law)

theorem State.additiveResults_shotQueueLaw (law : s.shotQueueLaw) (a : Arm) : (s.additiveResults a).shotQueueLaw := by
  unfold State.additiveResults
  split
  · exact law
  · exact State.shotQueueLaw_foldl (fun t i law => iteInduction (motive := State.shotQueueLaw)
      (fun _ => State.additiveDue_shotQueueLaw law i.unit a) fun _ => law) _ s law

/-! ### Loads that leave the queues -/

/-- An arm that leaves every queue, with nothing changed in the arms but its own. -/
theorem State.QueuesKept.of_left (units : ∀ u, t.units.get u = { s.units.get u with queue := (s.units.get u).queue.filter fun b => b ≠ a })
    (others : ∀ b, b ≠ a → t.arms.get b = s.arms.get b) : s.QueuesKept t :=
  .of_other_arms (a := a) (fun u => by rw [units]; exact List.filter_sublist) (fun u => by rw [units]) others
    fun u => by rw [units]; simp

theorem State.QueuesKept.enterPaused (s : State) (a : Arm) (cause : PauseCause) : s.QueuesKept (s.enterPaused a cause) :=
  .of_left (s.enterPaused_units_get a cause) fun b ne => by rw [State.enterPaused_arms, Bank.get_upd_of_ne _ _ ne]

theorem State.QueuesKept.enterHalted (s : State) (a : Arm) (why : HaltReason) : s.QueuesKept (s.enterHalted a why) :=
  .of_left (s.enterHalted_units_get a why) fun b ne => by rw [State.enterHalted_arms, Bank.get_upd_of_ne _ _ ne]

theorem State.QueuesKept.halt (s : State) (a : Arm) (why : HaltReason) : s.QueuesKept (s.halt a why) := by
  unfold State.halt
  split
  · exact .refl s
  · exact iteInduction (motive := s.QueuesKept) (fun _ => .enterHalted s a why) fun _ => .refl s

theorem State.QueuesKept.enterFinishing (s : State) (a : Arm) : s.QueuesKept (s.enterFinishing a) :=
  .of_left (s.enterFinishing_units_get a) fun b ne => by rw [State.enterFinishing_arms, Bank.get_upd_of_ne _ _ ne]

/-- The marks cleared and every queue left (R93). -/
theorem State.QueuesKept.clearMarks_leaveQueues (s : State) (a : Arm) : s.QueuesKept ((s.clearMarks a).leaveQueues a) :=
  .of_left (fun u => by rw [State.leaveQueues_units_get]; rfl) fun b ne => Bank.get_upd_of_ne _ _ ne

theorem State.enterFlowing_shotQueueLaw (law : s.shotQueueLaw) (may_not : ∀ u, ¬ s.mayQueue u a) :
    (s.enterFlowing a).shotQueueLaw :=
  State.shotQueueLaw_of_idle_arm law (by simp) (fun b ne => by rw [State.enterFlowing_arms, Bank.get_upd_of_ne _ _ ne]) may_not

/-- A load in FLOWING or PAUSED that enters FLUSH goes on waiting where it waited. -/
theorem State.QueuesKept.enterFlush (s : State) (a : Arm) : s.QueuesKept (s.enterFlush a) := by
  refine .of_arms (by simp) fun v b may => ?_
  by_cases e : b = a
  · subst e
    obtain ⟨r, load, -⟩ := may
    refine ⟨_, by rw [State.enterFlush_record, if_pos rfl, load]; rfl, .inr (.inl rfl)⟩
  · exact (State.mayQueue_congr (by rw [State.enterFlush_arms, Bank.get_upd_of_ne _ _ e])).2 may

/-! ### Final shots -/

/-- The load in FINISHING with an item for the unit keeps its place among the arms that may wait once the item is marked. -/
theorem State.finalShot_shotQueueLaw (law : s.shotQueueLaw) (i : LoadItem) (load : s.record a = some r)
    (finishing : r.phase = .finishing) (listed : i.unit ∈ r.items.map LoadItem.unit) : (s.finalShot a i).shotQueueLaw := by
  have marking : (s.modRecord a fun r => r.modItem i.unit fun j => { j with finalShot := true }).record a =
      some (r.modItem i.unit fun j => { j with finalShot := true }) := by
    rw [State.modRecord_record, if_pos rfl, load]; rfl
  have marked : (r.modItem i.unit fun j => { j with finalShot := true }).marked i.unit = true := by
    obtain ⟨j, mem, unit⟩ := List.mem_map.1 listed
    refine List.any_eq_true.2 ⟨_, List.mem_map_of_mem mem, ?_⟩
    rw [if_pos unit]
    simp [unit]
  have grown (p : LoadRecord) (v : UnitNo) (may : p.mayQueue v) :
      (p.modItem i.unit fun j => { j with finalShot := true }).mayQueue v := by
    obtain h | h | ⟨h, hm⟩ := may
    · exact .inl h
    · exact .inr (.inl h)
    · refine .inr (.inr ⟨h, ?_⟩)
      obtain ⟨j, mem, hj⟩ := List.any_eq_true.1 hm
      refine List.any_eq_true.2 ⟨_, List.mem_map_of_mem mem, ?_⟩
      split
      · simp only [Bool.and_eq_true] at hj ⊢
        exact ⟨hj.1, trivial⟩
      · exact hj
  have lawful : (s.modRecord a fun r => r.modItem i.unit fun j => { j with finalShot := true }).shotQueueLaw := by
    refine State.shotQueueLaw_of_kept law (.of_arms rfl fun v b may => ?_)
    by_cases e : b = a
    · subst e
      obtain ⟨p, load', may⟩ := may
      exact ⟨_, by rw [State.modRecord_record, if_pos rfl, load']; rfl, grown p v may⟩
    · exact (State.mayQueue_congr (Bank.get_upd_of_ne _ _ e)).2 may
  unfold State.finalShot
  dsimp only
  split
  · split
    · exact lawful
    · next notFlying => exact State.enqueue_shotQueueLaw lawful ⟨_, marking, .inr (.inr ⟨finishing, marked⟩)⟩ notFlying
  · exact law

/-- A final shot decided leaves the load in its state, with its items' units. -/
theorem State.finalShot_record (s : State) (a : Arm) (i : LoadItem) (load : s.record a = some r) :
    ∃ q, (s.finalShot a i).record a = some q ∧ q.phase = r.phase ∧ q.items.map LoadItem.unit = r.items.map LoadItem.unit := by
  have units (p : LoadRecord) (u : UnitNo) (on : Bool) :
      (p.modItem u fun j => { j with finalShot := on }).items.map LoadItem.unit = p.items.map LoadItem.unit := by
    simp only [LoadRecord.modItem, List.map_map]
    refine List.map_congr_left fun j _ => ?_
    rw [Function.comp]
    split
    · rfl
    · rfl
  have marking : (s.modRecord a fun r => r.modItem i.unit fun j => { j with finalShot := true }).record a =
      some (r.modItem i.unit fun j => { j with finalShot := true }) := by
    rw [State.modRecord_record, if_pos rfl, load]; rfl
  unfold State.finalShot
  dsimp only
  split
  · split
    · exact ⟨_, marking, rfl, units r _ _⟩
    · unfold State.enqueue
      generalize joined : (State.modUnit _ i.unit _) = t
      have record : t.record a = some (r.modItem i.unit fun j => { j with finalShot := true }) := by rw [← joined]; exact marking
      rw [State.record, State.takeHead_arms_get]
      split
      · refine ⟨(r.modItem i.unit fun j => { j with finalShot := true }).modItem i.unit fun j => { j with finalShot := false },
          by rw [ArmCtl.mapRecord_occ, Occupancy.record_mapRecord, ← State.record, record]; rfl, rfl, ?_⟩
        rw [units, units]
      · exact ⟨_, record, rfl, units r _ _⟩
  · exact ⟨r, load, rfl, rfl⟩

theorem State.finalShots_shotQueueLaw (law : s.shotQueueLaw) (finishing : s.phase a = some .finishing) :
    (s.finalShots a).shotQueueLaw := by
  obtain ⟨r, load, phase⟩ := (s.phase_eq_some a _).1 finishing
  have go (l : List LoadItem) (t : State) (q : LoadRecord) (law : t.shotQueueLaw) (load : t.record a = some q)
      (phase : q.phase = .finishing) (listed : ∀ i ∈ l, i.unit ∈ q.items.map LoadItem.unit) :
      (l.foldl (fun t i => t.finalShot a i) t).shotQueueLaw := by
    induction l generalizing t q with
    | nil => exact law
    | cons i l ih =>
      obtain ⟨q', load', phase', units⟩ := t.finalShot_record a i load
      refine ih _ q' (State.finalShot_shotQueueLaw law i load phase (listed i List.mem_cons_self)) load'
        (phase'.trans phase) fun j mem => ?_
      rw [units]
      exact listed j (List.mem_cons_of_mem i mem)
  unfold State.finalShots
  rw [load]
  exact go r.items s r law load phase fun i mem => List.mem_map_of_mem mem

end Sys2Proof.Machine
end


section
/-! The law of the shot queues: deliveries, strokes, completions and requests, and every command. -/

namespace Sys2Proof.Machine

variable {s t x : State} {a b : Arm} {u v : UnitNo} {r q : LoadRecord}

/-! ### A pulse and its delivery -/

theorem State.QueuesKept.restrictTest (s : State) (a : Arm) : s.QueuesKept (s.restrictTest a) := by
  unfold State.restrictTest
  split
  · exact .refl s
  · exact .setRestrict s a _

theorem State.blendTests_shotQueueLaw (law : s.shotQueueLaw) (a : Arm) : (s.blendTests a).shotQueueLaw := by
  unfold State.blendTests
  split
  · exact law
  · split
    · exact State.shotQueueLaw_of_kept law (.halt s a _)
    · split
      · exact State.shotQueueLaw_of_kept law (.halt s a _)
      · split
        · exact State.additiveResults_shotQueueLaw (State.shotQueueLaw_of_kept law (.enterFlush s a)) a
        · exact State.additiveResults_shotQueueLaw
            (State.shotQueueLaw_of_kept law ((State.QueuesKept.ethanolResult s a).trans (.restrictTest _ a))) a

theorem State.laterStages_shotQueueLaw (law : s.shotQueueLaw) (a : Arm) (p : Phase) (baseVcf : Nat) :
    (s.laterStages a p baseVcf).shotQueueLaw := by
  have owed : (s.modRecord a fun r => r.oweEthanol baseVcf).shotQueueLaw :=
    State.shotQueueLaw_of_kept law (.modRecord s a fun _ => .of_items rfl rfl)
  cases p with
  | authorized => exact owed
  | flowing => exact State.blendTests_shotQueueLaw owed a
  | paused c => exact State.blendTests_shotQueueLaw owed a
  | flush => exact State.additiveResults_shotQueueLaw law a
  | halted => exact law
  | finishing => exact law
  | complete => exact law

theorem State.judge_shotQueueLaw (law : s.shotQueueLaw) (a : Arm) (p : Phase) (saturating : Bool) (baseVcf : Nat) :
    (s.judge a p saturating baseVcf).shotQueueLaw := by
  unfold State.judge
  split
  · exact law
  · split
    · split
      · exact State.shotQueueLaw_of_kept law (.halt s a _)
      · split
        · exact State.shotQueueLaw_of_kept law (.halt s a _)
        · exact State.laterStages_shotQueueLaw law a p baseVcf
    · exact law

/-- FLOWING begins in AUTHORIZED and in PAUSED, where no load waits for a shot (R76). -/
theorem State.deliveryTimers_shotQueueLaw {p : Phase} (law : s.shotQueueLaw) (phase : s.phase a = some p) (m : Meter) :
    (s.deliveryTimers a p m).shotQueueLaw := by
  unfold State.deliveryTimers
  split
  · exact State.shotQueueLaw_of_kept law (.withHeader s _)
  · split
    · next begins =>
      simp only [Phase.begins, decide_true, Bool.true_and, Bool.or_eq_true, decide_eq_true_eq] at begins
      refine State.enterFlowing_shotQueueLaw law (State.not_mayQueue_of_phase phase ?_)
      obtain rfl | rfl := begins
      · simp
      · simp
    · split
      · exact State.shotQueueLaw_of_kept law (.modArm s a fun _ => rfl)
      · exact law

theorem State.deliver_shotQueueLaw (law : s.shotQueueLaw) (a : Arm) (d : Delivery) : (s.deliver a d).shotQueueLaw := by
  unfold State.deliver
  split
  · exact law
  · next r load =>
    have accounted : (s.modRecord a fun r => r.account d (s.readings a)).shotQueueLaw :=
      State.shotQueueLaw_of_kept law (.modRecord s a fun r => .account r d _)
    have phase : (s.modRecord a fun r => r.account d (s.readings a)).phase a = some r.phase :=
      Eq.trans (b := s.phase a) (State.modRecord_phase a fun _ => rfl) (by rw [State.phase, load]; rfl)
    exact State.judge_shotQueueLaw (State.deliveryTimers_shotQueueLaw accounted phase _) a _ _ _

theorem State.QueuesKept.modMeter (s : State) (a : Arm) (m : Meter) (f : MeterInput → MeterInput) :
    s.QueuesKept (s.modMeter a m f) := .of_same rfl rfl

theorem State.pulse_shotQueueLaw (law : s.shotQueueLaw) (a : Arm) (m : Meter) : (s.pulse a m).shotQueueLaw := by
  have captured := State.shotQueueLaw_of_kept law (.modMeter s a m fun y => y.capture s.timebase)
  unfold State.pulse
  dsimp only
  split
  · exact State.deliver_shotQueueLaw (State.shotQueueLaw_of_kept captured (.modMeter _ a m _)) a _
  · exact State.shotQueueLaw_of_kept captured (.of_same (by simp) (by simp))

/-! ### Completions and hand-offs -/

/-- A load that completes has no mark set, so its arm stands in no queue (R81). -/
theorem State.examine_shotQueueLaw (law : s.shotQueueLaw) (a : Arm) : (s.examine a).shotQueueLaw := by
  unfold State.examine
  split
  · next completes =>
    refine State.shotQueueLaw_of_idle_arm law (by simp) (fun b ne => s.enterComplete_arms_get_of_ne ne) fun u => ?_
    rintro ⟨r, load, may⟩
    obtain ⟨finishing, -, -, unmarked⟩ := (s.completes_iff a load).1 completes
    obtain h | h | ⟨-, marked⟩ := may
    · rw [finishing] at h; cases h
    · rw [finishing] at h; cases h
    · obtain ⟨i, mem, hi⟩ := List.any_eq_true.1 marked
      rw [unmarked i mem, Bool.and_false] at hi
      cases hi
  · exact law

theorem State.foldl_examine_shotQueueLaw (l : List Arm) (law : s.shotQueueLaw) : (l.foldl State.examine s).shotQueueLaw :=
  State.shotQueueLaw_foldl (fun _ b law => State.examine_shotQueueLaw law b) l s law

theorem State.handOff_shotQueueLaw (law : s.shotQueueLaw) (complete : s.phase a = some .complete) :
    (s.handOff a).shotQueueLaw :=
  State.shotQueueLaw_of_idle_arm law (by simp) (fun b ne => by rw [State.handOff_arms_get, if_neg fun h => ne h.1])
    (State.not_mayQueue_of_phase complete (by simp))

theorem State.waitHandOff_shotQueueLaw (law : s.shotQueueLaw) (waits : ∀ b ∈ s.records.wait, s.phase b = some .complete) :
    s.waitHandOff.shotQueueLaw := by
  unfold State.waitHandOff
  split
  · exact law
  · next b rest wait =>
    have complete := waits b (by rw [wait]; exact List.mem_cons_self)
    have taken : State.shotQueueLaw { s with records := { s.records with wait := rest } } := law
    exact iteInduction (motive := State.shotQueueLaw) (fun _ => State.handOff_shotQueueLaw taken complete) fun _ => law

theorem State.removeRecord_shotQueueLaw (law : s.shotQueueLaw) (records : s.recordLaw) (number : Nat) :
    (s.removeRecord number).state.shotQueueLaw := by
  unfold State.removeRecord
  split
  · exact law
  · next d rest _ =>
    split
    · exact law
    · have headless : State.shotQueueLaw { s with records := { s.records with records := rest } } := law
      have waits := State.waiting_complete records
      exact State.waitHandOff_shotQueueLaw headless waits

/-! ### Units lost, and strokes ended -/

/-- The lost unit's queue is emptied, and the marks cleared are those for it alone (R148). -/
theorem State.QueuesKept.loseUnit (s : State) (u : UnitNo) (st : UnitState) (k : SupNotice) (d : Nat) :
    s.QueuesKept (s.loseUnit u st k d) := by
  have units (v : UnitNo) : (s.loseUnit u st k d).units.get v =
      if v = u then { s.units.get u with state := st, queue := [] } else s.units.get v := by
    simp only [State.loseUnit, State.raiseSup_units, Bank.get_upd]
  refine ⟨fun v => ?_, fun v b mem => ?_, fun v b mem => ?_⟩
  · rw [units]
    split
    · exact List.nil_sublist _
    · exact List.Sublist.refl _
  · rw [units]
    split
    · next e => rw [e]; exact id
    · exact id
  · rw [units] at mem
    split at mem
    · cases mem
    · next ne =>
      exact (State.mayQueue_of_mapRecord (f := fun r => r.loseUnit u) (by simp [State.loseUnit]) fun r =>
        LoadRecord.mayQueue_of_ne (r.loseUnit_phase u) (LoadRecord.loseUnit_marked_of_ne ne r)).2

theorem State.unitLost_shotQueueLaw (law : s.shotQueueLaw) (u : UnitNo) (st : UnitState) (k : SupNotice) (d : Nat) :
    (s.unitLost u st k d).shotQueueLaw :=
  State.foldl_examine_shotQueueLaw _ (State.shotQueueLaw_of_kept law (.loseUnit s u st k d))

theorem State.unitServes_shotQueueLaw (law : s.shotQueueLaw) (u : UnitNo) : (s.unitServes u).shotQueueLaw := by
  have ready : (s.modUnit u fun y => { y with state := .ready }).shotQueueLaw :=
    State.shotQueueLaw_of_kept law (.modUnit s u fun _ => ⟨rfl, rfl⟩)
  exact iteInduction (motive := State.shotQueueLaw) (fun _ => State.takeHead_shotQueueLaw ready u)
    fun _ => State.unitLost_shotQueueLaw law u _ _ _

/-- A unit that returns to service with its failures cleared. -/
theorem State.unitServes_afresh_shotQueueLaw (law : s.shotQueueLaw) (u : UnitNo) :
    (State.unitServes (s.modUnit u fun y => { y with failures := 0 }) u).shotQueueLaw := by
  have afresh : (s.modUnit u fun y => { y with failures := 0 }).shotQueueLaw :=
    State.shotQueueLaw_of_kept law (.modUnit s u fun _ => ⟨rfl, rfl⟩)
  exact State.unitServes_shotQueueLaw afresh u

theorem State.QueuesKept.evalLow (s : State) (u : UnitNo) : s.QueuesKept (s.evalLow u) := by
  refine .of_may (fun v => ?_) fun v b => (State.mayQueue_congr (by simp)).2
  rw [State.evalLow_units, Bank.get_upd]
  split
  · next e => rw [e]; exact ⟨rfl, rfl⟩
  · exact ⟨rfl, rfl⟩

theorem State.refill_shotQueueLaw (law : s.shotQueueLaw) (u : UnitNo) (volume : Nat) : (s.refill u volume).shotQueueLaw := by
  have filled : s.QueuesKept (s.modUnit u fun y => { y with inventory := refilled y.inventory volume }) :=
    .modUnit s u fun _ => ⟨rfl, rfl⟩
  have lawful := State.shotQueueLaw_of_kept law (filled.trans (.evalLow _ u))
  unfold State.refill
  dsimp only
  split
  · refine State.takeHead_shotQueueLaw ?_ u
    exact State.shotQueueLaw_of_kept lawful (.modUnit _ u fun _ => ⟨rfl, rfl⟩)
  · exact lawful

/-- A load that rejoins may wait for the shot (R141). -/
theorem LoadRecord.mayQueue_of_rejoins {shot : Nat} (rejoins : r.rejoins u shot = true) : r.mayQueue u := by
  unfold LoadRecord.rejoins at rejoins
  split at rejoins
  · cases rejoins
  · next i found =>
    split at rejoins
    · next phase => exact .inl phase
    · next phase => exact .inr (.inl phase)
    · next phase =>
      refine .inr (.inr ⟨phase, List.any_eq_true.2 ⟨i, List.mem_of_find?_eq_some found, ?_⟩⟩)
      rw [rejoins, Bool.and_true]
      unfold LoadRecord.item at found
      exact List.find?_some (p := fun i : LoadItem => decide (i.unit = u)) found
    · cases rejoins

theorem State.backToReady_shotQueueLaw (law : s.shotQueueLaw) (u : UnitNo) (a : Arm)
    (ended : (s.units.get u).inFlight = none) : (s.backToReady u a).shotQueueLaw := by
  have ready := State.shotQueueLaw_of_kept law (.modUnit s u (f := fun y => { y with state := .ready }) fun _ => ⟨rfl, rfl⟩)
  unfold State.backToReady
  refine State.takeHead_shotQueueLaw (iteInduction (motive := State.shotQueueLaw) (fun again => ?_) fun _ => ready) u
  split at again
  · cases again
  · next r load =>
    refine State.join_shotQueueLaw ready ⟨r, load, LoadRecord.mayQueue_of_rejoins again⟩ ?_
    rw [State.modUnit_units, Bank.get_upd_same]
    simp [ended]

/-- A stroke that ends leaves its arm out of flight, and no other (R140, R142). -/
theorem State.shotQueueLaw_of_ended {f : AdditiveUnit → AdditiveUnit} (law : s.shotQueueLaw)
    (same : ∀ y : AdditiveUnit, (f y).queue = y.queue ∧ (f y).inFlight = none) : (s.modUnit u f).shotQueueLaw := by
  refine State.shotQueueLaw_of_kept law ⟨fun v => ?_, fun v b _ => ?_, fun _ _ _ => id⟩
  · simp only [State.modUnit_units, Bank.get_upd]
    split
    · next e => rw [e, (same _).1]
    · exact List.Sublist.refl _
  · simp only [State.modUnit_units, Bank.get_upd]
    split
    · rw [(same _).2]; exact fun _ h => nomatch h
    · exact id

theorem State.strokeConfirmed_shotQueueLaw (law : s.shotQueueLaw) (u : UnitNo) (a : Arm) :
    (s.strokeConfirmed u a).shotQueueLaw := by
  have credited : (s.modRecord a fun r => r.creditShot u (s.units.get u).shot).shotQueueLaw :=
    State.shotQueueLaw_of_kept law (.modRecord s a fun r => .creditShot r u _)
  have ended := State.shotQueueLaw_of_ended (u := u) (f := fun y => { y with
    strokeTimer := .stopped, confirmed := countUp32 y.confirmed, inventory := y.inventory - (s.units.get u).shot,
    failures := 0, inFlight := none }) credited fun _ => ⟨rfl, rfl⟩
  have low := State.shotQueueLaw_of_kept ended (.evalLow _ u)
  unfold State.strokeConfirmed
  dsimp only
  refine State.examine_shotQueueLaw (iteInduction (motive := State.shotQueueLaw) (fun _ => ?_) fun _ => ?_) a
  · refine State.backToReady_shotQueueLaw low u a ?_
    rw [State.evalLow_units, Bank.get_upd_same, State.modUnit_units, Bank.get_upd_same]
  · exact State.unitLost_shotQueueLaw low u _ _ _

theorem State.strokeFailed_shotQueueLaw (law : s.shotQueueLaw) (u : UnitNo) (a : Arm) :
    (s.strokeFailed u a).shotQueueLaw := by
  have ended := State.shotQueueLaw_of_ended (u := u) (f := fun y => { y with
    strokeTimer := .stopped, failed := countUp32 y.failed, failures := y.failures + 1, inFlight := none }) law
    fun _ => ⟨rfl, rfl⟩
  unfold State.strokeFailed
  dsimp only
  refine State.examine_shotQueueLaw (iteInduction (motive := State.shotQueueLaw) (fun _ => ?_) fun _ => ?_) a
  · exact State.unitLost_shotQueueLaw ended u _ _ _
  · exact State.backToReady_shotQueueLaw ended u a (by rw [State.modUnit_units, Bank.get_upd_same])

theorem State.confirmation_shotQueueLaw (law : s.shotQueueLaw) (u : UnitNo) : (s.confirmation u).shotQueueLaw := by
  unfold State.confirmation
  dsimp only
  split
  · exact State.strokeConfirmed_shotQueueLaw law u _
  · exact State.shotQueueLaw_of_kept law (.modUnit s u fun _ => ⟨rfl, rfl⟩)

/-! ### The stop latch and conversions -/

theorem State.QueuesKept.setLatch (s : State) (c : StopCause) : s.QueuesKept (s.setLatch c) := by
  unfold State.setLatch
  split
  · exact .refl s
  · refine .of_arms rfl fun v b => (State.mayQueue_of_mapRecord (f := LoadRecord.handStop) (by simp) fun r => ?_).2
    exact (LoadRecord.QueuesAlike.handStop r).mayQueue v

theorem State.QueuesKept.stopByEnable (s : State) : s.QueuesKept s.stopByEnable := by
  unfold State.stopByEnable
  split
  · exact .refl s
  · exact .setLatch s _

theorem State.QueuesKept.convertPressure (s : State) (code : Nat) : s.QueuesKept (s.convertPressure code) := by
  have compared : s.QueuesKept { s with scan := s.scan.comparePressure code s.header.threshold } := .of_same rfl rfl
  have raised (t : State) (k : SupNotice) : t.QueuesKept (t.raiseSup k none) := .of_same rfl rfl
  unfold State.convertPressure
  split
  · exact .refl s
  · dsimp only
    split
    · exact compared
    · split
      · exact (compared.trans (.revokeFrom _ 0)).trans (raised _ _)
      · exact (compared.trans (.grants _)).trans (raised _ _)

theorem State.QueuesKept.takeCode (s : State) (code : Nat) : s.QueuesKept (s.takeCode code) := by
  have reference (i : Fin 3) : s.QueuesKept (s.convertReference i code) := .of_same (by simp) (by simp)
  unfold State.takeCode
  dsimp only
  split
  · exact .of_same (by simp) (by simp)
  · split
    · exact .convertPressure s code
    · split
      · exact reference 0
      · split
        · exact reference 1
        · exact reference 2

theorem State.QueuesKept.tick (s : State) : s.QueuesKept s.tick := by
  refine .of_may (fun u => ?_) fun u b => ?_
  · simp only [State.tick, Bank.get_tab]
    exact ⟨rfl, rfl⟩
  · simp only [State.mayQueue, State.record, State.tick, Bank.get_tab]
    exact id

/-! ### Requests -/

theorem State.QueuesKept.modLine (s : State) (l : Line) (f : LineState → LineState) : s.QueuesKept (s.modLine l f) := by
  cases l with
  | supervisor => exact .of_same rfl rfl
  | arm n => exact .of_same rfl rfl

theorem State.serve_shotQueueLaw {l : Line} {c : Instr} {type : Nat} {y : Answer} (law : s.shotQueueLaw)
    (effect : y.state.shotQueueLaw) : (s.serve l c type y).shotQueueLaw := by
  obtain same | ⟨p, served⟩ := s.serve_cases l c type y
  · rw [same]; exact law
  · rw [served]; exact State.shotQueueLaw_of_kept effect (.modLine _ l _)

theorem State.setMeters_frame (s : State) (arm kb ke fb fe mb me : Nat) :
    (s.setMeters arm kb ke fb fe mb me).state.arms = s.arms ∧ (s.setMeters arm kb ke fb fe mb me).state.units = s.units := by
  unfold State.setMeters
  dsimp only
  repeat' split
  all_goals exact ⟨rfl, rfl⟩

theorem State.readMeters_frame (s : State) (arm : Nat) :
    (s.readMeters arm).state.arms = s.arms ∧ (s.readMeters arm).state.units = s.units := by
  unfold State.readMeters
  split
  · exact ⟨rfl, rfl⟩
  · exact ⟨rfl, rfl⟩

theorem State.defineRecipe_frame (s : State) (f : RecipeFields) :
    (s.defineRecipe f).state.arms = s.arms ∧ (s.defineRecipe f).state.units = s.units := by
  unfold State.defineRecipe
  dsimp only
  repeat' split
  all_goals exact ⟨rfl, rfl⟩

theorem State.withdrawRecipe_frame (s : State) (entry : Nat) :
    (s.withdrawRecipe entry).state.arms = s.arms ∧ (s.withdrawRecipe entry).state.units = s.units := by
  unfold State.withdrawRecipe
  dsimp only
  repeat' split
  all_goals exact ⟨rfl, rfl⟩

theorem State.setArmService_shotQueueLaw (law : s.shotQueueLaw) (arm service : Nat) :
    (s.setArmService arm service).state.shotQueueLaw := by
  have noLoad {a : Arm} {f : ArmCtl → ArmCtl} (h : s.record a = none) : (s.modArm a f).shotQueueLaw :=
    State.shotQueueLaw_of_idle_arm law rfl (fun b ne => Bank.get_upd_of_ne _ _ ne) (State.not_mayQueue_of_noLoad h)
  unfold State.setArmService
  split
  · dsimp only
    split
    · exact law
    · split
      · split
        · next out =>
          split
          · exact noLoad (by rw [State.record, out]; rfl)
          · exact law
        · exact law
        · exact law
      · split
        · exact law
        · next idle => exact noLoad (by rw [State.record, idle]; rfl)
        · exact law
  · exact law

theorem State.authorize_shotQueueLaw (law : s.shotQueueLaw) (a : Arm) (code preset : Nat) (bill : List Byte) :
    (s.authorize a code preset bill).state.shotQueueLaw := by
  unfold State.authorize
  split
  · exact law
  · split
    · exact law
    · split
      · exact law
      · exact law
    · next idle =>
      split
      · exact law
      · next n _ =>
        have vacant : s.record a = none := by rw [State.record, idle]; rfl
        have accepted : (s.authorized a n preset bill).shotQueueLaw :=
          State.shotQueueLaw_of_idle_arm law rfl (fun b ne => Bank.get_upd_of_ne _ _ ne) (State.not_mayQueue_of_noLoad vacant)
        dsimp only
        split
        · exact law
        · split
          · exact law
          · split
            · exact law
            · exact accepted

theorem State.pause_shotQueueLaw (law : s.shotQueueLaw) (a : Arm) : (s.pause a).state.shotQueueLaw := by
  unfold State.pause
  split
  · exact law
  · exact State.shotQueueLaw_of_kept law (.enterPaused s a .driver)
  · next paused =>
    exact State.shotQueueLaw_of_idle_arm law rfl (fun b ne => Bank.get_upd_of_ne _ _ ne)
      (State.not_mayQueue_of_phase paused (by simp))
  · exact law
  · exact law

theorem State.resume_shotQueueLaw (law : s.shotQueueLaw) (a : Arm) : (s.resume a).state.shotQueueLaw := by
  unfold State.resume
  split
  · exact law
  · next paused => exact State.enterFlowing_shotQueueLaw law (State.not_mayQueue_of_phase paused (by simp))
  · exact law
  · exact law

theorem State.endLoad_shotQueueLaw (law : s.shotQueueLaw) (a : Arm) : (s.endLoad a).state.shotQueueLaw := by
  have ended := State.shotQueueLaw_of_kept law (.enterFinishing s a)
  have endedWithShots {p : Phase} (phase : s.phase a = some p) : ((s.enterFinishing a).finalShots a).shotQueueLaw := by
    obtain ⟨r, load, -⟩ := (s.phase_eq_some a p).1 phase
    refine State.finalShots_shotQueueLaw ended ?_
    rw [State.phase, State.enterFinishing_record, if_pos rfl, load]; rfl
  unfold State.endLoad
  split
  · exact law
  · exact ended
  · exact ended
  · next phase => exact endedWithShots phase
  · next phase => exact endedWithShots phase
  · next phase => exact endedWithShots phase
  · exact law
  · exact law

theorem State.aborted_shotQueueLaw (law : s.shotQueueLaw) (a : Arm) (r : LoadRecord) : (s.aborted a r).shotQueueLaw := by
  have flagged : (s.modRecord a fun r => { r with flags := { r.flags with aborted := true } }).shotQueueLaw :=
    State.shotQueueLaw_of_kept law (.modRecord s a fun _ => .of_items rfl rfl)
  unfold State.aborted
  split
  · have unmarked := State.shotQueueLaw_of_kept flagged (.clearMarks_leaveQueues _ a)
    exact iteInduction (motive := State.shotQueueLaw) (fun _ => State.examine_shotQueueLaw unmarked a) fun _ => unmarked
  · exact State.shotQueueLaw_of_kept flagged (.enterFinishing _ a)

theorem State.abortLoad_shotQueueLaw (law : s.shotQueueLaw) (arm number : Nat) :
    (s.abortLoad arm number).state.shotQueueLaw := by
  unfold State.abortLoad
  dsimp only
  split
  · split
    · exact law
    · split
      · exact law
      · split
        · exact law
        · exact State.aborted_shotQueueLaw law _ _
  · exact law

theorem State.QueuesKept.setHeader (s : State) (slots hold flowTimeout alpha threshold : Nat) :
    s.QueuesKept (s.setHeader slots hold flowTimeout alpha threshold).state := by
  have configured := State.QueuesKept.withHeader s (s.header.configure slots hold flowTimeout alpha threshold)
  unfold State.setHeader State.slotsChanged
  dsimp only
  split
  · exact configured.trans (.revokeFrom _ _)
  · split
    · exact configured.trans (.grants _)
    · exact configured

theorem State.QueuesKept.setUnit (s : State) (unit shot low timeout settle : Nat) :
    s.QueuesKept (s.setUnit unit shot low timeout settle).state := by
  unfold State.setUnit
  dsimp only
  split
  · split
    · exact .refl s
    · split
      · exact .refl s
      · refine State.QueuesKept.trans ?_ (.evalLow _ _)
        exact .modUnit s _ fun _ => ⟨rfl, rfl⟩
  · exact .refl s

theorem State.setUnitService_shotQueueLaw (law : s.shotQueueLaw) (unit service : Nat) :
    (s.setUnitService unit service).state.shotQueueLaw := by
  unfold State.setUnitService
  dsimp only
  split
  · split
    · exact law
    · split
      · split
        · split
          · exact law
          · exact State.unitServes_afresh_shotQueueLaw law _
        · exact law
      · split
        · exact law
        · exact law
        · exact law
        all_goals
          split
          · exact law
          · exact State.shotQueueLaw_of_kept law (.modUnit s _ fun _ => ⟨rfl, rfl⟩)
  · exact law

theorem State.refillUnit_shotQueueLaw (law : s.shotQueueLaw) (unit volume : Nat) :
    (s.refillUnit unit volume).state.shotQueueLaw := by
  unfold State.refillUnit
  dsimp only
  split
  · split
    · exact law
    · exact State.refill_shotQueueLaw law _ volume
  · exact law

theorem State.clearUnit_shotQueueLaw (law : s.shotQueueLaw) (unit : Nat) : (s.clearUnit unit).state.shotQueueLaw := by
  unfold State.clearUnit
  dsimp only
  split
  · split
    · exact State.unitServes_afresh_shotQueueLaw law _
    · exact law
  · exact law

theorem State.QueuesKept.setStopInputs (s : State) (e0 e1 e2 e3 : Nat) :
    s.QueuesKept (s.setStopInputs e0 e1 e2 e3).state := by
  have enabled : s.QueuesKept { s with stop := s.stop.enable (enablesTaken e0 e1 e2 e3) } := .of_same rfl rfl
  unfold State.setStopInputs
  split
  · exact .refl s
  · exact enabled.trans (.stopByEnable _)

theorem State.QueuesKept.terminalResume (s : State) : s.QueuesKept s.terminalResume.state := by
  unfold State.terminalResume
  dsimp only
  split
  · exact .refl s
  · split
    · exact .refl s
    · exact .of_same (by simp) (by simp)

theorem State.QueuesKept.readNoticeSupervisor (s : State) : s.QueuesKept s.readNoticeSupervisor.state := by
  unfold State.readNoticeSupervisor
  split
  · exact .refl s
  · exact .of_same rfl rfl

theorem State.QueuesKept.readNoticeArm (s : State) (n : Arm) : s.QueuesKept (s.readNoticeArm n).state := by
  unfold State.readNoticeArm
  split
  · exact .refl s
  · exact .of_same rfl rfl

/-! ### Telegrams, replies and resets -/

theorem State.QueuesKept.checkTelegram (s : State) (l : Line) (chars : List Byte) : s.QueuesKept (s.checkTelegram l chars) := by
  have heard : s.QueuesKept (s.heard l) := by
    cases l with
    | supervisor => exact .refl s
    | arm n => exact .modArm s n fun _ => rfl
  unfold State.checkTelegram
  split
  · exact .refl s
  · split
    · exact .modLine s l _
    · split
      · exact .modLine s l _
      · exact heard.trans (.modLine _ l _)

theorem State.QueuesKept.replyStart (s : State) : s.QueuesKept s.replyStart :=
  iteInduction (motive := s.QueuesKept) (fun _ => .of_same rfl rfl) fun _ => .refl s

theorem State.replySent_shotQueueLaw (law : s.shotQueueLaw) (l : Line) : (s.replySent l).shotQueueLaw := by
  unfold State.replySent
  split
  · exact law
  · split
    · exact State.resetWith_shotQueueLaw _
    · have emptied := State.shotQueueLaw_of_kept law (.modLine s l fun y => { y with slot := none })
      cases l with
      | supervisor => exact emptied
      | arm n => exact emptied

theorem State.QueuesKept.receiveSupervisor (s : State) (data : Byte) (marker stopHigh : Bool) :
    s.QueuesKept (s.receiveSupervisor data marker stopHigh) := by
  unfold State.receiveSupervisor
  split
  · exact .refl s
  · split
    · exact .of_same rfl rfl
    · exact .modLine s .supervisor _

/-! ### Every command -/

/-- A next state, where this outcome is one, meets the law. -/
def ShotQueueLawAfter (o : Host.Outcome State Fault Refusal) : Prop := ∀ t, o = .next t → t.shotQueueLaw

theorem ShotQueueLawAfter.next (law : t.shotQueueLaw) : ShotQueueLawAfter (.next t) := by
  rintro _ ⟨⟩
  exact law

theorem ShotQueueLawAfter.kept (law : s.shotQueueLaw) (kept : s.QueuesKept t) : ShotQueueLawAfter (.next t) :=
  .next (State.shotQueueLaw_of_kept law kept)

/-- An event that has its effect where its condition holds, and none otherwise (log entry 4). -/
theorem ShotQueueLawAfter.event {c : Prop} [Decidable c] (law : s.shotQueueLaw) (effect : c → t.shotQueueLaw) :
    ShotQueueLawAfter (if c then .next t else .next s) :=
  iteInduction (fun h => .next (effect h)) fun _ => .next law

theorem ShotQueueLawAfter.eventKeeps {c : Prop} [Decidable c] (law : s.shotQueueLaw) (kept : s.QueuesKept t) :
    ShotQueueLawAfter (if c then .next t else .next s) :=
  .event law fun _ => State.shotQueueLaw_of_kept law kept

theorem ShotQueueLawAfter.request {l : Line} {c : Instr} {type : Nat} {y : Answer} (law : s.shotQueueLaw)
    (effect : y.state.shotQueueLaw) : ShotQueueLawAfter (.next (s.serve l c type y)) :=
  .next (State.serve_shotQueueLaw law effect)

theorem ShotQueueLawAfter.requestKeeps {l : Line} {c : Instr} {type : Nat} {y : Answer} (law : s.shotQueueLaw)
    (kept : s.QueuesKept y.state) : ShotQueueLawAfter (.next (s.serve l c type y)) :=
  .request law (State.shotQueueLaw_of_kept law kept)

/-- A request that changes neither an arm nor a unit. -/
theorem ShotQueueLawAfter.requestSame {l : Line} {c : Instr} {type : Nat} {y : Answer} (law : s.shotQueueLaw)
    (same : y.state.arms = s.arms ∧ y.state.units = s.units) : ShotQueueLawAfter (.next (s.serve l c type y)) :=
  .requestKeeps law (.of_same same.2 same.1)

theorem ShotQueueLawAfter.requestReads {l : Line} {c : Instr} {type : Nat} {y : Answer} (law : s.shotQueueLaw)
    (same : y.state = s) : ShotQueueLawAfter (.next (s.serve l c type y)) :=
  .request law (by rw [same]; exact law)

theorem execMeterLevelChange_shotQueueLaw (law : s.shotQueueLaw) (a : Arm) (m : Meter) (high : Bool) :
    ShotQueueLawAfter (execMeterLevelChange a m high s) := by
  have presented := State.shotQueueLaw_of_kept law (.modMeter s a m fun y => y.present high)
  unfold execMeterLevelChange
  dsimp only
  split
  · split
    · exact .next (State.pulse_shotQueueLaw presented a m)
    · exact .kept presented (.modMeter _ a m _)
  · exact .next presented

theorem execNoFlowExpiry_shotQueueLaw (law : s.shotQueueLaw) (a : Arm) : ShotQueueLawAfter (execNoFlowExpiry a s) := by
  have stopped : (s.modArm a fun c => { c with noFlow := .stopped }).shotQueueLaw :=
    State.shotQueueLaw_of_kept law (.modArm s a fun _ => rfl)
  unfold execNoFlowExpiry
  split
  · dsimp only
    split
    · exact .kept stopped (.enterPaused _ a .noFlow)
    · exact .next stopped
  · exact .next law

theorem execAuthorizationWindowExpiry_shotQueueLaw (law : s.shotQueueLaw) (a : Arm) :
    ShotQueueLawAfter (execAuthorizationWindowExpiry a s) := by
  have stopped : (s.modArm a fun c => { c with window := .stopped }).shotQueueLaw :=
    State.shotQueueLaw_of_kept law (.modArm s a fun _ => rfl)
  unfold execAuthorizationWindowExpiry
  split
  · dsimp only
    split
    · refine .kept stopped (State.QueuesKept.trans ?_ (.enterFinishing _ a))
      exact .modRecord _ a fun _ => .of_items rfl rfl
    · exact .next stopped
  · exact .next law

theorem execStrokeTimeout_shotQueueLaw (law : s.shotQueueLaw) (u : UnitNo) :
    ShotQueueLawAfter (execStrokeTimeout u s) := by
  unfold execStrokeTimeout
  dsimp only
  split
  · exact .event law fun _ => State.strokeFailed_shotQueueLaw law u _
  · exact .next law

theorem execTerminalStopHalt_shotQueueLaw (law : s.shotQueueLaw) (a : Arm) :
    ShotQueueLawAfter (execTerminalStopHalt a s) := by
  unfold execTerminalStopHalt
  split
  · exact .next law
  · refine .eventKeeps law (State.QueuesKept.trans ?_ (.halt _ a .terminalStop))
    exact .modRecord s a fun _ => .of_items rfl rfl

theorem execAdditiveLostHalt_shotQueueLaw (law : s.shotQueueLaw) (a : Arm) (u : UnitNo) :
    ShotQueueLawAfter (execAdditiveLostHalt a u s) := by
  unfold execAdditiveLostHalt
  split
  · exact .next law
  · refine .eventKeeps law (State.QueuesKept.trans ?_ (.halt _ a (.additiveLost u)))
    exact .modRecord s a fun _ => .of_items rfl rfl

theorem execStopInputAcceptedEdge_shotQueueLaw (law : s.shotQueueLaw) (i : StopNo) :
    ShotQueueLawAfter (execStopInputAcceptedEdge i s) := by
  have edge : s.QueuesKept (s.modStop i fun y => { y with accepted := y.presented, test := none }) := .of_same rfl rfl
  unfold execStopInputAcceptedEdge
  dsimp only
  split
  · split
    · exact .kept law (edge.trans (.setLatch _ _))
    · exact .kept law edge
  · exact .next law

theorem execTelegramReceived_shotQueueLaw (law : s.shotQueueLaw) (l : Line) :
    ShotQueueLawAfter (execTelegramReceived l s) := by
  unfold execTelegramReceived
  split
  · exact .next law
  · next rest _ =>
    have taken := State.QueuesKept.modLine s l fun y => { y with received := rest }
    dsimp only
    split
    · exact .kept law (taken.trans (.modLine _ l _))
    · exact .kept law (taken.trans (.checkTelegram _ l _))

theorem execReplySent_shotQueueLaw (law : s.shotQueueLaw) (l : Line) : ShotQueueLawAfter (execReplySent l s) := by
  have started := State.shotQueueLaw_of_kept law (.replyStart s)
  unfold execReplySent
  split
  · cases l with
    | supervisor => exact .next (State.replySent_shotQueueLaw started .supervisor)
    | arm n => exact .next (State.replySent_shotQueueLaw law (.arm n))
  · exact .next law

theorem State.QueuesKept.nextChannel (s : State) : s.QueuesKept s.nextChannel := .of_same rfl rfl

theorem State.QueuesKept.settled (s : State) (u : UnitNo) : s.QueuesKept (s.modUnit u AdditiveUnit.stroke) :=
  .modUnit s u fun _ => ⟨rfl, rfl⟩

/-- The law is kept by every command. Only a hand-off from the completion wait list leans on the Record Queue's law: by it the
arm that becomes IDLE was in COMPLETE, and so in no queue. -/
theorem exec_shotQueueLaw (law : s.shotQueueLaw) (records : s.recordLaw) (c : Instr) : ShotQueueLawAfter (exec c s) := by
  cases c with
  | meterLevelChange a m high => exact execMeterLevelChange_shotQueueLaw law a m high
  | meterPulseAcceptance a m => exact .event law fun _ => State.pulse_shotQueueLaw law a m
  | capExpiry a m => exact .eventKeeps law (.modMeter s a m _)
  | idleExpiry a m => exact .eventKeeps law (.modMeter s a m _)
  | meterAcceptedFallingEdge a m => exact .eventKeeps law (.modMeter s a m _)
  | setMeters arm kb ke fb fe mb me => exact .requestSame law (s.setMeters_frame arm kb ke fb fe mb me)
  | readMeters arm => exact .requestSame law (s.readMeters_frame arm)
  | scanConversionComplete code => exact .eventKeeps law ((State.QueuesKept.takeCode s code.toNat).trans (.nextChannel _))
  | readScan => exact .requestReads law rfl
  | defineRecipe f => exact .requestSame law (s.defineRecipe_frame f)
  | withdrawRecipe entry => exact .requestSame law (s.withdrawRecipe_frame entry)
  | readRecipe entry => exact .requestReads law (s.readRecipe_state entry)
  | setArmService arm service => exact .request law (State.setArmService_shotQueueLaw law arm service)
  | authorize n code preset bill => exact .request law (State.authorize_shotQueueLaw law n code preset bill)
  | pause n => exact .request law (State.pause_shotQueueLaw law n)
  | resume n => exact .request law (State.resume_shotQueueLaw law n)
  | endLoad n => exact .request law (State.endLoad_shotQueueLaw law n)
  | abortLoad arm number => exact .request law (State.abortLoad_shotQueueLaw law arm number)
  | noFlowExpiry n => exact execNoFlowExpiry_shotQueueLaw law n
  | linkSilenceExpiry n =>
    have stopped : s.QueuesKept (s.modArm n fun c => { c with linkSilence := .stopped }) := .modArm s n fun _ => rfl
    exact .eventKeeps law (stopped.trans (.halt _ n .linkSilent))
  | authorizationWindowExpiry n => exact execAuthorizationWindowExpiry_shotQueueLaw law n
  | settleExpiry n =>
    have expired : (s.modArm n fun c => { c with settle := .expired }).shotQueueLaw :=
      State.shotQueueLaw_of_kept law (.modArm s n fun _ => rfl)
    exact .event law fun _ => State.examine_shotQueueLaw expired n
  | setStation nf ls w st al => exact .requestSame law ⟨rfl, rfl⟩
  | loadStatus n => exact .requestReads law (s.loadStatus_state n)
  | readLoad arm => exact .requestReads law (s.readLoad_state arm)
  | lastSummaryArm n => exact .requestReads law (s.lastSummary_state n)
  | lastSummarySupervisor arm => exact .requestReads law (s.lastSummaryOf_state arm)
  | holdTimerExpiry n => exact .eventKeeps law (.holdExpires s n)
  | ethanolFlowTimerExpiry n => exact .eventKeeps law (.halt s n _)
  | setHeader slots hold flow alpha threshold => exact .requestKeeps law (.setHeader s slots hold flow alpha threshold)
  | readHeader => exact .requestReads law rfl
  | unitSettleExpiry u => exact .eventKeeps law (.settled s u)
  | strokeConfirmLevelChange u high =>
    refine .kept law (.modUnit s u fun y => ?_)
    unfold AdditiveUnit.present
    split
    · exact ⟨rfl, rfl⟩
    · exact ⟨rfl, rfl⟩
  | strokeConfirmation u =>
    have edge : (s.modUnit u fun y => { y with accepted := true, test := none }).shotQueueLaw :=
      State.shotQueueLaw_of_kept law (.modUnit s u fun _ => ⟨rfl, rfl⟩)
    exact .event law fun _ => State.confirmation_shotQueueLaw edge u
  | confirmAcceptedFallingEdge u =>
    have edge : (s.modUnit u fun y => { y with accepted := false, test := none }).shotQueueLaw :=
      State.shotQueueLaw_of_kept law (.modUnit s u fun _ => ⟨rfl, rfl⟩)
    exact .event law fun _ => edge
  | strokeTimeout u => exact execStrokeTimeout_shotQueueLaw law u
  | additiveLostHalt n u => exact execAdditiveLostHalt_shotQueueLaw law n u
  | setUnit unit shot low timeout settle => exact .requestKeeps law (.setUnit s unit shot low timeout settle)
  | setUnitService unit service => exact .request law (State.setUnitService_shotQueueLaw law unit service)
  | refillUnit unit volume => exact .request law (State.refillUnit_shotQueueLaw law unit volume)
  | clearUnit unit => exact .request law (State.clearUnit_shotQueueLaw law unit)
  | readUnit unit => exact .requestReads law (s.readUnit_state unit)
  | readRecord => exact .requestReads law s.readRecord_state
  | removeRecord number => exact .request law (State.removeRecord_shotQueueLaw law records number)
  | waitListHandOff => exact .next (State.waitHandOff_shotQueueLaw law (State.waiting_complete records))
  | ageTimerExpiry => exact .eventKeeps law (.of_same rfl rfl)
  | setRecordNotice trigger age => exact .requestSame law ⟨rfl, rfl⟩
  | stopInputLevelChange i high => exact .kept law (.of_same rfl rfl)
  | stopInputAcceptedEdge i => exact execStopInputAcceptedEdge_shotQueueLaw law i
  | terminalStopHalt n => exact execTerminalStopHalt_shotQueueLaw law n
  | setStopInputs e0 e1 e2 e3 => exact .requestKeeps law (.setStopInputs s e0 e1 e2 e3)
  | terminalStop => exact .requestKeeps law (.setLatch s .supervisor)
  | terminalResume => exact .requestKeeps law (.terminalResume s)
  | characterReceived l data marker stopHigh =>
    cases l with
    | supervisor => exact .kept law (.receiveSupervisor s data marker stopHigh)
    | arm n => exact .kept law (.modLine s (.arm n) _)
  | characterGapTimeout l => exact .eventKeeps law (.modLine s l _)
  | telegramReceived l => exact execTelegramReceived_shotQueueLaw law l
  | replyStart => exact .kept law (.replyStart s)
  | replySent l => exact execReplySent_shotQueueLaw law l
  | powerOnReset pins => exact .next (State.resetWith_shotQueueLaw pins)
  | readLines => exact .requestSame law ⟨rfl, rfl⟩
  | readNoticeSupervisor => exact .requestKeeps law (.readNoticeSupervisor s)
  | readNoticeArm n => exact .requestKeeps law (.readNoticeArm s n)
  | stationClockAdvance => exact .eventKeeps law (.of_same rfl rfl)
  | setClock count => exact .requestSame law ⟨rfl, rfl⟩
  | readStation => exact .requestReads law rfl
  | restart force => exact .requestReads law (s.restartAnswer_state force)

theorem step_shotQueueLaw (law : s.shotQueueLaw) (records : s.recordLaw) : ShotQueueLawAfter (step s) := by
  unfold step
  split
  · exact .kept law (.tick s)
  · next c rest _ =>
    have queued : State.shotQueueLaw { s with pending := rest } := law
    exact exec_shotQueueLaw queued records c

end Sys2Proof.Machine

namespace Sys2Proof.Proofs

open Sys2Proof.Machine

/-- Settles O6: an arm joins a queue only where it may wait, and leaves it where it no longer may. -/
theorem shotQueueLawKept : Obligations.ShotQueueLawKept := by
  unfold Obligations.ShotQueueLawKept
  intro s t law records stepped
  exact step_shotQueueLaw law records t stepped

end Sys2Proof.Proofs
end


section
/-! The law of an additive unit (R131, R132, R136 to R138, R142, R145 to R147), operation by operation: what each does to a
lawful unit. -/

namespace Sys2Proof.Machine

variable {s t : State} {a : Arm} {u v : UnitNo} {x y : AdditiveUnit}

/-! ### One unit -/

/-- The unit with its shot queue left out of account. -/
def AdditiveUnit.bare (x : AdditiveUnit) : AdditiveUnit := { x with queue := [] }

theorem AdditiveUnit.lawful_iff_bare (x : AdditiveUnit) :
    x.lawful ↔ x.bare.lawful ∧ (x.queue ≠ [] → x.state = .routing ∨ x.state = .stroking) := by
  simp only [AdditiveUnit.lawful, AdditiveUnit.bare]
  grind

/-- Of a lawful unit only the queue's clause speaks of the queue, and a shorter one meets it. -/
theorem AdditiveUnit.lawful_filter (law : x.lawful) (p : Arm → Bool) :
    AdditiveUnit.lawful { x with queue := x.queue.filter p } := by
  obtain ⟨bare, busy⟩ := x.lawful_iff_bare.1 law
  refine (AdditiveUnit.lawful_iff_bare _).2 ⟨bare, fun filled => busy fun empty => filled ?_⟩
  simp [empty]

theorem AdditiveUnit.bare_of_lawful (law : x.lawful) : x.bare.lawful := (x.lawful_iff_bare.1 law).1

/-- A unit outside ROUTING and STROKING has an empty queue. -/
theorem AdditiveUnit.queue_eq_nil (law : x.lawful) (idle : x.state ≠ .routing ∧ x.state ≠ .stroking) : x.queue = [] := by
  by_contra filled
  obtain h | h := (x.lawful_iff_bare.1 law).2 filled
  · exact idle.1 h
  · exact idle.2 h

/-- A lawful unit in READY that takes an arm enters ROUTING or STROKING lawfully (R136 to R138). -/
theorem AdditiveUnit.begin_lawful (law : x.bare.lawful) (ready : x.state = .ready) (a : Arm) (rest : List Arm) :
    (x.begin a rest).lawful := by
  simp only [AdditiveUnit.lawful, AdditiveUnit.bare, ready] at law
  unfold AdditiveUnit.begin
  dsimp only
  split
  · simp_all [AdditiveUnit.stroke, AdditiveUnit.lawful, Timer.startMs, Timer.runs]
  · split
    · simp_all [AdditiveUnit.stroke, AdditiveUnit.lawful, Timer.startMs, Timer.runs]
    · simp_all [AdditiveUnit.lawful, Timer.startMs, Timer.runs]

/-- The unit after an arm's joining and the taking of its head. -/
theorem State.takeHead_unit_lawful (bare : (s.units.get u).bare.lawful)
    (open_ : (s.units.get u).queue ≠ [] → (s.units.get u).state.operational = true) :
    ((s.takeHead u).units.get u).lawful := by
  rw [State.takeHead_units_get]
  cases queue : (s.units.get u).queue with
  | nil => exact (AdditiveUnit.lawful_iff_bare _).2 ⟨bare, fun h => absurd queue h⟩
  | cons a rest =>
    dsimp only
    split
    · next h => exact AdditiveUnit.begin_lawful bare h.2 a rest
    · next h =>
      refine (AdditiveUnit.lawful_iff_bare _).2 ⟨bare, fun filled => ?_⟩
      have operational := open_ filled
      cases state : (s.units.get u).state <;> simp_all [UnitState.operational]

/-! ### Units that keep their law -/

/-- Every unit that is lawful in `s` is lawful in `t`. -/
def State.UnitsKept (s t : State) : Prop := ∀ u, (s.units.get u).lawful → (t.units.get u).lawful

theorem State.UnitsKept.refl (s : State) : s.UnitsKept s := fun _ => id

theorem State.UnitsKept.trans {x : State} (first : s.UnitsKept t) (second : t.UnitsKept x) : s.UnitsKept x :=
  fun u law => second u (first u law)

theorem State.UnitsKept.of_units (units : t.units = s.units) : s.UnitsKept t := fun u => by rw [units]; exact id

theorem State.UnitsKept.of_reset (reset : t.unitLaw) : s.UnitsKept t := fun u _ => reset u

/-- A change of unit `u` that takes a lawful one to a lawful one, and leaves the others. -/
theorem State.UnitsKept.of_unit (one : (s.units.get u).lawful → (t.units.get u).lawful)
    (others : ∀ v, v ≠ u → t.units.get v = s.units.get v) : s.UnitsKept t := fun v law => by
  by_cases e : v = u
  · subst e; exact one law
  · rw [others v e]; exact law

theorem State.UnitsKept.modUnit (s : State) (u : UnitNo) {f : AdditiveUnit → AdditiveUnit}
    (one : (s.units.get u).lawful → (f (s.units.get u)).lawful) : s.UnitsKept (s.modUnit u f) :=
  .of_unit (u := u) (by rw [State.modUnit_units, Bank.get_upd_same]; exact one) fun v ne => Bank.get_upd_of_ne _ _ ne

theorem State.UnitsKept.of_left (left : ∀ u, t.units.get u =
    { s.units.get u with queue := (s.units.get u).queue.filter fun b => b ≠ a }) : s.UnitsKept t := fun u law => by
  rw [left]; exact AdditiveUnit.lawful_filter law _

theorem State.UnitsKept.examine (s : State) (a : Arm) : s.UnitsKept (s.examine a) := .of_units (by simp)

theorem State.UnitsKept.foldl {α : Type} {f : State → α → State} (step : ∀ (s : State) (y : α), s.UnitsKept (f s y))
    (l : List α) (s : State) : s.UnitsKept (l.foldl f s) := by
  induction l generalizing s with
  | nil => exact .refl s
  | cons y l ih => exact (step s y).trans (ih _)

theorem State.takeHead_units_get_of_ne (s : State) (ne : v ≠ u) : (s.takeHead u).units.get v = s.units.get v := by
  rw [State.takeHead_units_get]
  split
  · rfl
  · exact if_neg fun h => ne h.1

/-! ### Joining a queue, and leaving all -/

theorem State.UnitsKept.enqueue (s : State) (u : UnitNo) (a : Arm) (operational : (s.units.get u).state.operational = true) :
    s.UnitsKept (s.enqueue u a) := by
  refine .of_unit (u := u) (fun law => State.takeHead_unit_lawful ?_ fun _ => ?_) fun v ne => s.enqueue_units_get_of_ne a ne
  · rw [State.modUnit_units, Bank.get_upd_same, AdditiveUnit.join_eq]
    exact (AdditiveUnit.lawful_iff_bare _).1 law |>.1
  · rw [State.modUnit_units, Bank.get_upd_same, AdditiveUnit.join_eq]
    exact operational

theorem State.UnitsKept.additiveResults (s : State) (a : Arm) : s.UnitsKept (s.additiveResults a) := by
  have due (t : State) (u : UnitNo) : t.UnitsKept (t.additiveDue u a) := by
    unfold State.additiveDue
    dsimp only
    split
    · next h => exact .enqueue t u a h.1
    · exact .refl t
  unfold State.additiveResults
  split
  · exact .refl s
  · exact .foldl (fun t i => iteInduction (motive := t.UnitsKept) (fun _ => due t i.unit) fun _ => .refl t) _ s

theorem State.UnitsKept.finalShots (s : State) (a : Arm) : s.UnitsKept (s.finalShots a) := by
  have shot (t : State) (i : LoadItem) : t.UnitsKept (t.finalShot a i) := by
    unfold State.finalShot
    dsimp only
    split
    · next due =>
      simp only [LoadItem.finalDue, Bool.and_eq_true] at due
      obtain ⟨⟨-, operational⟩, -⟩ := due
      have marked (f : LoadRecord → LoadRecord) : t.UnitsKept (t.modRecord a f) := .of_units rfl
      exact iteInduction (motive := t.UnitsKept) (fun _ => marked _)
        fun _ => (marked _).trans (.enqueue _ i.unit a operational)
    · exact .refl t
  unfold State.finalShots
  split
  · exact .refl s
  · exact .foldl shot _ s

theorem State.UnitsKept.enterPaused (s : State) (a : Arm) (cause : PauseCause) : s.UnitsKept (s.enterPaused a cause) :=
  .of_left (s.enterPaused_units_get a cause)

theorem State.UnitsKept.halt (s : State) (a : Arm) (why : HaltReason) : s.UnitsKept (s.halt a why) := by
  unfold State.halt
  split
  · exact .refl s
  · exact iteInduction (motive := s.UnitsKept) (fun _ => .of_left (s.enterHalted_units_get a why)) fun _ => .refl s

theorem State.UnitsKept.enterFinishing (s : State) (a : Arm) : s.UnitsKept (s.enterFinishing a) :=
  .of_left (s.enterFinishing_units_get a)

theorem State.UnitsKept.leaveQueues (s : State) (a : Arm) : s.UnitsKept (s.leaveQueues a) :=
  .of_left (s.leaveQueues_units_get a)

/-! ### A pulse and its delivery -/

theorem State.UnitsKept.blendTests (s : State) (a : Arm) : s.UnitsKept (s.blendTests a) := by
  unfold State.blendTests
  split
  · exact .refl s
  · split
    · exact .halt s a _
    · split
      · exact .halt s a _
      · split
        · exact State.UnitsKept.trans (.of_units (by simp)) (.additiveResults _ a)
        · exact State.UnitsKept.trans (.of_units (by simp)) (.additiveResults _ a)

theorem State.UnitsKept.laterStages (s : State) (a : Arm) (p : Phase) (baseVcf : Nat) :
    s.UnitsKept (s.laterStages a p baseVcf) := by
  have owed : s.UnitsKept (s.modRecord a fun r => r.oweEthanol baseVcf) := .of_units rfl
  cases p with
  | authorized => exact owed
  | flowing => exact owed.trans (.blendTests _ a)
  | paused c => exact owed.trans (.blendTests _ a)
  | flush => exact .additiveResults s a
  | halted => exact .refl s
  | finishing => exact .refl s
  | complete => exact .refl s

theorem State.UnitsKept.judge (s : State) (a : Arm) (p : Phase) (saturating : Bool) (baseVcf : Nat) :
    s.UnitsKept (s.judge a p saturating baseVcf) := by
  unfold State.judge
  split
  · exact .refl s
  · split
    · split
      · exact .halt s a _
      · split
        · exact .halt s a _
        · exact .laterStages s a p baseVcf
    · exact .refl s

theorem State.UnitsKept.deliver (s : State) (a : Arm) (d : Delivery) : s.UnitsKept (s.deliver a d) := by
  unfold State.deliver
  split
  · exact .refl s
  · exact State.UnitsKept.trans (.of_units (by simp)) (.judge _ a _ _ _)

theorem State.UnitsKept.pulse (s : State) (a : Arm) (m : Meter) : s.UnitsKept (s.pulse a m) := by
  have captured : s.UnitsKept (s.modMeter a m fun y => y.capture s.timebase) := .of_units rfl
  have residue (t : State) (f : MeterInput → MeterInput) : t.UnitsKept (t.modMeter a m f) := .of_units rfl
  unfold State.pulse
  dsimp only
  split
  · exact captured.trans ((residue _ _).trans (.deliver _ a _))
  · exact captured.trans (.of_units (by simp))

/-! ### Strokes, losses and services -/

/-- The low mark evaluated makes a unit lawful that was so but for it (R146). -/
def AdditiveUnit.marked (x : AdditiveUnit) : AdditiveUnit := { x with lowMark := decide (x.inventory < x.low) }

theorem State.evalLow_units_get (s : State) (u : UnitNo) : (s.evalLow u).units.get u = (s.units.get u).marked := by
  rw [State.evalLow_units, Bank.get_upd_same]; rfl

theorem State.evalLow_units_get_of_ne (s : State) (ne : v ≠ u) : (s.evalLow u).units.get v = s.units.get v := by
  rw [State.evalLow_units, Bank.get_upd_of_ne _ _ ne]

theorem State.unitLost_units_get (s : State) (u : UnitNo) (st : UnitState) (k : SupNotice) (d : Nat) :
    (s.unitLost u st k d).units.get u = { s.units.get u with state := st, queue := [] } := by
  rw [State.unitLost_units, Bank.get_upd_same]

theorem State.unitLost_units_get_of_ne (s : State) (ne : v ≠ u) (st : UnitState) (k : SupNotice) (d : Nat) :
    (s.unitLost u st k d).units.get v = s.units.get v := by
  rw [State.unitLost_units, Bank.get_upd_of_ne _ _ ne]

theorem State.unitServes_units_get_of_ne (s : State) (ne : v ≠ u) : (s.unitServes u).units.get v = s.units.get v := by
  unfold State.unitServes
  split
  · rw [State.takeHead_units_get_of_ne _ ne, State.modUnit_units, Bank.get_upd_of_ne _ _ ne]
  · exact State.unitLost_units_get_of_ne s ne _ _ _

/-- A unit put back to READY with its inventory a shot or more, or to EMPTY with less (R150, R152). -/
theorem State.unitServes_unit_lawful (ready : AdditiveUnit.lawful { s.units.get u with state := .ready, queue := [] } ∨
    (s.units.get u).inventory < (s.units.get u).shot)
    (empty : AdditiveUnit.lawful { s.units.get u with state := .empty, queue := [] } ∨
      (s.units.get u).shot ≤ (s.units.get u).inventory) : ((s.unitServes u).units.get u).lawful := by
  unfold State.unitServes
  split
  · next stocked =>
    refine State.takeHead_unit_lawful ?_ fun _ => ?_
    · rw [State.modUnit_units, Bank.get_upd_same]
      exact ready.resolve_right (Nat.not_lt.2 stocked)
    · rw [State.modUnit_units, Bank.get_upd_same]; rfl
  · next short =>
    rw [State.unitEmpties, State.unitLost_units_get]
    exact empty.resolve_right short

/-- An idle lawful unit with its failures cleared, and a shot volume, may serve (R150, R152). -/
theorem State.UnitsKept.unitServes_afresh (s : State) (u : UnitNo)
    (idle : (s.units.get u).state = .offline ∧ (s.units.get u).shot ≠ 0 ∨ (s.units.get u).state = .faulted) :
    s.UnitsKept (State.unitServes (s.modUnit u fun y => { y with failures := 0 }) u) := by
  refine .of_unit (u := u) (fun law => State.unitServes_unit_lawful ?_ ?_) fun v ne => ?_
  · rw [State.modUnit_units, Bank.get_upd_same]
    refine or_iff_not_imp_right.2 fun stocked => ?_
    simp only [AdditiveUnit.lawful] at law ⊢
    grind
  · rw [State.modUnit_units, Bank.get_upd_same]
    refine or_iff_not_imp_right.2 fun short => ?_
    simp only [AdditiveUnit.lawful] at law ⊢
    grind
  · rw [State.unitServes_units_get_of_ne _ ne, State.modUnit_units, Bank.get_upd_of_ne _ _ ne]

theorem State.backToReady_units_get_of_ne (s : State) (ne : v ≠ u) (a : Arm) :
    (s.backToReady u a).units.get v = s.units.get v := by
  unfold State.backToReady
  dsimp only
  rw [State.takeHead_units_get_of_ne _ ne]
  refine iteInduction (motive := fun t : State => t.units.get v = s.units.get v) (fun _ => ?_) fun _ => ?_
  · simp [Bank.get_upd, ne]
  · simp [Bank.get_upd, ne]

/-- A unit whose stroke has ended lawfully goes back to READY and takes its head. -/
theorem State.backToReady_unit_lawful (ready : AdditiveUnit.lawful { s.units.get u with state := .ready, queue := [] })
    (a : Arm) : ((s.backToReady u a).units.get u).lawful := by
  have readied : ((s.modUnit u fun x => { x with state := .ready }).units.get u) = { s.units.get u with state := .ready } := by
    rw [State.modUnit_units, Bank.get_upd_same]
  unfold State.backToReady
  refine iteInduction (motive := fun t : State => ((t.takeHead u).units.get u).lawful) (fun _ => ?_) fun _ => ?_
  · refine State.takeHead_unit_lawful ?_ fun _ => ?_
    · rw [State.modUnit_units, Bank.get_upd_same, readied, AdditiveUnit.join_eq]; exact ready
    · rw [State.modUnit_units, Bank.get_upd_same, readied, AdditiveUnit.join_eq]; rfl
  · refine State.takeHead_unit_lawful ?_ fun _ => ?_
    · rw [readied]; exact ready
    · rw [readied]; rfl

/-- A confirmed stroke of a lawful unit in STROKING (R140, R147). -/
theorem State.UnitsKept.strokeConfirmed (s : State) (u : UnitNo) (a : Arm) (stroking : (s.units.get u).state = .stroking) :
    s.UnitsKept (s.strokeConfirmed u a) := by
  unfold State.strokeConfirmed
  dsimp only
  have stoppedRuns : Timer.stopped.runs = false := rfl
  refine State.UnitsKept.trans ?_ (.examine _ a)
  generalize credited : State.evalLow _ u = t
  have unit : t.units.get u = AdditiveUnit.marked { s.units.get u with
      strokeTimer := .stopped, confirmed := countUp32 (s.units.get u).confirmed,
      inventory := (s.units.get u).inventory - (s.units.get u).shot, failures := 0, inFlight := none } := by
    rw [← credited, State.evalLow_units_get, State.modUnit_units, Bank.get_upd_same]; rfl
  have others (v : UnitNo) (ne : v ≠ u) : t.units.get v = s.units.get v := by
    rw [← credited, State.evalLow_units_get_of_ne _ ne, State.modUnit_units, Bank.get_upd_of_ne _ _ ne]; rfl
  refine .of_unit (u := u) (fun law => ?_) fun v ne => ?_
  · split
    · next stocked =>
      refine State.backToReady_unit_lawful ?_ a
      rw [unit] at stocked ⊢
      simp only [AdditiveUnit.lawful, AdditiveUnit.marked] at law stocked ⊢
      grind
    · next short =>
      rw [State.unitEmpties, State.unitLost_units_get]
      rw [unit] at short ⊢
      simp only [AdditiveUnit.lawful, AdditiveUnit.marked] at law short ⊢
      grind
  · split
    · rw [State.backToReady_units_get_of_ne _ ne, others v ne]
    · rw [State.unitEmpties, State.unitLost_units_get_of_ne _ ne, others v ne]

/-- A failed stroke of a lawful unit in STROKING (R142). -/
theorem State.UnitsKept.strokeFailed (s : State) (u : UnitNo) (a : Arm) (stroking : (s.units.get u).state = .stroking) :
    s.UnitsKept (s.strokeFailed u a) := by
  unfold State.strokeFailed
  dsimp only
  have stoppedRuns : Timer.stopped.runs = false := rfl
  refine State.UnitsKept.trans ?_ (.examine _ a)
  generalize ended : State.modUnit s u _ = t
  have unit : t.units.get u = { s.units.get u with
      strokeTimer := .stopped, failed := countUp32 (s.units.get u).failed, failures := (s.units.get u).failures + 1,
      inFlight := none } := by
    rw [← ended, State.modUnit_units, Bank.get_upd_same]
  have others (v : UnitNo) (ne : v ≠ u) : t.units.get v = s.units.get v := by
    rw [← ended, State.modUnit_units, Bank.get_upd_of_ne _ _ ne]
  refine .of_unit (u := u) (fun law => ?_) fun v ne => ?_
  · split
    · next third =>
      rw [State.unitLost_units_get]
      rw [unit] at third ⊢
      simp only [AdditiveUnit.lawful] at law third ⊢
      grind
    · next fewer =>
      refine State.backToReady_unit_lawful ?_ a
      rw [unit] at fewer ⊢
      simp only [AdditiveUnit.lawful] at law fewer ⊢
      grind
  · split
    · rw [State.unitLost_units_get_of_ne _ ne, others v ne]
    · rw [State.backToReady_units_get_of_ne _ ne, others v ne]

theorem State.UnitsKept.confirmation (s : State) (u : UnitNo) : s.UnitsKept (s.confirmation u) := by
  unfold State.confirmation
  dsimp only
  split
  · next stroking _ => exact .strokeConfirmed s u _ stroking
  · exact .modUnit s u id

/-! ### Requests -/

theorem refilled_bounds {inventory : Nat} (le : inventory ≤ 100000000) (volume : Nat) :
    inventory ≤ refilled inventory volume ∧ refilled inventory volume ≤ 100000000 := by
  unfold refilled Config.maxInventory; omega

/-- A refill raises the inventory, and an EMPTY unit with a shot again serves (R151). -/
theorem State.UnitsKept.refill (s : State) (u : UnitNo) (volume : Nat) : s.UnitsKept (s.refill u volume) := by
  unfold State.refill
  dsimp only
  generalize filled : State.evalLow _ u = t
  have unit : t.units.get u = AdditiveUnit.marked { s.units.get u with
      inventory := refilled (s.units.get u).inventory volume } := by
    rw [← filled, State.evalLow_units_get, State.modUnit_units, Bank.get_upd_same]
  have others (v : UnitNo) (ne : v ≠ u) : t.units.get v = s.units.get v := by
    rw [← filled, State.evalLow_units_get_of_ne _ ne, State.modUnit_units, Bank.get_upd_of_ne _ _ ne]
  refine .of_unit (u := u) (fun law => ?_) fun v ne => ?_
  · have bounds := refilled_bounds law.1 volume
    split
    · next h =>
      refine State.takeHead_unit_lawful ?_ fun _ => by rw [State.modUnit_units, Bank.get_upd_same]; rfl
      rw [State.modUnit_units, Bank.get_upd_same]
      rw [unit] at h ⊢
      simp only [AdditiveUnit.lawful, AdditiveUnit.marked, AdditiveUnit.bare] at law h ⊢
      grind
    · next h =>
      rw [unit] at h ⊢
      simp only [AdditiveUnit.lawful, AdditiveUnit.marked] at law h ⊢
      grind
  · split
    · rw [State.takeHead_units_get_of_ne _ ne, State.modUnit_units, Bank.get_upd_of_ne _ _ ne, others v ne]
    · exact others v ne

/-- SET UNIT takes settings of a unit that is OFFLINE alone, whose shot volume it then has (R149). -/
theorem State.UnitsKept.setUnit (s : State) (unit shot low timeout settle : Nat) :
    s.UnitsKept (s.setUnit unit shot low timeout settle).state := by
  unfold State.setUnit
  dsimp only
  split
  · next h =>
    split
    · exact .refl s
    · next offline =>
      split
      · exact .refl s
      · refine .of_unit (u := ⟨unit, h⟩) (fun law => ?_) fun v ne => ?_
        · rw [State.evalLow_units_get, State.modUnit_units, Bank.get_upd_same]
          simp only [AdditiveUnit.lawful, AdditiveUnit.marked, AdditiveUnit.configure, Decidable.not_not] at law offline ⊢
          grind
        · rw [State.evalLow_units_get_of_ne _ ne, State.modUnit_units, Bank.get_upd_of_ne _ _ ne]
  · exact .refl s

/-- A lawful unit that neither routes nor strokes goes OFFLINE lawfully (R150). -/
theorem State.UnitsKept.goOffline (s : State) (u : UnitNo)
    (idle : (s.units.get u).state ≠ .routing ∧ (s.units.get u).state ≠ .stroking) :
    s.UnitsKept (s.modUnit u AdditiveUnit.goOffline) := by
  refine .modUnit s u fun law => ?_
  have empty := AdditiveUnit.queue_eq_nil law idle
  simp only [AdditiveUnit.lawful, AdditiveUnit.goOffline] at law ⊢
  grind

theorem State.UnitsKept.setUnitService (s : State) (unit service : Nat) :
    s.UnitsKept (s.setUnitService unit service).state := by
  unfold State.setUnitService
  dsimp only
  split
  · split
    · exact .refl s
    · split
      · split
        · next offline =>
          split
          · exact .refl s
          · next shot => exact .unitServes_afresh s _ (.inl ⟨offline, shot⟩)
        · exact .refl s
      · have leaves (idle : (s.units.get ⟨unit, ‹unit < 4›⟩).state ≠ .routing ∧
            (s.units.get ⟨unit, ‹unit < 4›⟩).state ≠ .stroking) {x y : Answer} (refused : x.state = s)
            (offline : y.state = s.modUnit ⟨unit, ‹unit < 4›⟩ AdditiveUnit.goOffline) :
            s.UnitsKept (if s.unitListed ⟨unit, ‹unit < 4›⟩ = true then x else y).state :=
          iteInduction (motive := fun x : Answer => s.UnitsKept x.state) (fun _ => refused ▸ .refl s)
            fun _ => offline ▸ .goOffline s _ idle
        split
        · exact .refl s
        · exact .refl s
        · exact .refl s
        · next h => exact leaves ⟨by simp [h], by simp [h]⟩ rfl rfl
        · next h => exact leaves ⟨by simp [h], by simp [h]⟩ rfl rfl
        · next h => exact leaves ⟨by simp [h], by simp [h]⟩ rfl rfl
  · exact .refl s

theorem State.UnitsKept.refillUnit (s : State) (unit volume : Nat) : s.UnitsKept (s.refillUnit unit volume).state := by
  unfold State.refillUnit
  dsimp only
  split
  · split
    · exact .refl s
    · exact .refill s _ volume
  · exact .refl s

theorem State.UnitsKept.clearUnit (s : State) (unit : Nat) : s.UnitsKept (s.clearUnit unit).state := by
  unfold State.clearUnit
  dsimp only
  split
  · split
    · next faulted => exact .unitServes_afresh s _ (.inr faulted)
    · exact .refl s
  · exact .refl s

theorem State.setArmService_onlyArms (s : State) (arm service : Nat) :
    (s.setArmService arm service).state = { s with arms := (s.setArmService arm service).state.arms } := by
  unfold State.setArmService
  dsimp only
  repeat' split
  all_goals rfl

theorem State.authorize_units (s : State) (a : Arm) (code preset : Nat) (bill : List Byte) :
    (s.authorize a code preset bill).state.units = s.units := by
  unfold State.authorize
  dsimp only
  repeat' split
  all_goals rfl

theorem State.UnitsKept.pause (s : State) (a : Arm) : s.UnitsKept (s.pause a).state := by
  unfold State.pause
  split
  · exact .refl s
  · exact .enterPaused s a .driver
  · exact .of_units rfl
  · exact .refl s
  · exact .refl s

theorem State.UnitsKept.resume (s : State) (a : Arm) : s.UnitsKept (s.resume a).state := by
  have flowing : s.UnitsKept (s.enterFlowing a) := .of_units (by simp)
  unfold State.resume
  split
  · exact .refl s
  · exact flowing
  · exact .refl s
  · exact .refl s

theorem State.UnitsKept.endLoad (s : State) (a : Arm) : s.UnitsKept (s.endLoad a).state := by
  have ended := State.UnitsKept.enterFinishing s a
  have withShots := ended.trans (.finalShots _ a)
  unfold State.endLoad
  split
  · exact .refl s
  · exact ended
  · exact ended
  · exact withShots
  · exact withShots
  · exact withShots
  · exact .refl s
  · exact .refl s

theorem State.UnitsKept.aborted (s : State) (a : Arm) (r : LoadRecord) : s.UnitsKept (s.aborted a r) := by
  unfold State.aborted
  dsimp only
  generalize flagged : s.modRecord a _ = t
  have start : s.UnitsKept t := .of_units (by rw [← flagged]; rfl)
  have cleared : t.UnitsKept (t.clearMarks a) := .of_units rfl
  split
  · split
    · exact start.trans (cleared.trans ((State.UnitsKept.leaveQueues _ a).trans (.examine _ a)))
    · exact start.trans (cleared.trans (.leaveQueues _ a))
  · exact start.trans (.enterFinishing _ a)

theorem State.UnitsKept.abortLoad (s : State) (arm number : Nat) : s.UnitsKept (s.abortLoad arm number).state := by
  unfold State.abortLoad
  dsimp only
  split
  · split
    · exact .refl s
    · split
      · exact .refl s
      · split
        · exact .refl s
        · exact .aborted s _ _
  · exact .refl s

theorem State.UnitsKept.tick (s : State) : s.UnitsKept s.tick := fun u law => by
  simp only [State.tick, Bank.get_tab, AdditiveUnit.tick, AdditiveUnit.lawful, Timer.tick_runs] at law ⊢
  exact law

theorem State.serve_units (s : State) (l : Line) (c : Instr) (type : Nat) (y : Answer) (kept : s.UnitsKept y.state) :
    s.UnitsKept (s.serve l c type y) := by
  obtain same | ⟨p, served⟩ := s.serve_cases l c type y
  · rw [same]; exact .refl s
  · rw [served]; exact kept.trans (.of_units (by cases l <;> rfl))

theorem State.removeRecord_units (s : State) (number : Nat) : (s.removeRecord number).state.units = s.units := by
  unfold State.removeRecord
  split
  · rfl
  · split
    · rfl
    · simp

theorem State.setLatch_request_units (s : State) (c : StopCause) : (s.setLatch c).units = s.units := by simp

theorem State.setStopInputs_units (s : State) (e0 e1 e2 e3 : Nat) :
    (s.setStopInputs e0 e1 e2 e3).state.units = s.units := by
  unfold State.setStopInputs
  split
  · rfl
  · show (State.stopByEnable _).units = _
    simp

theorem State.terminalResume_units (s : State) : s.terminalResume.state.units = s.units := by
  unfold State.terminalResume
  dsimp only
  split
  · rfl
  · split
    · rfl
    · simp

theorem State.setHeader_units (s : State) (slots hold flowTimeout alpha threshold : Nat) :
    (s.setHeader slots hold flowTimeout alpha threshold).state.units = s.units := by
  simp [State.setHeader]

theorem State.readNoticeSupervisor_units (s : State) : s.readNoticeSupervisor.state.units = s.units := by
  unfold State.readNoticeSupervisor
  split
  · rfl
  · rfl

theorem State.readNoticeArm_units (s : State) (n : Arm) : (s.readNoticeArm n).state.units = s.units := by
  unfold State.readNoticeArm
  split
  · rfl
  · rfl

theorem State.modLine_units (s : State) (l : Line) (f : LineState → LineState) : (s.modLine l f).units = s.units := by
  cases l <;> rfl

theorem State.checkTelegram_units (s : State) (l : Line) (chars : List Byte) : (s.checkTelegram l chars).units = s.units := by
  unfold State.checkTelegram
  split
  · rfl
  · split
    · exact s.modLine_units l _
    · split
      · exact s.modLine_units l _
      · rw [State.modLine_units]; simp

theorem State.receiveSupervisor_units (s : State) (data : Byte) (marker stopHigh : Bool) :
    (s.receiveSupervisor data marker stopHigh).units = s.units := by
  unfold State.receiveSupervisor
  split
  · rfl
  · split
    · rfl
    · rfl

theorem State.replyStart_units (s : State) : s.replyStart.units = s.units :=
  iteInduction (motive := fun t : State => t.units = s.units) (fun _ => rfl) fun _ => rfl

theorem State.UnitsKept.replySent (s : State) (l : Line) : s.UnitsKept (s.replySent l) := by
  unfold State.replySent
  split
  · exact .refl s
  · split
    · exact .of_reset (State.resetWith_unitLaw _)
    · refine .of_units ?_
      cases l with
      | supervisor => rfl
      | arm n => rfl

/-! ### Every command -/

/-- Where the outcome is a next state, `P` holds of that. -/
def NextIs (P : State → Prop) (o : Host.Outcome State Fault Refusal) : Prop := ∀ t, o = .next t → P t

theorem NextIs.next {P : State → Prop} (h : P t) : NextIs P (.next t) := by
  rintro _ ⟨⟩
  exact h

/-- An event that has its effect where its condition holds, and none otherwise (log entry 4). -/
theorem NextIs.event {P : State → Prop} {c : Prop} [Decidable c] (same : P s) (effect : c → P t) :
    NextIs P (if c then .next t else .next s) :=
  iteInduction (fun h => .next (effect h)) fun _ => .next same

/-- The outcome's next state keeps the units' law. -/
abbrev UnitsKeptBy (s : State) : Host.Outcome State Fault Refusal → Prop := NextIs s.UnitsKept

theorem UnitsKeptBy.next (kept : s.UnitsKept t) : UnitsKeptBy s (.next t) := NextIs.next kept

theorem UnitsKeptBy.event {c : Prop} [Decidable c] (effect : c → s.UnitsKept t) :
    UnitsKeptBy s (if c then .next t else .next s) := NextIs.event (.refl s) effect

theorem UnitsKeptBy.sameEvent {c : Prop} [Decidable c] (same : t.units = s.units) :
    UnitsKeptBy s (if c then .next t else .next s) := NextIs.event (.refl s) fun _ => .of_units same

theorem UnitsKeptBy.request {l : Line} {c : Instr} {type : Nat} {y : Answer} (kept : s.UnitsKept y.state) :
    UnitsKeptBy s (.next (s.serve l c type y)) := NextIs.next (s.serve_units l c type y kept)

theorem UnitsKeptBy.requestSame {l : Line} {c : Instr} {type : Nat} {y : Answer} (same : y.state.units = s.units) :
    UnitsKeptBy s (.next (s.serve l c type y)) := .request (.of_units same)

theorem UnitsKeptBy.requestReads {l : Line} {c : Instr} {type : Nat} {y : Answer} (same : y.state = s) :
    UnitsKeptBy s (.next (s.serve l c type y)) := .requestSame (by rw [same])

theorem execMeterLevelChange_units (s : State) (a : Arm) (m : Meter) (high : Bool) :
    UnitsKeptBy s (execMeterLevelChange a m high s) := by
  have presented : s.UnitsKept (s.modMeter a m fun y => y.present high) := .of_units rfl
  unfold execMeterLevelChange
  dsimp only
  split
  · split
    · exact .next (presented.trans (.pulse _ a m))
    · exact .next (presented.trans (.of_units rfl))
  · exact .next presented

theorem execNoFlowExpiry_units (s : State) (a : Arm) : UnitsKeptBy s (execNoFlowExpiry a s) := by
  have stopped : s.UnitsKept (s.modArm a fun c => { c with noFlow := .stopped }) := .of_units rfl
  unfold execNoFlowExpiry
  split
  · dsimp only
    split
    · exact .next (stopped.trans (.enterPaused _ a .noFlow))
    · exact .next stopped
  · exact .next (.refl s)

theorem execAuthorizationWindowExpiry_units (s : State) (a : Arm) :
    UnitsKeptBy s (execAuthorizationWindowExpiry a s) := by
  have stopped : s.UnitsKept (s.modArm a fun c => { c with window := .stopped }) := .of_units rfl
  unfold execAuthorizationWindowExpiry
  split
  · dsimp only
    split
    · refine .next (stopped.trans (State.UnitsKept.trans ?_ (.enterFinishing _ a)))
      exact .of_units rfl
    · exact .next stopped
  · exact .next (.refl s)

theorem execStrokeTimeout_units (s : State) (u : UnitNo) : UnitsKeptBy s (execStrokeTimeout u s) := by
  unfold execStrokeTimeout
  dsimp only
  split
  · next stroking _ => exact .event fun _ => .strokeFailed s u _ stroking
  · exact .next (.refl s)

theorem execUnitSettleExpiry_units (s : State) (u : UnitNo) : UnitsKeptBy s (execUnitSettleExpiry u s) := by
  unfold execUnitSettleExpiry
  refine .event fun due => .modUnit s u fun law => ?_
  have routing := due.1
  simp only [AdditiveUnit.lawful, AdditiveUnit.stroke, Timer.startMs, Timer.runs, routing] at law ⊢
  grind

theorem execTerminalStopHalt_units (s : State) (a : Arm) : UnitsKeptBy s (execTerminalStopHalt a s) := by
  unfold execTerminalStopHalt
  split
  · exact .next (.refl s)
  · refine .event fun _ => State.UnitsKept.trans ?_ (.halt _ a .terminalStop)
    exact .of_units rfl

theorem execAdditiveLostHalt_units (s : State) (a : Arm) (u : UnitNo) : UnitsKeptBy s (execAdditiveLostHalt a u s) := by
  unfold execAdditiveLostHalt
  split
  · exact .next (.refl s)
  · refine .event fun _ => State.UnitsKept.trans ?_ (.halt _ a (.additiveLost u))
    exact .of_units rfl

theorem execStopInputAcceptedEdge_units (s : State) (i : StopNo) : UnitsKeptBy s (execStopInputAcceptedEdge i s) := by
  unfold execStopInputAcceptedEdge
  dsimp only
  split
  · split
    · exact .next (.of_units (by simp))
    · exact .next (.of_units rfl)
  · exact .next (.refl s)

theorem execTelegramReceived_units (s : State) (l : Line) : UnitsKeptBy s (execTelegramReceived l s) := by
  unfold execTelegramReceived
  split
  · exact .next (.refl s)
  · dsimp only
    split
    · exact .next (.of_units (by rw [State.modLine_units, State.modLine_units]))
    · exact .next (.of_units (by rw [State.checkTelegram_units, State.modLine_units]))

theorem execReplySent_units (s : State) (l : Line) : UnitsKeptBy s (execReplySent l s) := by
  have started : s.UnitsKept s.replyStart := .of_units s.replyStart_units
  unfold execReplySent
  split
  · cases l with
    | supervisor => exact .next (started.trans (.replySent _ .supervisor))
    | arm n => exact .next (.replySent s (.arm n))
  · exact .next (.refl s)

/-- No command takes a unit out of its law. -/
theorem exec_unitsKept (s : State) (c : Instr) : UnitsKeptBy s (exec c s) := by
  cases c with
  | meterLevelChange a m high => exact execMeterLevelChange_units s a m high
  | meterPulseAcceptance a m => exact .event fun _ => .pulse s a m
  | capExpiry a m => exact .sameEvent rfl
  | idleExpiry a m => exact .sameEvent rfl
  | meterAcceptedFallingEdge a m => exact .sameEvent rfl
  | setMeters arm kb ke fb fe mb me => exact .requestSame (s.setMeters_frame arm kb ke fb fe mb me).2
  | readMeters arm => exact .requestSame (s.readMeters_frame arm).2
  | scanConversionComplete code => exact .sameEvent (by simp)
  | readScan => exact .requestReads rfl
  | defineRecipe f => exact .requestSame (s.defineRecipe_frame f).2
  | withdrawRecipe entry => exact .requestSame (s.withdrawRecipe_frame entry).2
  | readRecipe entry => exact .requestReads (s.readRecipe_state entry)
  | setArmService arm service => exact .requestSame (by rw [s.setArmService_onlyArms])
  | authorize n code preset bill => exact .requestSame (s.authorize_units n code preset bill)
  | pause n => exact .request (.pause s n)
  | resume n => exact .request (.resume s n)
  | endLoad n => exact .request (.endLoad s n)
  | abortLoad arm number => exact .request (.abortLoad s arm number)
  | noFlowExpiry n => exact execNoFlowExpiry_units s n
  | linkSilenceExpiry n =>
    have stopped : s.UnitsKept (s.modArm n fun c => { c with linkSilence := .stopped }) := .of_units rfl
    exact .event fun _ => stopped.trans (.halt _ n .linkSilent)
  | authorizationWindowExpiry n => exact execAuthorizationWindowExpiry_units s n
  | settleExpiry n => exact .sameEvent (by simp)
  | setStation nf ls w st al => exact .requestSame rfl
  | loadStatus n => exact .requestReads (s.loadStatus_state n)
  | readLoad arm => exact .requestReads (s.readLoad_state arm)
  | lastSummaryArm n => exact .requestReads (s.lastSummary_state n)
  | lastSummarySupervisor arm => exact .requestReads (s.lastSummaryOf_state arm)
  | holdTimerExpiry n => exact .sameEvent (by simp)
  | ethanolFlowTimerExpiry n => exact .event fun _ => .halt s n _
  | setHeader slots hold flow alpha threshold => exact .requestSame (s.setHeader_units slots hold flow alpha threshold)
  | readHeader => exact .requestReads rfl
  | unitSettleExpiry u => exact execUnitSettleExpiry_units s u
  | strokeConfirmLevelChange u high =>
    refine .next (.modUnit s u fun law => ?_)
    unfold AdditiveUnit.present
    split
    · exact law
    · exact law
  | strokeConfirmation u =>
    have edge : s.UnitsKept (s.modUnit u fun y => { y with accepted := true, test := none }) := .modUnit s u id
    exact .event fun _ => edge.trans (.confirmation _ u)
  | confirmAcceptedFallingEdge u => exact .event fun _ => .modUnit s u id
  | strokeTimeout u => exact execStrokeTimeout_units s u
  | additiveLostHalt n u => exact execAdditiveLostHalt_units s n u
  | setUnit unit shot low timeout settle => exact .request (.setUnit s unit shot low timeout settle)
  | setUnitService unit service => exact .request (.setUnitService s unit service)
  | refillUnit unit volume => exact .request (.refillUnit s unit volume)
  | clearUnit unit => exact .request (.clearUnit s unit)
  | readUnit unit => exact .requestReads (s.readUnit_state unit)
  | readRecord => exact .requestReads s.readRecord_state
  | removeRecord number => exact .requestSame (s.removeRecord_units number)
  | waitListHandOff => exact .next (.of_units (by simp))
  | ageTimerExpiry => exact .sameEvent rfl
  | setRecordNotice trigger age => exact .requestSame rfl
  | stopInputLevelChange i high => exact .next (.of_units rfl)
  | stopInputAcceptedEdge i => exact execStopInputAcceptedEdge_units s i
  | terminalStopHalt n => exact execTerminalStopHalt_units s n
  | setStopInputs e0 e1 e2 e3 => exact .requestSame (s.setStopInputs_units e0 e1 e2 e3)
  | terminalStop => exact .requestSame (s.setLatch_request_units .supervisor)
  | terminalResume => exact .requestSame s.terminalResume_units
  | characterReceived l data marker stopHigh =>
    cases l with
    | supervisor => exact .next (.of_units (s.receiveSupervisor_units data marker stopHigh))
    | arm n => exact .next (.of_units rfl)
  | characterGapTimeout l => exact .sameEvent (s.modLine_units l _)
  | telegramReceived l => exact execTelegramReceived_units s l
  | replyStart => exact .next (.of_units s.replyStart_units)
  | replySent l => exact execReplySent_units s l
  | powerOnReset pins => exact .next (.of_reset (State.resetWith_unitLaw pins))
  | readLines => exact .requestSame rfl
  | readNoticeSupervisor => exact .requestSame s.readNoticeSupervisor_units
  | readNoticeArm n => exact .requestSame (s.readNoticeArm_units n)
  | stationClockAdvance => exact .sameEvent rfl
  | setClock count => exact .requestSame rfl
  | readStation => exact .requestReads rfl
  | restart force => exact .requestReads (s.restartAnswer_state force)

theorem step_unitsKept (s : State) : UnitsKeptBy s (step s) := by
  unfold step
  split
  · exact .next (.tick s)
  · next c rest _ => exact exec_unitsKept { s with pending := rest } c

end Sys2Proof.Machine

namespace Sys2Proof.Proofs

open Sys2Proof.Machine

/-- Settles O7: no step takes a unit out of its law, whichever unit it works on. -/
theorem unitLawKept : Obligations.UnitLawKept := by
  unfold Obligations.UnitLawKept
  intro s t law stepped u
  exact step_unitsKept s t stepped u (law u)

end Sys2Proof.Proofs
end


section
/-! While the latch is CLEAR no enabled stop input is active (R171, R172, R175): only the stop commands and a reset touch the
latch or its inputs, and every command that could leave such an input sets the latch or does not clear it. -/

namespace Sys2Proof.Machine

variable {s t : State} {a : Arm} {i : StopNo}

/-! ### The latch and its condition -/

theorem StopLatch.condition_eq_false (x : StopLatch) :
    x.condition = false ↔ ∀ i, (x.inputs.get i).enabled = true → (x.inputs.get i).accepted = true := by
  simp [StopLatch.condition, StopInput.active]

/-- The stop condition is the presence of a lowest enabled and active input (R172). -/
theorem StopLatch.condition_of_firstActive {x : StopLatch} (none : x.firstActive = none) : x.condition = false := by
  unfold StopLatch.firstActive at none
  unfold StopLatch.condition
  rw [List.any_eq_false]
  rw [List.find?_eq_none] at none
  exact none

/-- A setting leaves the latch SET, whatever it was. -/
theorem State.setLatch_latch (s : State) (c : StopCause) : (s.setLatch c).stop.latch ≠ none := by
  unfold State.setLatch
  split
  · next set => exact Option.isSome_iff_ne_none.1 set
  · simp

/-- The law of the latch is kept from `s` to `t`. -/
def State.StopKept (s t : State) : Prop := s.stopLaw → t.stopLaw

theorem State.StopKept.refl (s : State) : s.StopKept s := id

theorem State.StopKept.of_stop (stop : t.stop = s.stop) : s.StopKept t := fun law => by
  unfold State.stopLaw at law ⊢
  rw [stop]; exact law

theorem State.StopKept.of_law (law : t.stopLaw) : s.StopKept t := fun _ => law

theorem State.StopKept.setLatch (t : State) (c : StopCause) : s.StopKept (t.setLatch c) :=
  .of_law fun clear => absurd clear (t.setLatch_latch c)

/-- An input whose enabled level is accepted high, or that is not enabled, keeps the law. -/
theorem State.StopKept.modStop {f : StopInput → StopInput} (inactive : (s.stop.latch = none →
      ((s.stop.inputs.get i).enabled = true → (s.stop.inputs.get i).accepted = true) →
        (f (s.stop.inputs.get i)).enabled = true → (f (s.stop.inputs.get i)).accepted = true)) :
    s.StopKept (s.modStop i f) := fun law clear => by
  have before := (StopLatch.condition_eq_false _).1 (law clear)
  refine (StopLatch.condition_eq_false _).2 fun j enabled => ?_
  by_cases e : j = i
  · subst e
    simp only [State.modStop, Bank.get_upd_same] at enabled ⊢
    exact inactive clear (before j) enabled
  · simp only [State.modStop, Bank.get_upd_of_ne _ _ e] at enabled ⊢
    exact before j enabled

/-! ### Requests -/

theorem State.setMeters_stop (s : State) (arm kb ke fb fe mb me : Nat) :
    (s.setMeters arm kb ke fb fe mb me).state.stop = s.stop := by
  unfold State.setMeters
  dsimp only
  repeat' split
  all_goals rfl

theorem State.readMeters_stop (s : State) (arm : Nat) : (s.readMeters arm).state.stop = s.stop := by
  unfold State.readMeters
  split
  · rfl
  · rfl

theorem State.defineRecipe_stop (s : State) (f : RecipeFields) : (s.defineRecipe f).state.stop = s.stop := by
  unfold State.defineRecipe
  dsimp only
  repeat' split
  all_goals rfl

theorem State.withdrawRecipe_stop (s : State) (entry : Nat) : (s.withdrawRecipe entry).state.stop = s.stop := by
  unfold State.withdrawRecipe
  dsimp only
  repeat' split
  all_goals rfl

theorem State.authorize_stop (s : State) (a : Arm) (code preset : Nat) (bill : List Byte) :
    (s.authorize a code preset bill).state.stop = s.stop := by
  unfold State.authorize
  dsimp only
  repeat' split
  all_goals rfl

theorem State.pause_stop (s : State) (a : Arm) : (s.pause a).state.stop = s.stop := by
  have paused : (s.enterPaused a .driver).stop = s.stop := by simp
  unfold State.pause
  split
  · rfl
  · exact paused
  · rfl
  · rfl
  · rfl

theorem State.resume_stop (s : State) (a : Arm) : (s.resume a).state.stop = s.stop := by
  have flowing : (s.enterFlowing a).stop = s.stop := by simp
  unfold State.resume
  split
  · rfl
  · exact flowing
  · rfl
  · rfl

theorem State.endLoad_stop (s : State) (a : Arm) : (s.endLoad a).state.stop = s.stop := by
  have ended : (s.enterFinishing a).stop = s.stop := by simp
  have withShots : ((s.enterFinishing a).finalShots a).stop = s.stop := by simp
  unfold State.endLoad
  split
  · rfl
  · exact ended
  · exact ended
  · exact withShots
  · exact withShots
  · exact withShots
  · rfl
  · rfl

theorem State.abortLoad_stop (s : State) (arm number : Nat) : (s.abortLoad arm number).state.stop = s.stop := by
  unfold State.abortLoad
  dsimp only
  split
  · split
    · rfl
    · split
      · rfl
      · split
        · rfl
        · simp
  · rfl

theorem State.setHeader_stop (s : State) (slots hold flowTimeout alpha threshold : Nat) :
    (s.setHeader slots hold flowTimeout alpha threshold).state.stop = s.stop := by
  simp [State.setHeader]

theorem State.setUnit_stop (s : State) (unit shot low timeout settle : Nat) :
    (s.setUnit unit shot low timeout settle).state.stop = s.stop := by
  unfold State.setUnit
  dsimp only
  split
  · split
    · rfl
    · split
      · rfl
      · simp
  · rfl

theorem State.setUnitService_stop (s : State) (unit service : Nat) :
    (s.setUnitService unit service).state.stop = s.stop := by
  have serves (u : UnitNo) (f : AdditiveUnit → AdditiveUnit) : ((s.modUnit u f).unitServes u).stop = s.stop := by simp
  unfold State.setUnitService
  dsimp only
  split
  · split
    · rfl
    · split
      · split
        · split
          · rfl
          · exact serves _ _
        · rfl
      · repeat' split
        all_goals rfl
  · rfl

theorem State.refillUnit_stop (s : State) (unit volume : Nat) : (s.refillUnit unit volume).state.stop = s.stop := by
  unfold State.refillUnit
  dsimp only
  split
  · split
    · rfl
    · simp
  · rfl

theorem State.clearUnit_stop (s : State) (unit : Nat) : (s.clearUnit unit).state.stop = s.stop := by
  have serves (u : UnitNo) (f : AdditiveUnit → AdditiveUnit) : ((s.modUnit u f).unitServes u).stop = s.stop := by simp
  unfold State.clearUnit
  dsimp only
  split
  · split
    · exact serves _ _
    · rfl
  · rfl

theorem State.removeRecord_stop (s : State) (number : Nat) : (s.removeRecord number).state.stop = s.stop := by
  unfold State.removeRecord
  split
  · rfl
  · split
    · rfl
    · simp

theorem State.readNoticeSupervisor_stop (s : State) : s.readNoticeSupervisor.state.stop = s.stop := by
  unfold State.readNoticeSupervisor
  split
  · rfl
  · rfl

theorem State.readNoticeArm_stop (s : State) (n : Arm) : (s.readNoticeArm n).state.stop = s.stop := by
  unfold State.readNoticeArm
  split
  · rfl
  · rfl

/-- A SET STOP INPUTS sets the latch where an input it leaves enabled is active (R171, R172). -/
theorem State.StopKept.setStopInputs (s : State) (e0 e1 e2 e3 : Nat) :
    s.StopKept (s.setStopInputs e0 e1 e2 e3).state := by
  unfold State.setStopInputs State.stopByEnable
  split
  · exact .refl s
  · dsimp only
    split
    · next quiet => exact .of_law fun _ => StopLatch.condition_of_firstActive quiet
    · exact .setLatch _ _

/-- A TERMINAL RESUME clears the latch where the stop condition is false alone (R175). -/
theorem State.StopKept.terminalResume (s : State) : s.StopKept s.terminalResume.state := by
  have cleared : s.clearLatch.stop = { s.stop with latch := none } := by
    simp [State.clearLatch]
  unfold State.terminalResume
  dsimp only
  split
  · exact .refl s
  · split
    · exact .refl s
    · next quiet =>
      refine .of_law fun _ => ?_
      rw [cleared]
      exact Bool.not_eq_true _ ▸ quiet

/-! ### Telegrams, replies and time -/

theorem State.modLine_stop (s : State) (l : Line) (f : LineState → LineState) : (s.modLine l f).stop = s.stop := by
  cases l with
  | supervisor => rfl
  | arm n => rfl

theorem State.checkTelegram_stop (s : State) (l : Line) (chars : List Byte) : (s.checkTelegram l chars).stop = s.stop := by
  unfold State.checkTelegram
  split
  · rfl
  · split
    · exact s.modLine_stop l _
    · split
      · exact s.modLine_stop l _
      · rw [State.modLine_stop]; simp

theorem State.receiveSupervisor_stop (s : State) (data : Byte) (marker stopHigh : Bool) :
    (s.receiveSupervisor data marker stopHigh).stop = s.stop := by
  unfold State.receiveSupervisor
  split
  · rfl
  · split
    · rfl
    · rfl

theorem State.replyStart_stop (s : State) : s.replyStart.stop = s.stop :=
  iteInduction (motive := fun t : State => t.stop = s.stop) (fun _ => rfl) fun _ => rfl

theorem State.StopKept.replySent (s : State) (l : Line) : s.StopKept (s.replySent l) := by
  unfold State.replySent
  split
  · exact .refl s
  · split
    · exact .of_law (State.resetWith_stopLaw _)
    · refine .of_stop ?_
      cases l with
      | supervisor => rfl
      | arm n => rfl

theorem State.StopKept.tick (s : State) : s.StopKept s.tick := fun law clear => by
  have before := (StopLatch.condition_eq_false _).1 (law clear)
  refine (StopLatch.condition_eq_false _).2 fun i => ?_
  simp only [State.tick, Bank.get_tab]
  exact before i

theorem State.StopKept.serve {l : Line} {c : Instr} {type : Nat} {y : Answer} (kept : s.StopKept y.state) :
    s.StopKept (s.serve l c type y) := fun law => by
  obtain same | ⟨p, served⟩ := s.serve_cases l c type y
  · rw [same]; exact law
  · rw [served]; exact State.StopKept.of_stop (State.modLine_stop _ l _) (kept law)

/-! ### Every command -/

/-- The outcome's next state keeps the latch's law. -/
abbrev StopKeptBy (s : State) : Host.Outcome State Fault Refusal → Prop := NextIs s.StopKept

theorem StopKeptBy.same (stop : t.stop = s.stop) : StopKeptBy s (.next t) := NextIs.next (.of_stop stop)

theorem StopKeptBy.event {c : Prop} [Decidable c] (stop : t.stop = s.stop) :
    StopKeptBy s (if c then .next t else .next s) := NextIs.event (.refl s) fun _ => .of_stop stop

theorem StopKeptBy.request {l : Line} {c : Instr} {type : Nat} {y : Answer} (kept : s.StopKept y.state) :
    StopKeptBy s (.next (s.serve l c type y)) := NextIs.next kept.serve

theorem StopKeptBy.requestSame {l : Line} {c : Instr} {type : Nat} {y : Answer} (stop : y.state.stop = s.stop) :
    StopKeptBy s (.next (s.serve l c type y)) := .request (.of_stop stop)

theorem StopKeptBy.requestReads {l : Line} {c : Instr} {type : Nat} {y : Answer} (same : y.state = s) :
    StopKeptBy s (.next (s.serve l c type y)) := .requestSame (by rw [same])

theorem execMeterLevelChange_stop (s : State) (a : Arm) (m : Meter) (high : Bool) :
    StopKeptBy s (execMeterLevelChange a m high s) := by
  unfold execMeterLevelChange
  dsimp only
  split
  · split
    · exact .same (by simp)
    · exact .same rfl
  · exact .same rfl

theorem execNoFlowExpiry_stop (s : State) (a : Arm) : StopKeptBy s (execNoFlowExpiry a s) := by
  unfold execNoFlowExpiry
  split
  · dsimp only
    split
    · exact .same (by simp)
    · exact .same rfl
  · exact .same rfl

theorem execAuthorizationWindowExpiry_stop (s : State) (a : Arm) : StopKeptBy s (execAuthorizationWindowExpiry a s) := by
  unfold execAuthorizationWindowExpiry
  split
  · dsimp only
    split
    · exact .same (by simp)
    · exact .same rfl
  · exact .same rfl

theorem execStrokeTimeout_stop (s : State) (u : UnitNo) : StopKeptBy s (execStrokeTimeout u s) := by
  unfold execStrokeTimeout
  dsimp only
  split
  · exact .event (by simp)
  · exact .same rfl

theorem execTerminalStopHalt_stop (s : State) (a : Arm) : StopKeptBy s (execTerminalStopHalt a s) := by
  unfold execTerminalStopHalt
  split
  · exact .same rfl
  · exact .event (by simp)

theorem execAdditiveLostHalt_stop (s : State) (a : Arm) (u : UnitNo) : StopKeptBy s (execAdditiveLostHalt a u s) := by
  unfold execAdditiveLostHalt
  split
  · exact .same rfl
  · exact .event (by simp)

/-- An accepted edge that makes an enabled input active sets the latch; any other leaves its input inactive or not enabled
(R172). -/
theorem execStopInputAcceptedEdge_stop (s : State) (i : StopNo) : StopKeptBy s (execStopInputAcceptedEdge i s) := by
  unfold execStopInputAcceptedEdge
  dsimp only
  split
  · split
    · exact .next (.setLatch _ _)
    · next other =>
      refine .next (.modStop fun _ _ enabled => ?_)
      exact Bool.not_eq_false _ ▸ fun low => other ⟨low, enabled⟩
  · exact .same rfl

theorem execTelegramReceived_stop (s : State) (l : Line) : StopKeptBy s (execTelegramReceived l s) := by
  unfold execTelegramReceived
  split
  · exact .same rfl
  · dsimp only
    split
    · exact .same (by rw [State.modLine_stop, State.modLine_stop])
    · exact .same (by rw [State.checkTelegram_stop, State.modLine_stop])

theorem execReplySent_stop (s : State) (l : Line) : StopKeptBy s (execReplySent l s) := by
  have started : s.StopKept s.replyStart := .of_stop s.replyStart_stop
  unfold execReplySent
  split
  · cases l with
    | supervisor => exact .next fun law => State.StopKept.replySent _ .supervisor (started law)
    | arm n => exact .next (.replySent s (.arm n))
  · exact .same rfl

/-- No command leaves the latch CLEAR with an enabled input active. -/
theorem exec_stopKept (s : State) (c : Instr) : StopKeptBy s (exec c s) := by
  cases c with
  | meterLevelChange a m high => exact execMeterLevelChange_stop s a m high
  | meterPulseAcceptance a m => exact .event (by simp)
  | capExpiry a m => exact .event rfl
  | idleExpiry a m => exact .event rfl
  | meterAcceptedFallingEdge a m => exact .event rfl
  | setMeters arm kb ke fb fe mb me => exact .requestSame (s.setMeters_stop arm kb ke fb fe mb me)
  | readMeters arm => exact .requestSame (s.readMeters_stop arm)
  | scanConversionComplete code => exact .event (by simp)
  | readScan => exact .requestReads rfl
  | defineRecipe f => exact .requestSame (s.defineRecipe_stop f)
  | withdrawRecipe entry => exact .requestSame (s.withdrawRecipe_stop entry)
  | readRecipe entry => exact .requestReads (s.readRecipe_state entry)
  | setArmService arm service => exact .requestSame (by rw [s.setArmService_onlyArms])
  | authorize n code preset bill => exact .requestSame (s.authorize_stop n code preset bill)
  | pause n => exact .requestSame (s.pause_stop n)
  | resume n => exact .requestSame (s.resume_stop n)
  | endLoad n => exact .requestSame (s.endLoad_stop n)
  | abortLoad arm number => exact .requestSame (s.abortLoad_stop arm number)
  | noFlowExpiry n => exact execNoFlowExpiry_stop s n
  | linkSilenceExpiry n => exact .event (by simp)
  | authorizationWindowExpiry n => exact execAuthorizationWindowExpiry_stop s n
  | settleExpiry n => exact .event (by simp)
  | setStation nf ls w st al => exact .requestSame rfl
  | loadStatus n => exact .requestReads (s.loadStatus_state n)
  | readLoad arm => exact .requestReads (s.readLoad_state arm)
  | lastSummaryArm n => exact .requestReads (s.lastSummary_state n)
  | lastSummarySupervisor arm => exact .requestReads (s.lastSummaryOf_state arm)
  | holdTimerExpiry n => exact .event (by simp)
  | ethanolFlowTimerExpiry n => exact .event (by simp)
  | setHeader slots hold flow alpha threshold => exact .requestSame (s.setHeader_stop slots hold flow alpha threshold)
  | readHeader => exact .requestReads rfl
  | unitSettleExpiry u => exact .event rfl
  | strokeConfirmLevelChange u high => exact .same rfl
  | strokeConfirmation u => exact .event (by simp)
  | confirmAcceptedFallingEdge u => exact .event rfl
  | strokeTimeout u => exact execStrokeTimeout_stop s u
  | additiveLostHalt n u => exact execAdditiveLostHalt_stop s n u
  | setUnit unit shot low timeout settle => exact .requestSame (s.setUnit_stop unit shot low timeout settle)
  | setUnitService unit service => exact .requestSame (s.setUnitService_stop unit service)
  | refillUnit unit volume => exact .requestSame (s.refillUnit_stop unit volume)
  | clearUnit unit => exact .requestSame (s.clearUnit_stop unit)
  | readUnit unit => exact .requestReads (s.readUnit_state unit)
  | readRecord => exact .requestReads s.readRecord_state
  | removeRecord number => exact .requestSame (s.removeRecord_stop number)
  | waitListHandOff => exact .same (by simp)
  | ageTimerExpiry => exact .event rfl
  | setRecordNotice trigger age => exact .requestSame rfl
  | stopInputLevelChange i high =>
    refine .next (.modStop fun _ before => ?_)
    unfold StopInput.present
    split
    · exact before
    · exact before
  | stopInputAcceptedEdge i => exact execStopInputAcceptedEdge_stop s i
  | terminalStopHalt n => exact execTerminalStopHalt_stop s n
  | setStopInputs e0 e1 e2 e3 => exact .request (.setStopInputs s e0 e1 e2 e3)
  | terminalStop => exact .request (.setLatch s .supervisor)
  | terminalResume => exact .request (.terminalResume s)
  | characterReceived l data marker stopHigh =>
    cases l with
    | supervisor => exact .same (s.receiveSupervisor_stop data marker stopHigh)
    | arm n => exact .same rfl
  | characterGapTimeout l => exact .event (s.modLine_stop l _)
  | telegramReceived l => exact execTelegramReceived_stop s l
  | replyStart => exact .same s.replyStart_stop
  | replySent l => exact execReplySent_stop s l
  | powerOnReset pins => exact .next (.of_law (State.resetWith_stopLaw pins))
  | readLines => exact .requestSame rfl
  | readNoticeSupervisor => exact .requestSame s.readNoticeSupervisor_stop
  | readNoticeArm n => exact .requestSame (s.readNoticeArm_stop n)
  | stationClockAdvance => exact .event rfl
  | setClock count => exact .requestSame rfl
  | readStation => exact .requestReads rfl
  | restart force => exact .requestReads (s.restartAnswer_state force)

theorem step_stopKept (s : State) : StopKeptBy s (step s) := by
  unfold step
  split
  · exact .next (.tick s)
  · next c rest _ => exact exec_stopKept { s with pending := rest } c

end Sys2Proof.Machine

namespace Sys2Proof.Proofs

open Sys2Proof.Machine

/-- Settles O8: whatever leaves an enabled input active sets the latch. -/
theorem stopLawKept : Obligations.StopLawKept := by
  unfold Obligations.StopLawKept
  intro s t law stepped
  exact step_stopKept s t stepped law

end Sys2Proof.Proofs
end


section
/-! The laws of the lines: every notice set stays in READ NOTICE's order with each kind and index once (R187, R188), and the two
kinds of line counter that have no cause stay 0 (R186), operation by operation. -/

namespace Sys2Proof.Machine

variable {s t : State} {a : Arm} {u : UnitNo}

/-! ### Notice sets -/

/-- The set's notices stand in the order of their keys, each once. -/
def keysSorted {κ : Type} (key : κ → Nat) (l : List (κ × Option Nat)) : Prop := (l.map fun p => key p.1).Pairwise (· < ·)

/-- A raising adds no key but its own. -/
theorem key_of_mem_raiseIn {κ : Type} {key : κ → Nat} {k : κ} {d : Option Nat} {l : List (κ × Option Nat)} {p : κ × Option Nat}
    (mem : p ∈ raiseIn key k d l) : p.1 = k ∨ p ∈ l := by
  induction l with
  | nil => simp only [raiseIn, List.mem_singleton] at mem; exact .inl (by rw [mem])
  | cons q rest ih =>
    unfold raiseIn at mem
    split at mem
    · exact .inr mem
    · split at mem
      · obtain rfl | old := List.mem_cons.1 mem
        · exact .inl rfl
        · exact .inr old
      · obtain rfl | old := List.mem_cons.1 mem
        · exact .inr (by simp)
        · exact (ih old).imp_right fun h => List.mem_cons_of_mem _ h

/-- A notice raised joins in its place (R187). -/
theorem keysSorted_raiseIn {κ : Type} {key : κ → Nat} {l : List (κ × Option Nat)} (sorted : keysSorted key l) (k : κ)
    (d : Option Nat) : keysSorted key (raiseIn key k d l) := by
  induction l with
  | nil => simp [raiseIn, keysSorted]
  | cons p rest ih =>
    unfold keysSorted at sorted ih ⊢
    obtain ⟨below, tail⟩ := List.pairwise_cons.1 sorted
    unfold raiseIn
    split
    · exact sorted
    · split
      · next less =>
        refine List.pairwise_cons.2 ⟨fun n mem => ?_, sorted⟩
        obtain rfl | later := List.mem_cons.1 mem
        · exact less
        · exact less.trans (below n later)
      · next ne notLess =>
        refine List.pairwise_cons.2 ⟨fun n mem => ?_, ih tail⟩
        obtain ⟨q, old, rfl⟩ := List.mem_map.1 mem
        obtain new | old := key_of_mem_raiseIn old
        · rw [new]; dsimp only; omega
        · exact below _ (List.mem_map.2 ⟨q, old, rfl⟩)

theorem keysSorted_raiseShorts {l : List (ArmNotice × Option Nat)} (sorted : keysSorted ArmNotice.key l)
    (old new : ExceptionFlags) : keysSorted ArmNotice.key (raiseShorts old new l) := by
  unfold raiseShorts
  generalize List.finRange 4 = units
  induction units generalizing l with
  | nil => exact sorted
  | cons u rest ih =>
    rw [List.foldl_cons]
    exact ih (iteInduction (motive := keysSorted ArmNotice.key) (fun _ => keysSorted_raiseIn sorted _ _) fun _ => sorted)

theorem keysSorted_lossNotices {l : List (ArmNotice × Option Nat)} (sorted : keysSorted ArmNotice.key l)
    (old new : Option LoadRecord) : keysSorted ArmNotice.key (lossNotices old new l) := by
  unfold lossNotices
  split
  · exact keysSorted_raiseShorts sorted _ _
  · exact sorted

/-! ### The lines' law -/

/-- The supervisor line's share of the two laws. -/
def SupLine.lawful (x : SupLine) : Prop := keysSorted SupNotice.key x.notices ∧ x.line.counters.misdirected = 0

/-- An arm line's share of the two laws. -/
def ArmLine.lawful (y : ArmLine) : Prop := keysSorted ArmNotice.key y.notices ∧ y.line.counters.collision = 0

/-- Both laws of the lines, line by line. -/
def State.linesLawful (s : State) : Prop := s.supervisor.lawful ∧ ∀ n : Arm, (s.armLines.get n).lawful

theorem State.linesLawful_iff (s : State) : s.linesLawful ↔ s.noticeLaw ∧ s.counterLaw := by
  simp only [State.linesLawful, SupLine.lawful, ArmLine.lawful, State.noticeLaw, State.counterLaw, keysSorted, forall_and]
  grind

/-- The lines' laws are kept from `s` to `t`. -/
def State.LinesKept (s t : State) : Prop := s.linesLawful → t.linesLawful

theorem State.LinesKept.refl (s : State) : s.LinesKept s := id

theorem State.LinesKept.trans {x : State} (first : s.LinesKept t) (second : t.LinesKept x) : s.LinesKept x :=
  fun law => second (first law)

theorem State.LinesKept.of_lines (sup : t.supervisor = s.supervisor) (arms : t.armLines = s.armLines) : s.LinesKept t :=
  fun law => by rw [State.linesLawful, sup, arms]; exact law

/-- A change of the supervisor line that keeps its share. -/
theorem State.LinesKept.of_sup (sup : s.supervisor.lawful → t.supervisor.lawful) (arms : t.armLines = s.armLines) :
    s.LinesKept t := fun law => ⟨sup law.1, by rw [arms]; exact law.2⟩

/-- A change of the arm lines that keeps each one's share. -/
theorem State.LinesKept.of_arms (sup : t.supervisor = s.supervisor)
    (arms : ∀ n, (s.armLines.get n).lawful → (t.armLines.get n).lawful) : s.LinesKept t :=
  fun law => ⟨by rw [sup]; exact law.1, fun n => arms n (law.2 n)⟩

theorem State.LinesKept.updArm {f : ArmLine → ArmLine} (sup : t.supervisor = s.supervisor)
    (arms : t.armLines = s.armLines.upd a f) (kept : (s.armLines.get a).lawful → (f (s.armLines.get a)).lawful) :
    s.LinesKept t := .of_arms sup fun n law => by
  rw [arms]
  by_cases e : n = a
  · subst e; rw [Bank.get_upd_same]; exact kept law
  · rw [Bank.get_upd_of_ne _ _ e]; exact law

theorem State.LinesKept.raiseSup (s : State) (k : SupNotice) (d : Option Nat) : s.LinesKept (s.raiseSup k d) :=
  .of_sup (fun law => ⟨keysSorted_raiseIn law.1 k d, law.2⟩) rfl

theorem State.LinesKept.raiseArm (s : State) (n : Arm) (k : ArmNotice) (d : Option Nat) : s.LinesKept (s.raiseArm n k d) := by
  refine .updArm (a := n) (f := fun x => { x with notices := raiseIn ArmNotice.key k d x.notices }) rfl rfl fun law => ?_
  exact ⟨keysSorted_raiseIn law.1 k d, law.2⟩

theorem State.LinesKept.foldl {α : Type} {f : State → α → State} (step : ∀ (s : State) (y : α), s.LinesKept (f s y))
    (l : List α) (s : State) : s.LinesKept (l.foldl f s) := by
  induction l generalizing s with
  | nil => exact .refl s
  | cons y l ih => exact (step s y).trans (ih _)

/-! ### Records and completion -/

theorem State.LinesKept.triggerTest (s : State) : s.LinesKept s.triggerTest :=
  iteInduction (motive := s.LinesKept) (fun _ => .raiseSup s _ none) fun _ => .refl s

theorem State.LinesKept.handOff (s : State) (a : Arm) : s.LinesKept (s.handOff a) := by
  unfold State.handOff
  split
  · exact .refl s
  · refine State.LinesKept.trans ?_ (.triggerTest _)
    exact .of_lines rfl rfl

theorem State.LinesKept.offer (s : State) (a : Arm) : s.LinesKept (s.offer a) :=
  iteInduction (motive := s.LinesKept) (fun _ => .handOff s a) fun _ => .of_lines rfl rfl

theorem State.LinesKept.examine (s : State) (a : Arm) : s.LinesKept (s.examine a) := by
  refine iteInduction (motive := s.LinesKept) (fun _ => ?_) fun _ => .refl s
  unfold State.enterComplete
  split
  · exact .refl s
  · refine State.LinesKept.trans ?_ (.offer _ a)
    refine .of_arms rfl fun n law => ?_
    rw [Bank.get_upd]
    refine iteInduction (motive := ArmLine.lawful) (fun e => ?_) fun _ => law
    subst e
    exact ⟨keysSorted_raiseIn (keysSorted_raiseShorts law.1 _ _) _ _, law.2⟩

/-! ### Load states -/

theorem State.LinesKept.setRestrict (s : State) (a : Arm) (on : Bool) : s.LinesKept (s.setRestrict a on) := by
  unfold State.setRestrict
  split
  · exact .refl s
  · refine iteInduction (motive := s.LinesKept) (fun _ => .refl s) fun _ => ?_
    exact State.LinesKept.trans (.of_lines rfl rfl) (.raiseArm _ a _ none)

theorem State.LinesKept.enterPaused (s : State) (a : Arm) (c : PauseCause) : s.LinesKept (s.enterPaused a c) :=
  .of_lines (by simp) (by simp)

theorem State.LinesKept.leaveHeader (s : State) (a : Arm) : s.LinesKept (s.leaveHeader a) := .of_lines (by simp) (by simp)

theorem State.LinesKept.enterFlush (s : State) (a : Arm) : s.LinesKept (s.enterFlush a) := by
  unfold State.enterFlush
  refine State.LinesKept.trans (t := (s.setPhase a .flush).modArm a fun x => { x with noFlow := .stopped }) (.of_lines rfl rfl) ?_
  exact (State.LinesKept.setRestrict _ a false).trans (.leaveHeader _ a)

theorem State.LinesKept.leaveQueues (s : State) (a : Arm) : s.LinesKept (s.leaveQueues a) := .of_lines rfl rfl

theorem State.LinesKept.halt (s : State) (a : Arm) (why : HaltReason) : s.LinesKept (s.halt a why) := by
  unfold State.halt
  split
  · exact .refl s
  · refine iteInduction (motive := s.LinesKept) (fun _ => ?_) fun _ => .refl s
    unfold State.enterHalted
    dsimp only
    refine State.LinesKept.trans ?_ (.raiseSup _ _ _)
    refine State.LinesKept.trans ?_ (.raiseArm _ a _ _)
    refine State.LinesKept.trans ?_ (.leaveQueues _ a)
    refine State.LinesKept.trans ?_ (.leaveHeader _ a)
    refine State.LinesKept.trans ?_ (.setRestrict _ a false)
    exact .of_lines rfl rfl

theorem State.LinesKept.enterFinishing (s : State) (a : Arm) : s.LinesKept (s.enterFinishing a) := by
  unfold State.enterFinishing
  dsimp only
  refine State.LinesKept.trans ?_ (.leaveQueues _ a)
  refine State.LinesKept.trans ?_ (.leaveHeader _ a)
  refine State.LinesKept.trans ?_ (.setRestrict _ a false)
  exact .of_lines rfl rfl

/-! ### Units -/

theorem State.LinesKept.evalLow (s : State) (u : UnitNo) : s.LinesKept (s.evalLow u) := by
  have marked (f : AdditiveUnit → AdditiveUnit) : s.LinesKept (s.modUnit u f) := .of_lines rfl rfl
  unfold State.evalLow
  exact iteInduction (motive := s.LinesKept) (fun _ => (marked _).trans (.raiseSup _ _ _)) fun _ => marked _

theorem State.LinesKept.unitLost (s : State) (u : UnitNo) (st : UnitState) (k : SupNotice) (d : Nat) :
    s.LinesKept (s.unitLost u st k d) := by
  unfold State.unitLost State.loseUnit
  refine State.LinesKept.trans ?_ (.foldl .examine _ _)
  refine State.LinesKept.trans ?_ (.raiseSup _ _ _)
  refine .of_arms rfl fun n law => ?_
  rw [Bank.get_tab]
  exact ⟨keysSorted_lossNotices law.1 _ _, law.2⟩

theorem State.LinesKept.modUnit (s : State) (u : UnitNo) (f : AdditiveUnit → AdditiveUnit) : s.LinesKept (s.modUnit u f) :=
  .of_lines rfl rfl

theorem State.LinesKept.takeHead (s : State) (u : UnitNo) : s.LinesKept (s.takeHead u) := .of_lines (by simp) (by simp)

theorem State.LinesKept.unitServes (s : State) (u : UnitNo) : s.LinesKept (s.unitServes u) :=
  iteInduction (motive := s.LinesKept) (fun _ => (State.LinesKept.modUnit s u _).trans (.takeHead _ u))
    fun _ => .unitLost s u _ _ _

theorem State.LinesKept.backToReady (s : State) (u : UnitNo) (a : Arm) : s.LinesKept (s.backToReady u a) :=
  .of_lines (by simp) (by simp)

theorem State.LinesKept.strokeConfirmed (s : State) (u : UnitNo) (a : Arm) : s.LinesKept (s.strokeConfirmed u a) := by
  unfold State.strokeConfirmed
  dsimp only
  refine State.LinesKept.trans ?_ (.examine _ a)
  generalize credited : State.modUnit _ u _ = t
  have start : s.LinesKept t := .of_lines (by rw [← credited]; rfl) (by rw [← credited]; rfl)
  refine start.trans ((State.LinesKept.evalLow t u).trans ?_)
  exact iteInduction (motive := (t.evalLow u).LinesKept) (fun _ => .backToReady _ u a) fun _ => .unitLost _ u _ _ _

theorem State.LinesKept.strokeFailed (s : State) (u : UnitNo) (a : Arm) : s.LinesKept (s.strokeFailed u a) := by
  unfold State.strokeFailed
  dsimp only
  refine State.LinesKept.trans ?_ (.examine _ a)
  generalize ended : State.modUnit s u _ = t
  have start : s.LinesKept t := .of_lines (by rw [← ended]; rfl) (by rw [← ended]; rfl)
  refine start.trans ?_
  exact iteInduction (motive := t.LinesKept) (fun _ => .unitLost t u _ _ _) fun _ => .backToReady t u a

theorem State.LinesKept.confirmation (s : State) (u : UnitNo) : s.LinesKept (s.confirmation u) := by
  unfold State.confirmation
  dsimp only
  split
  · exact .strokeConfirmed s u _
  · exact .modUnit s u _

/-! ### Pulses -/

theorem State.LinesKept.additiveResults (s : State) (a : Arm) : s.LinesKept (s.additiveResults a) :=
  .of_lines (by simp) (by simp)

theorem State.LinesKept.blendTests (s : State) (a : Arm) : s.LinesKept (s.blendTests a) := by
  unfold State.blendTests
  split
  · exact .refl s
  · split
    · exact .halt s a _
    · split
      · exact .halt s a _
      · split
        · exact (State.LinesKept.enterFlush s a).trans (.additiveResults _ a)
        · have result : s.LinesKept (s.ethanolResult a) := .of_lines (by simp) (by simp)
          refine result.trans (State.LinesKept.trans ?_ (.additiveResults _ a))
          unfold State.restrictTest
          split
          · exact .refl _
          · exact .setRestrict _ a _

theorem State.LinesKept.laterStages (s : State) (a : Arm) (p : Phase) (baseVcf : Nat) :
    s.LinesKept (s.laterStages a p baseVcf) := by
  have owed : s.LinesKept (s.modRecord a fun r => r.oweEthanol baseVcf) := .of_lines rfl rfl
  cases p with
  | authorized => exact owed
  | flowing => exact owed.trans (.blendTests _ a)
  | paused c => exact owed.trans (.blendTests _ a)
  | flush => exact .additiveResults s a
  | halted => exact .refl s
  | finishing => exact .refl s
  | complete => exact .refl s

theorem State.LinesKept.deliver (s : State) (a : Arm) (d : Delivery) : s.LinesKept (s.deliver a d) := by
  have judge (s : State) (p : Phase) (saturating : Bool) (baseVcf : Nat) : s.LinesKept (s.judge a p saturating baseVcf) := by
    unfold State.judge
    split
    · exact .refl s
    · split
      · split
        · exact .halt s a _
        · split
          · exact .halt s a _
          · exact .laterStages s a p baseVcf
      · exact .refl s
  unfold State.deliver
  split
  · exact .refl s
  · exact State.LinesKept.trans (.of_lines (by simp) (by simp)) (judge _ _ _ _)

theorem State.LinesKept.unassigned (s : State) (a : Arm) (k : Nat) : s.LinesKept (s.unassigned a k) := by
  have counted (f : ArmMeters → ArmMeters) : s.LinesKept (s.modMeters a f) := .of_lines rfl rfl
  unfold State.unassigned
  exact iteInduction (motive := s.LinesKept) (fun _ => (counted _).trans (.raiseSup _ _ _)) fun _ => counted _

theorem State.LinesKept.pulse (s : State) (a : Arm) (m : Meter) : s.LinesKept (s.pulse a m) := by
  have captured : s.LinesKept (s.modMeter a m fun y => y.capture s.timebase) := .of_lines rfl rfl
  have residue (t : State) (f : MeterInput → MeterInput) : t.LinesKept (t.modMeter a m f) := .of_lines rfl rfl
  unfold State.pulse
  dsimp only
  split
  · exact captured.trans ((residue _ _).trans (.deliver _ a _))
  · exact captured.trans (.unassigned _ a _)

/-! ### The scan and the latch -/

theorem State.LinesKept.convertPressure (s : State) (code : Nat) : s.LinesKept (s.convertPressure code) := by
  have compared : s.LinesKept { s with scan := s.scan.comparePressure code s.header.threshold } := .of_lines rfl rfl
  have revoked (t : State) : t.LinesKept t.revokeAll := .of_lines (by simp) (by simp)
  have granted (t : State) : t.LinesKept t.grants := .of_lines (by simp) (by simp)
  unfold State.convertPressure
  split
  · exact .refl s
  · dsimp only
    split
    · exact compared
    · split
      · exact (compared.trans (revoked _)).trans (.raiseSup _ _ _)
      · exact (compared.trans (granted _)).trans (.raiseSup _ _ _)

theorem State.LinesKept.convertTemperature (s : State) (c : Fin 9) (code : Nat) :
    s.LinesKept (s.convertTemperature c code) := by
  have taken (x : Scan) : s.LinesKept { s with scan := x } := .of_lines rfl rfl
  unfold State.convertTemperature
  dsimp only
  split
  · exact .refl s
  · split
    · exact taken _
    · exact iteInduction (motive := s.LinesKept) (fun _ => (taken _).trans (.raiseSup _ _ _)) fun _ => taken _

theorem State.LinesKept.convertReference (s : State) (r : Fin 3) (code : Nat) : s.LinesKept (s.convertReference r code) := by
  have taken (x : Scan) : s.LinesKept { s with scan := x } := .of_lines rfl rfl
  unfold State.convertReference
  dsimp only
  split
  · split
    · exact taken _
    · exact (taken _).trans (.raiseSup _ _ _)
  · split
    · exact (taken _).trans (.raiseSup _ _ _)
    · exact taken _

theorem State.LinesKept.takeCode (s : State) (code : Nat) : s.LinesKept (s.takeCode code) := by
  unfold State.takeCode
  dsimp only
  split
  · exact .convertTemperature s _ code
  · split
    · exact .convertPressure s code
    · split
      · exact .convertReference s 0 code
      · split
        · exact .convertReference s 1 code
        · exact .convertReference s 2 code

theorem State.LinesKept.stopNotices (s : State) : s.LinesKept s.stopNotices := by
  unfold State.stopNotices
  refine State.LinesKept.trans ?_ (.raiseSup _ _ _)
  refine .of_arms rfl fun n law => ?_
  rw [Bank.get_tab]
  refine iteInduction (motive := ArmLine.lawful) (fun _ => ?_) fun _ => law
  exact ⟨keysSorted_raiseIn law.1 _ _, law.2⟩

theorem State.LinesKept.setLatch (s : State) (c : StopCause) : s.LinesKept (s.setLatch c) := by
  unfold State.setLatch
  split
  · exact .refl s
  · refine State.LinesKept.trans ?_ (.stopNotices _)
    exact .of_lines rfl rfl

theorem State.LinesKept.clearLatch (s : State) : s.LinesKept s.clearLatch :=
  State.LinesKept.trans (.of_lines (by simp) (by simp)) (.stopNotices _)

/-! ### Requests -/

theorem State.setMeters_lines (s : State) (arm kb ke fb fe mb me : Nat) :
    s.LinesKept (s.setMeters arm kb ke fb fe mb me).state := by
  unfold State.setMeters
  dsimp only
  repeat' split
  all_goals exact .of_lines rfl rfl

theorem State.readMeters_lines (s : State) (arm : Nat) : s.LinesKept (s.readMeters arm).state := by
  unfold State.readMeters
  split
  · exact .of_lines rfl rfl
  · exact .refl s

theorem State.defineRecipe_lines (s : State) (f : RecipeFields) : s.LinesKept (s.defineRecipe f).state := by
  unfold State.defineRecipe
  dsimp only
  repeat' split
  all_goals exact .of_lines rfl rfl

theorem State.withdrawRecipe_lines (s : State) (entry : Nat) : s.LinesKept (s.withdrawRecipe entry).state := by
  unfold State.withdrawRecipe
  dsimp only
  repeat' split
  all_goals exact .of_lines rfl rfl

theorem State.authorize_lines (s : State) (a : Arm) (code preset : Nat) (bill : List Byte) :
    s.LinesKept (s.authorize a code preset bill).state := by
  unfold State.authorize
  dsimp only
  repeat' split
  all_goals exact .of_lines rfl rfl

theorem State.LinesKept.pause (s : State) (a : Arm) : s.LinesKept (s.pause a).state := by
  unfold State.pause
  split
  · exact .refl s
  · exact .enterPaused s a .driver
  · exact .of_lines rfl rfl
  · exact .refl s
  · exact .refl s

theorem State.LinesKept.resume (s : State) (a : Arm) : s.LinesKept (s.resume a).state := by
  have flowing : s.LinesKept (s.enterFlowing a) := .of_lines (by simp) (by simp)
  unfold State.resume
  split
  · exact .refl s
  · exact flowing
  · exact .refl s
  · exact .refl s

theorem State.LinesKept.finalShots (s : State) (a : Arm) : s.LinesKept (s.finalShots a) := .of_lines (by simp) (by simp)

theorem State.LinesKept.endLoad (s : State) (a : Arm) : s.LinesKept (s.endLoad a).state := by
  have ended := State.LinesKept.enterFinishing s a
  have withShots := ended.trans (.finalShots _ a)
  unfold State.endLoad
  split
  · exact .refl s
  · exact ended
  · exact ended
  · exact withShots
  · exact withShots
  · exact withShots
  · exact .refl s
  · exact .refl s

theorem State.LinesKept.aborted (s : State) (a : Arm) (r : LoadRecord) : s.LinesKept (s.aborted a r) := by
  unfold State.aborted
  dsimp only
  generalize flagged : s.modRecord a _ = t
  have start : s.LinesKept t := .of_lines (by rw [← flagged]; rfl) (by rw [← flagged]; rfl)
  have cleared : t.LinesKept (t.clearMarks a) := .of_lines rfl rfl
  split
  · split
    · exact start.trans (cleared.trans ((State.LinesKept.leaveQueues _ a).trans (.examine _ a)))
    · exact start.trans (cleared.trans (.leaveQueues _ a))
  · exact start.trans (.enterFinishing _ a)

theorem State.LinesKept.abortLoad (s : State) (arm number : Nat) : s.LinesKept (s.abortLoad arm number).state := by
  unfold State.abortLoad
  dsimp only
  split
  · split
    · exact .refl s
    · split
      · exact .refl s
      · split
        · exact .refl s
        · exact .aborted s _ _
  · exact .refl s

theorem State.LinesKept.setHeader (s : State) (slots hold flowTimeout alpha threshold : Nat) :
    s.LinesKept (s.setHeader slots hold flowTimeout alpha threshold).state :=
  .of_lines (by simp [State.setHeader]) (by simp [State.setHeader])

theorem State.LinesKept.setUnit (s : State) (unit shot low timeout settle : Nat) :
    s.LinesKept (s.setUnit unit shot low timeout settle).state := by
  unfold State.setUnit
  dsimp only
  split
  · split
    · exact .refl s
    · split
      · exact .refl s
      · exact (State.LinesKept.modUnit s _ _).trans (.evalLow _ _)
  · exact .refl s

theorem State.LinesKept.setUnitService (s : State) (unit service : Nat) :
    s.LinesKept (s.setUnitService unit service).state := by
  unfold State.setUnitService
  dsimp only
  split
  · split
    · exact .refl s
    · split
      · split
        · split
          · exact .refl s
          · exact (State.LinesKept.modUnit s _ _).trans (.unitServes _ _)
        · exact .refl s
      · repeat' split
        all_goals exact .of_lines rfl rfl
  · exact .refl s

theorem State.LinesKept.refillUnit (s : State) (unit volume : Nat) : s.LinesKept (s.refillUnit unit volume).state := by
  have refill (u : UnitNo) : s.LinesKept (s.refill u volume) := by
    unfold State.refill
    dsimp only
    generalize filled : State.evalLow _ u = t
    have start : s.LinesKept t := filled ▸ (State.LinesKept.modUnit s u _).trans (.evalLow _ u)
    split
    · exact start.trans ((State.LinesKept.modUnit t u _).trans (.takeHead _ u))
    · exact start
  unfold State.refillUnit
  dsimp only
  split
  · split
    · exact .refl s
    · exact refill _
  · exact .refl s

theorem State.LinesKept.clearUnit (s : State) (unit : Nat) : s.LinesKept (s.clearUnit unit).state := by
  unfold State.clearUnit
  dsimp only
  split
  · split
    · exact (State.LinesKept.modUnit s _ _).trans (.unitServes _ _)
    · exact .refl s
  · exact .refl s

theorem State.LinesKept.waitHandOff (s : State) : s.LinesKept s.waitHandOff := by
  unfold State.waitHandOff
  split
  · exact .refl s
  · refine iteInduction (motive := s.LinesKept) (fun _ => ?_) fun _ => .refl s
    refine State.LinesKept.trans ?_ (.handOff _ _)
    exact .of_lines rfl rfl

theorem State.LinesKept.removeRecord (s : State) (number : Nat) : s.LinesKept (s.removeRecord number).state := by
  unfold State.removeRecord
  split
  · exact .refl s
  · next d rest _ =>
    split
    · exact .refl s
    · have removed : s.LinesKept (s.removed rest) := by
        refine State.LinesKept.trans ?_ (.waitHandOff _)
        exact .of_lines rfl rfl
      exact removed

theorem State.LinesKept.setStopInputs (s : State) (e0 e1 e2 e3 : Nat) :
    s.LinesKept (s.setStopInputs e0 e1 e2 e3).state := by
  have enabled (x : StopLatch) : s.LinesKept { s with stop := x } := .of_lines rfl rfl
  unfold State.setStopInputs State.stopByEnable
  split
  · exact .refl s
  · dsimp only
    split
    · exact enabled _
    · exact (enabled _).trans (.setLatch _ _)

theorem State.LinesKept.terminalResume (s : State) : s.LinesKept s.terminalResume.state := by
  unfold State.terminalResume
  dsimp only
  split
  · exact .refl s
  · split
    · exact .refl s
    · exact .clearLatch s

/-- READ LINES sets every counter to 0 (R186). -/
theorem State.LinesKept.clearCounters (s : State) : s.LinesKept s.clearCounters := fun law =>
  ⟨⟨law.1.1, rfl⟩, fun n => by
    simp only [State.clearCounters, Bank.get_tab]
    exact ⟨(law.2 n).1, rfl⟩⟩

/-- READ NOTICE takes the first notice of its set, and the rest keep their order (R188). -/
theorem State.LinesKept.readNoticeSupervisor (s : State) : s.LinesKept s.readNoticeSupervisor.state := by
  unfold State.readNoticeSupervisor
  split
  · exact .refl s
  · next rest set =>
    refine .of_sup (fun law => ⟨?_, law.2⟩) rfl
    have sorted := law.1
    rw [set] at sorted
    exact (List.pairwise_cons.1 sorted).2

theorem State.LinesKept.readNoticeArm (s : State) (n : Arm) : s.LinesKept (s.readNoticeArm n).state := by
  unfold State.readNoticeArm
  split
  · exact .refl s
  · next rest set =>
    refine .updArm (a := n) (f := fun x => { x with notices := rest }) rfl rfl fun law => ⟨?_, law.2⟩
    have sorted := law.1
    rw [set] at sorted
    exact (List.pairwise_cons.1 sorted).2

/-! ### Characters, telegrams and replies -/

/-- A change of a line that leaves alone the counter which has no cause there. -/
theorem State.LinesKept.modLine (s : State) (l : Line) {f : LineState → LineState}
    (misdirected : l = .supervisor → ∀ y, (f y).counters.misdirected = y.counters.misdirected)
    (collision : l ≠ .supervisor → ∀ y, (f y).counters.collision = y.counters.collision) : s.LinesKept (s.modLine l f) := by
  cases l with
  | supervisor => exact .of_sup (fun law => ⟨law.1, (misdirected rfl _).trans law.2⟩) rfl
  | arm n =>
    refine .updArm (a := n) (f := fun x => { x with line := f x.line }) rfl rfl fun law => ?_
    exact ⟨law.1, (collision (by simp) _).trans law.2⟩

/-- A change of a line that leaves both counters alone. -/
theorem State.LinesKept.modLineCounting (s : State) (l : Line) {f : LineState → LineState}
    (kept : ∀ y, (f y).counters.misdirected = y.counters.misdirected ∧ (f y).counters.collision = y.counters.collision) :
    s.LinesKept (s.modLine l f) := .modLine s l (fun _ y => (kept y).1) fun _ y => (kept y).2

theorem LineState.receive_counters (y : LineState) (data : Byte) (marker stopHigh mine : Bool) :
    (y.receive data marker stopHigh mine).counters.misdirected = y.counters.misdirected ∧
    (y.receive data marker stopHigh mine).counters.collision = y.counters.collision := by
  have aborted : y.abortPartial.counters.misdirected = y.counters.misdirected ∧
      y.abortPartial.counters.collision = y.counters.collision := by
    unfold LineState.abortPartial
    split
    · exact ⟨rfl, rfl⟩
    · exact ⟨rfl, rfl⟩
  unfold LineState.receive
  split
  · split
    · exact aborted
    · exact aborted
  · unfold LineState.takeOther
    split
    · exact ⟨rfl, rfl⟩
    · split
      · exact ⟨rfl, rfl⟩
      · unfold LineState.extend
        dsimp only
        split
        · exact ⟨rfl, rfl⟩
        · exact ⟨rfl, rfl⟩

theorem State.LinesKept.receiveSupervisor (s : State) (data : Byte) (marker stopHigh : Bool) :
    s.LinesKept (s.receiveSupervisor data marker stopHigh) := by
  unfold State.receiveSupervisor
  split
  · exact .refl s
  · split
    · refine .of_sup (fun law => ?_) rfl
      exact iteInduction (motive := SupLine.lawful) (fun _ => law) fun _ => law
    · exact .modLineCounting s .supervisor fun y => y.receive_counters _ _ _ _

/-- Only an arm line finds a telegram misdirected: the supervisor line has taken in no foreign head (R182, R183). -/
theorem State.LinesKept.checkTelegram (s : State) (l : Line) (chars : List Byte) : s.LinesKept (s.checkTelegram l chars) := by
  have heard : s.LinesKept (s.heard l) := .of_lines (by simp) (by simp)
  unfold State.checkTelegram
  split
  · exact .refl s
  · split
    · exact .modLineCounting s l fun _ => ⟨rfl, rfl⟩
    · split
      · next foreign =>
        refine .modLine s l (fun e => ?_) fun _ _ => rfl
        subst e
        exact absurd foreign (by simp [headAgrees])
      · refine heard.trans (.modLineCounting _ l fun y => ?_)
        unfold LineState.enter
        split
        · exact ⟨rfl, rfl⟩
        · exact ⟨rfl, rfl⟩

theorem State.LinesKept.replyStart (s : State) : s.LinesKept s.replyStart := by
  refine iteInduction (motive := s.LinesKept) (fun _ => ?_) fun _ => .refl s
  refine .of_sup (fun law => ⟨law.1, ?_⟩) rfl
  exact iteInduction (motive := fun y : LineState => y.counters.misdirected = 0) (fun _ => law.2) fun _ => law.2

theorem State.LinesKept.of_reset (p : Pins) : s.LinesKept (t.resetTo p) := fun _ =>
  (State.linesLawful_iff _).2 ⟨State.resetWith_noticeLaw p, State.resetWith_counterLaw p⟩

theorem State.LinesKept.replySent (s : State) (l : Line) : s.LinesKept (s.replySent l) := by
  unfold State.replySent
  split
  · exact .refl s
  · split
    · exact .of_reset _
    · have emptied := State.LinesKept.modLineCounting s l (f := fun y => { y with slot := none }) fun _ => ⟨rfl, rfl⟩
      cases l with
      | supervisor => exact emptied
      | arm n => exact emptied

theorem State.LinesKept.serve {l : Line} {c : Instr} {type : Nat} {y : Answer} (kept : s.LinesKept y.state) :
    s.LinesKept (s.serve l c type y) := by
  obtain same | ⟨p, served⟩ := s.serve_cases l c type y
  · rw [same]; exact .refl s
  · rw [served]; exact kept.trans (.modLineCounting _ l fun _ => ⟨rfl, rfl⟩)

theorem State.LinesKept.tick (s : State) : s.LinesKept s.tick := fun law =>
  ⟨law.1, fun n => by simp only [State.tick, Bank.get_tab]; exact law.2 n⟩

/-! ### Every command -/

/-- The outcome's next state keeps the lines' laws. -/
abbrev LinesKeptBy (s : State) : Host.Outcome State Fault Refusal → Prop := NextIs s.LinesKept

theorem LinesKeptBy.next (kept : s.LinesKept t) : LinesKeptBy s (.next t) := NextIs.next kept

theorem LinesKeptBy.event {c : Prop} [Decidable c] (kept : s.LinesKept t) :
    LinesKeptBy s (if c then .next t else .next s) := NextIs.event (.refl s) fun _ => kept

theorem LinesKeptBy.sameEvent {c : Prop} [Decidable c] (sup : t.supervisor = s.supervisor) (arms : t.armLines = s.armLines) :
    LinesKeptBy s (if c then .next t else .next s) := .event (.of_lines sup arms)

theorem LinesKeptBy.request {l : Line} {c : Instr} {type : Nat} {y : Answer} (kept : s.LinesKept y.state) :
    LinesKeptBy s (.next (s.serve l c type y)) := NextIs.next kept.serve

theorem LinesKeptBy.requestReads {l : Line} {c : Instr} {type : Nat} {y : Answer} (same : y.state = s) :
    LinesKeptBy s (.next (s.serve l c type y)) := .request (by rw [same]; exact .refl s)

theorem execMeterLevelChange_lines (s : State) (a : Arm) (m : Meter) (high : Bool) :
    LinesKeptBy s (execMeterLevelChange a m high s) := by
  have presented : s.LinesKept (s.modMeter a m fun y => y.present high) := .of_lines rfl rfl
  unfold execMeterLevelChange
  dsimp only
  split
  · split
    · exact .next (presented.trans (.pulse _ a m))
    · exact .next (presented.trans (.of_lines rfl rfl))
  · exact .next presented

theorem execNoFlowExpiry_lines (s : State) (a : Arm) : LinesKeptBy s (execNoFlowExpiry a s) := by
  have stopped : s.LinesKept (s.modArm a fun c => { c with noFlow := .stopped }) := .of_lines rfl rfl
  unfold execNoFlowExpiry
  split
  · dsimp only
    split
    · exact .next (stopped.trans (.enterPaused _ a .noFlow))
    · exact .next stopped
  · exact .next (.refl s)

theorem execAuthorizationWindowExpiry_lines (s : State) (a : Arm) :
    LinesKeptBy s (execAuthorizationWindowExpiry a s) := by
  have stopped : s.LinesKept (s.modArm a fun c => { c with window := .stopped }) := .of_lines rfl rfl
  unfold execAuthorizationWindowExpiry
  split
  · dsimp only
    split
    · refine .next (stopped.trans (State.LinesKept.trans ?_ (.enterFinishing _ a)))
      exact .of_lines rfl rfl
    · exact .next stopped
  · exact .next (.refl s)

theorem execStrokeTimeout_lines (s : State) (u : UnitNo) : LinesKeptBy s (execStrokeTimeout u s) := by
  unfold execStrokeTimeout
  dsimp only
  split
  · exact .event (.strokeFailed s u _)
  · exact .next (.refl s)

theorem execTerminalStopHalt_lines (s : State) (a : Arm) : LinesKeptBy s (execTerminalStopHalt a s) := by
  unfold execTerminalStopHalt
  split
  · exact .next (.refl s)
  · refine .event (State.LinesKept.trans ?_ (.halt _ a .terminalStop))
    exact .of_lines rfl rfl

theorem execAdditiveLostHalt_lines (s : State) (a : Arm) (u : UnitNo) : LinesKeptBy s (execAdditiveLostHalt a u s) := by
  unfold execAdditiveLostHalt
  split
  · exact .next (.refl s)
  · refine .event (State.LinesKept.trans ?_ (.halt _ a (.additiveLost u)))
    exact .of_lines rfl rfl

theorem execStopInputAcceptedEdge_lines (s : State) (i : StopNo) : LinesKeptBy s (execStopInputAcceptedEdge i s) := by
  have edge (f : StopInput → StopInput) : s.LinesKept (s.modStop i f) := .of_lines rfl rfl
  unfold execStopInputAcceptedEdge
  dsimp only
  split
  · split
    · exact .next ((edge _).trans (.setLatch _ _))
    · exact .next (edge _)
  · exact .next (.refl s)

theorem execTelegramReceived_lines (s : State) (l : Line) : LinesKeptBy s (execTelegramReceived l s) := by
  unfold execTelegramReceived
  split
  · exact .next (.refl s)
  · next rest _ =>
    have taken := State.LinesKept.modLineCounting s l (f := fun y => { y with received := rest }) fun _ => ⟨rfl, rfl⟩
    dsimp only
    split
    · exact .next (taken.trans (.modLineCounting _ l fun _ => ⟨rfl, rfl⟩))
    · exact .next (taken.trans (.checkTelegram _ l _))

theorem execReplySent_lines (s : State) (l : Line) : LinesKeptBy s (execReplySent l s) := by
  unfold execReplySent
  split
  · cases l with
    | supervisor => exact .next ((State.LinesKept.replyStart s).trans (.replySent _ .supervisor))
    | arm n => exact .next (.replySent s (.arm n))
  · exact .next (.refl s)

/-- No command takes a line out of its laws. -/
theorem exec_linesKept (s : State) (c : Instr) : LinesKeptBy s (exec c s) := by
  cases c with
  | meterLevelChange a m high => exact execMeterLevelChange_lines s a m high
  | meterPulseAcceptance a m => exact .event (.pulse s a m)
  | capExpiry a m => exact .sameEvent rfl rfl
  | idleExpiry a m => exact .sameEvent rfl rfl
  | meterAcceptedFallingEdge a m => exact .sameEvent rfl rfl
  | setMeters arm kb ke fb fe mb me => exact .request (s.setMeters_lines arm kb ke fb fe mb me)
  | readMeters arm => exact .request (s.readMeters_lines arm)
  | scanConversionComplete code => exact .event ((State.LinesKept.takeCode s code.toNat).trans (.of_lines rfl rfl))
  | readScan => exact .requestReads rfl
  | defineRecipe f => exact .request (s.defineRecipe_lines f)
  | withdrawRecipe entry => exact .request (s.withdrawRecipe_lines entry)
  | readRecipe entry => exact .requestReads (s.readRecipe_state entry)
  | setArmService arm service => exact .request (by rw [s.setArmService_onlyArms]; exact .of_lines rfl rfl)
  | authorize n code preset bill => exact .request (s.authorize_lines n code preset bill)
  | pause n => exact .request (.pause s n)
  | resume n => exact .request (.resume s n)
  | endLoad n => exact .request (.endLoad s n)
  | abortLoad arm number => exact .request (.abortLoad s arm number)
  | noFlowExpiry n => exact execNoFlowExpiry_lines s n
  | linkSilenceExpiry n =>
    have stopped : s.LinesKept (s.modArm n fun c => { c with linkSilence := .stopped }) := .of_lines rfl rfl
    exact .event (stopped.trans (.halt _ n .linkSilent))
  | authorizationWindowExpiry n => exact execAuthorizationWindowExpiry_lines s n
  | settleExpiry n =>
    have expired : s.LinesKept (s.modArm n fun c => { c with settle := .expired }) := .of_lines rfl rfl
    exact .event (expired.trans (.examine _ n))
  | setStation nf ls w st al => exact .request (.of_lines rfl rfl)
  | loadStatus n => exact .requestReads (s.loadStatus_state n)
  | readLoad arm => exact .requestReads (s.readLoad_state arm)
  | lastSummaryArm n => exact .requestReads (s.lastSummary_state n)
  | lastSummarySupervisor arm => exact .requestReads (s.lastSummaryOf_state arm)
  | holdTimerExpiry n => exact .sameEvent (by simp) (by simp)
  | ethanolFlowTimerExpiry n => exact .event (.halt s n _)
  | setHeader slots hold flow alpha threshold => exact .request (.setHeader s slots hold flow alpha threshold)
  | readHeader => exact .requestReads rfl
  | unitSettleExpiry u => exact .sameEvent rfl rfl
  | strokeConfirmLevelChange u high => exact .next (.modUnit s u _)
  | strokeConfirmation u => exact .event ((State.LinesKept.modUnit s u _).trans (.confirmation _ u))
  | confirmAcceptedFallingEdge u => exact .sameEvent rfl rfl
  | strokeTimeout u => exact execStrokeTimeout_lines s u
  | additiveLostHalt n u => exact execAdditiveLostHalt_lines s n u
  | setUnit unit shot low timeout settle => exact .request (.setUnit s unit shot low timeout settle)
  | setUnitService unit service => exact .request (.setUnitService s unit service)
  | refillUnit unit volume => exact .request (.refillUnit s unit volume)
  | clearUnit unit => exact .request (.clearUnit s unit)
  | readUnit unit => exact .requestReads (s.readUnit_state unit)
  | readRecord => exact .requestReads s.readRecord_state
  | removeRecord number => exact .request (.removeRecord s number)
  | waitListHandOff => exact .next (.waitHandOff s)
  | ageTimerExpiry =>
    have restarted (x : RecordQueue) : s.LinesKept { s with records := x } := .of_lines rfl rfl
    exact .event ((restarted _).trans (.raiseSup _ _ _))
  | setRecordNotice trigger age => exact .request (.of_lines rfl rfl)
  | stopInputLevelChange i high => exact .next (.of_lines rfl rfl)
  | stopInputAcceptedEdge i => exact execStopInputAcceptedEdge_lines s i
  | terminalStopHalt n => exact execTerminalStopHalt_lines s n
  | setStopInputs e0 e1 e2 e3 => exact .request (.setStopInputs s e0 e1 e2 e3)
  | terminalStop => exact .request (.setLatch s .supervisor)
  | terminalResume => exact .request (.terminalResume s)
  | characterReceived l data marker stopHigh =>
    cases l with
    | supervisor => exact .next (.receiveSupervisor s data marker stopHigh)
    | arm n => exact .next (.modLineCounting s (.arm n) fun y => y.receive_counters _ _ _ _)
  | characterGapTimeout l => exact .event (.modLineCounting s l fun _ => ⟨rfl, rfl⟩)
  | telegramReceived l => exact execTelegramReceived_lines s l
  | replyStart => exact .next (.replyStart s)
  | replySent l => exact execReplySent_lines s l
  | powerOnReset pins => exact .next (.of_reset pins)
  | readLines => exact .request (.clearCounters s)
  | readNoticeSupervisor => exact .request (.readNoticeSupervisor s)
  | readNoticeArm n => exact .request (.readNoticeArm s n)
  | stationClockAdvance => exact .sameEvent rfl rfl
  | setClock count => exact .request (.of_lines rfl rfl)
  | readStation => exact .requestReads rfl
  | restart force => exact .requestReads (s.restartAnswer_state force)

theorem step_linesKept (s : State) : LinesKeptBy s (step s) := by
  unfold step
  split
  · exact .next (.tick s)
  · next c rest _ => exact exec_linesKept { s with pending := rest } c

end Sys2Proof.Machine

namespace Sys2Proof.Proofs

open Sys2Proof.Machine

/-- Settles O9: a notice raised joins in its place, READ NOTICE takes the first, and no event raises the two counters. -/
theorem lineLawsKept : Obligations.LineLawsKept := by
  unfold Obligations.LineLawsKept
  intro s t notices counters stepped
  exact (State.linesLawful_iff t).1 (step_linesKept s t stepped ((State.linesLawful_iff s).2 ⟨notices, counters⟩))

end Sys2Proof.Proofs
end


section
/-! The meter inputs' own events: level changes, filter tests and expiries (R1, R5, R6, R139, R170), and the correction factor
(R53). -/

namespace Sys2Proof.Machine

variable {s : State} {a b : Arm} {m n : Meter} {x : MeterInput} {high : Bool}

/-! ### Reading and changing a meter input -/

theorem ArmMeters.input_modInput_same (x : ArmMeters) (m : Meter) (f : MeterInput → MeterInput) :
    (x.modInput m f).input m = f (x.input m) := by cases m <;> rfl

theorem ArmMeters.input_modInput_of_ne (x : ArmMeters) (f : MeterInput → MeterInput) (ne : n ≠ m) :
    (x.modInput m f).input n = x.input n := by
  cases m with
  | base =>
    cases n with
    | base => exact absurd rfl ne
    | ethanol => rfl
  | ethanol =>
    cases n with
    | base => rfl
    | ethanol => exact absurd rfl ne

theorem ArmMeters.modInput_congr {x : ArmMeters} {f g : MeterInput → MeterInput} (h : f (x.input m) = g (x.input m)) :
    x.modInput m f = x.modInput m g := by
  cases m with
  | base => exact congrArg (fun y => { x with base := y }) h
  | ethanol => exact congrArg (fun y => { x with ethanol := y }) h

theorem ArmMeters.modInput_modInput (x : ArmMeters) (m : Meter) (f g : MeterInput → MeterInput) :
    (x.modInput m f).modInput m g = x.modInput m fun y => g (f y) := by cases m <;> rfl

@[simp] theorem State.modMeter_meter_same (s : State) (a : Arm) (m : Meter) (f : MeterInput → MeterInput) :
    (s.modMeter a m f).meter a m = f (s.meter a m) := by
  unfold State.meter
  rw [State.modMeter_meters, Bank.get_upd_same, ArmMeters.input_modInput_same]

theorem State.modMeter_meter_other (s : State) (a : Arm) (f : MeterInput → MeterInput) (ne : n ≠ m) :
    (s.modMeter a m f).meter a n = s.meter a n := by
  unfold State.meter
  rw [State.modMeter_meters, Bank.get_upd_same, ArmMeters.input_modInput_of_ne _ _ ne]

theorem State.modMeter_meters_of_ne (s : State) (m : Meter) (f : MeterInput → MeterInput) (ne : b ≠ a) :
    (s.modMeter a m f).meters.get b = s.meters.get b := by rw [State.modMeter_meters, Bank.get_upd_of_ne _ _ ne]

/-- A change is what it does to the input it changes. -/
theorem State.modMeter_congr {f g : MeterInput → MeterInput} (h : f (s.meter a m) = g (s.meter a m)) :
    s.modMeter a m f = s.modMeter a m g :=
  congrArg (fun x => { s with meters := x }) (Bank.upd_congr _ _ (ArmMeters.modInput_congr h))

/-- Two changes of one input are one change. -/
theorem State.modMeter_modMeter (s : State) (a : Arm) (m : Meter) (f g : MeterInput → MeterInput) :
    (s.modMeter a m f).modMeter a m g = s.modMeter a m fun y => g (f y) := by
  unfold State.modMeter State.modMeters
  simp only [Bank.upd_upd, ArmMeters.modInput_modInput]

/-! ### Level changes -/

/-- A level presented: back at the accepted level it abandons the test, away from it one runs (R1). -/
theorem MeterInput.present_eq (x : MeterInput) (high : Bool) : x.present high =
    { x with
      presented := high
      test := if high = x.accepted then none else some (x.test.getD (filterTicks x.filterCode)) } := by
  unfold MeterInput.present
  split
  · rfl
  · rfl

theorem AdditiveUnit.present_eq (x : AdditiveUnit) (high : Bool) : x.present high =
    { x with presented := high, test := if high = x.accepted then none else some (x.test.getD 20) } := by
  unfold AdditiveUnit.present
  split
  · rfl
  · rfl

theorem StopInput.present_eq (x : StopInput) (high : Bool) : x.present high =
    { x with presented := high, test := if high = x.accepted then none else some (x.test.getD 500) } := by
  unfold StopInput.present
  split
  · rfl
  · rfl

/-- The filter times of the codes that have one (Table 1-2). -/
theorem filterTicks_of_ne_zero {code : Nat} (filtered : code ≠ 0) :
    filterTicks code = if code = 1 then 2 else if code = 2 then 5 else 20 := by
  unfold filterTicks
  split
  · exact absurd rfl filtered
  · rfl
  · rfl
  · next h1 h2 => rw [if_neg h1, if_neg h2]

theorem filterTicks_pos {code : Nat} (filtered : code ≠ 0) : filterTicks code ≠ 0 := by
  rw [filterTicks_of_ne_zero filtered]
  split_ifs <;> decide

/-- A level change that does not succeed at once starts or abandons a test. -/
theorem exec_meterLevelChange_of_waits
    (waits : ¬ ((s.meter a m).test = none ∧ high ≠ (s.meter a m).accepted ∧ filterTicks (s.meter a m).filterCode = 0)) :
    exec (.meterLevelChange a m high) s = .next (s.modMeter a m fun x => x.present high) := if_neg waits

theorem exec_meterLevelChange_of_filtered (filtered : (s.meter a m).filterCode ≠ 0) :
    exec (.meterLevelChange a m high) s = .next (s.modMeter a m fun x =>
      { x with
        presented := high
        test := if high = x.accepted then none
          else some (x.test.getD (if x.filterCode = 1 then 2 else if x.filterCode = 2 then 5 else 20)) }) := by
  have waits := exec_meterLevelChange_of_waits (s := s) (a := a) (m := m) (high := high)
    fun h => filterTicks_pos filtered h.2.2
  rw [waits]
  refine congrArg _ (State.modMeter_congr ?_)
  rw [MeterInput.present_eq, filterTicks_of_ne_zero filtered]

theorem exec_meterLevelChange_of_back (back : high = (s.meter a m).accepted) :
    exec (.meterLevelChange a m high) s = .next (s.modMeter a m fun x => { x with presented := high, test := none }) := by
  rw [exec_meterLevelChange_of_waits fun h => h.2.1 back]
  refine congrArg _ (State.modMeter_congr ?_)
  rw [MeterInput.present_eq, if_pos back]

/-! ### Accepted edges -/

theorem exec_meterPulseAcceptance_of_test (h : (s.meter a m).test = some 0) (presented : (s.meter a m).presented = true)
    (accepted : (s.meter a m).accepted = false) : exec (.meterPulseAcceptance a m) s = .next (s.pulse a m) :=
  if_pos ⟨h, presented, accepted⟩

theorem exec_meterAcceptedFallingEdge_of_test (h : (s.meter a m).test = some 0)
    (presented : (s.meter a m).presented = false) (accepted : (s.meter a m).accepted = true) :
    exec (.meterAcceptedFallingEdge a m) s = .next (s.modMeter a m MeterInput.fall) := if_pos ⟨h, presented, accepted⟩

/-- With filter code 0 a test that starts succeeds at once, as an edge of its own would (R1). -/
theorem exec_meterLevelChange_of_unfiltered (unfiltered : (s.meter a m).filterCode = 0)
    (away : high ≠ (s.meter a m).accepted) (idle : (s.meter a m).test = none) :
    exec (.meterLevelChange a m high) s =
      exec (if high = true then .meterPulseAcceptance a m else .meterAcceptedFallingEdge a m)
        (s.modMeter a m fun x => { x with presented := high, test := some 0 }) := by
  have ticks : filterTicks (s.meter a m).filterCode = 0 := by rw [unfiltered]; rfl
  have tested : (s.modMeter a m fun x => x.present high) =
      s.modMeter a m fun x => { x with presented := high, test := some 0 } := by
    refine State.modMeter_congr ?_
    rw [MeterInput.present_eq, if_neg away, idle, ticks]; rfl
  have at_once : exec (.meterLevelChange a m high) s =
      if high then .next ((s.modMeter a m fun x => x.present high).pulse a m)
      else .next ((s.modMeter a m fun x => x.present high).modMeter a m MeterInput.fall) := if_pos ⟨idle, away, ticks⟩
  rw [at_once, tested]
  cases high with
  | true =>
    refine (exec_meterPulseAcceptance_of_test ?_ ?_ ?_).symm
    · rw [State.modMeter_meter_same]
    · rw [State.modMeter_meter_same]
    · rw [State.modMeter_meter_same]; simpa using away
  | false =>
    refine (exec_meterAcceptedFallingEdge_of_test ?_ ?_ ?_).symm
    · rw [State.modMeter_meter_same]
    · rw [State.modMeter_meter_same]
    · rw [State.modMeter_meter_same]; simpa using away

/-! ### Cap and idle expiry -/

theorem exec_capExpiry_of_quiet {e : BitVec 32} (edge : (s.meter a m).lastEdge = some e)
    (quiet : 1000000 ≤ (s.timebase - e).toNat) : exec (.capExpiry a m) s =
      .next (s.modMeter a m fun x => { x with lastInterval := some 1000000, lastEdge := none, flowRate := 0 }) :=
  if_pos ((MeterInput.quietFor_eq_true ..).2 ⟨e, edge, quiet⟩)

theorem exec_idleExpiry_of_quiet {e : BitVec 32} (edge : (s.meter a m).lastEdge = some e)
    (quiet : 200000 ≤ (s.timebase - e).toNat) :
    exec (.idleExpiry a m) s = .next (s.modMeter a m fun x => { x with flowRate := 0 }) :=
  if_pos ((MeterInput.quietFor_eq_true ..).2 ⟨e, edge, quiet⟩)

theorem exec_capExpiry_of_not_quiet (busy : ∀ e, (s.meter a m).lastEdge = some e → (s.timebase - e).toNat < 1000000) :
    exec (.capExpiry a m) s = .next s := by
  refine if_neg fun quiet => ?_
  obtain ⟨e, edge, due⟩ := (MeterInput.quietFor_eq_true ..).1 quiet
  exact absurd due (Nat.not_le.2 (busy e edge))

theorem exec_idleExpiry_of_not_quiet (busy : ∀ e, (s.meter a m).lastEdge = some e → (s.timebase - e).toNat < 200000) :
    exec (.idleExpiry a m) s = .next s := by
  refine if_neg fun quiet => ?_
  obtain ⟨e, edge, due⟩ := (MeterInput.quietFor_eq_true ..).1 quiet
  exact absurd due (Nat.not_le.2 (busy e edge))

/-! ### The correction factor -/

/-- The rounded term lies within half a thousand of the correction, and at just half it lies toward zero (R53). -/
theorem roundedTerm_nearest (c : Int) : (1000 * roundedTerm c - c).natAbs ≤ 500 ∧
    ((1000 * roundedTerm c - c).natAbs = 500 → (1000 * roundedTerm c).natAbs < c.natAbs) ∧ (c = 0 → roundedTerm c = 0) := by
  unfold roundedTerm
  dsimp only
  split
  · omega
  · omega

theorem vcf_eq (alpha : Nat) (t : Int) :
    (vcf alpha t : Int) = max 9000 (min 11000 (10000 - roundedTerm ((alpha : Int) * (t - 150)))) := by
  unfold vcf
  omega

end Sys2Proof.Machine

namespace Sys2Proof.Proofs

open Sys2Proof.Machine

/-- Settles O15: each kind of input presents a level as `present` says, and an edge is taken where its test has run out alone. -/
theorem filterTestsRunTheirTime : Obligations.FilterTestsRunTheirTime := by
  unfold Obligations.FilterTestsRunTheirTime
  refine fun s => ⟨?filtered, ?back, ?atOnce, ?confirm, ?stop, ?meterFalls, ?confirmFalls, ?meterEarly, ?confirmEarly,
    ?stopEarly⟩
  case filtered => exact fun a m high => exec_meterLevelChange_of_filtered
  case back => exact fun a m high _ => exec_meterLevelChange_of_back
  case atOnce => exact fun a m high => exec_meterLevelChange_of_unfiltered
  case confirm =>
    intro u high
    simp only [← AdditiveUnit.present_eq]
    rfl
  case stop =>
    intro i high
    simp only [← StopInput.present_eq]
    rfl
  case meterFalls => exact fun a m => exec_meterAcceptedFallingEdge_of_test
  case confirmFalls => exact fun u test presented accepted => if_pos ⟨test, presented, accepted⟩
  case meterEarly => exact fun a m early => ⟨if_neg fun h => early h.1, if_neg fun h => early h.1⟩
  case confirmEarly => exact fun u early => ⟨if_neg fun h => early h.1, if_neg fun h => early h.1⟩
  case stopEarly => exact fun i early => if_neg fun h => early h.1

/-- Settles O19: the term is `roundedTerm` of the correction. -/
theorem correctionFactorRoundsToNearest : Obligations.CorrectionFactorRoundsToNearest := by
  unfold Obligations.CorrectionFactorRoundsToNearest
  exact fun alpha t => ⟨roundedTerm ((alpha : Int) * (t - 150)), vcf_eq alpha t, roundedTerm_nearest _⟩

/-- Settles O22: an expiry finds the ticks since the last-edge time, and none where there is none. -/
theorem capAndIdleExpiry : Obligations.CapAndIdleExpiry := by
  unfold Obligations.CapAndIdleExpiry
  refine fun s a m => ⟨fun e edge => ⟨exec_capExpiry_of_quiet edge, ?capEarly, exec_idleExpiry_of_quiet edge, ?idleEarly⟩,
    fun none => ⟨exec_capExpiry_of_not_quiet ?_, exec_idleExpiry_of_not_quiet ?_⟩⟩
  case capEarly =>
    refine fun early => exec_capExpiry_of_not_quiet fun e' edge' => ?_
    rwa [← Option.some.inj (edge.symm.trans edge')]
  case idleEarly =>
    refine fun early => exec_idleExpiry_of_not_quiet fun e' edge' => ?_
    rwa [← Option.some.inj (edge.symm.trans edge')]
  · exact fun e edge => by simp [none] at edge
  · exact fun e edge => by simp [none] at edge

end Sys2Proof.Proofs
end


section
/-! What a pulse leaves in its input, and where its volume goes (R4, R6, R8, R9, R12, R13). -/

namespace Sys2Proof.Machine

variable {s t : State} {a b : Arm} {m n : Meter} {r : LoadRecord} {x : MeterInput} {now : BitVec 32}

/-! ### The pulse at its input -/

/-- A last-edge time that cap expiry would have dropped gives no interval (R4, R5). -/
theorem MeterInput.interval_of_fresh (fresh : ∀ e, x.lastEdge = some e → (now - e).toNat ≤ 1000000) :
    x.interval now = x.lastEdge.map fun e => max 1 (now - e).toNat := by
  unfold MeterInput.interval
  cases edge : x.lastEdge with
  | none => rfl
  | some e => exact if_neg (Nat.not_lt.2 (fresh e edge))

/-- The input of arm `a` after a pulse that its load receives: captured, the residue keeping the micro-litres (R9). -/
def MeterInput.taken (x : MeterInput) (now : BitVec 32) : MeterInput :=
  { x.capture now with residue := (x.residue + x.k) % 1000 }

/-- The delivery that a pulse at input `m` of arm `a` hands to its load (R7, R9, R11). -/
def State.delivery (s : State) (a : Arm) (m : Meter) : Delivery :=
  let x := s.meter a m
  { meter := m, k := x.k, carry := (x.residue + x.k) / 1000,
    overspeed := overspeedOf x.minInterval (x.interval s.timebase) }

/-- The state once a routed pulse has been taken by its input, before the load takes the delivery. -/
def State.metered (s : State) (a : Arm) (m : Meter) : State := s.modMeter a m fun x => x.taken s.timebase

theorem State.receives_eq_true (s : State) (a : Arm) :
    s.receives a = true ↔ ∃ p, s.phase a = some p ∧ p ≠ .complete := by
  unfold State.receives State.phase
  cases s.record a with
  | none => simp
  | some r =>
    cases phase : r.phase <;> simp [Phase.metered, phase]

theorem State.receives_of_record (load : s.record a = some r) (open_ : r.phase ≠ .complete) : s.receives a = true :=
  (s.receives_eq_true a).2 ⟨r.phase, (s.phase_eq_some a _).2 ⟨r, load, rfl⟩, open_⟩

/-- A pulse routed to the load is a delivery to it. -/
theorem State.pulse_of_receives (m : Meter) (routed : s.receives a = true) :
    s.pulse a m = (s.metered a m).deliver a (s.delivery a m) := by
  unfold State.pulse State.pulseToLoad
  rw [if_pos routed]
  simp only [State.modMeter_meter_same, State.modMeter_modMeter]
  exact congrArg (fun t : State => t.deliver a (s.delivery a m)) (State.modMeter_congr rfl)

/-- A pulse with no load to receive it is counted (R12). -/
theorem State.pulse_of_not_receives (m : Meter) (unrouted : s.receives a = false) :
    s.pulse a m = (s.modMeter a m fun x => x.capture s.timebase).unassigned a (s.meter a m).k := by
  unfold State.pulse
  exact if_neg (by rw [unrouted]; exact Bool.false_ne_true)

/-! ### The unassigned counter -/

/-- The counter after a pulse, its two parts by the statement's cases (R12). -/
theorem unassignedAfter_eq (ml ul k : Nat) : unassignedAfter ml ul k =
    (if k = 0 then ml else if 99999999 < ml + (ul + k) / 1000 then 99999999 else ml + (ul + k) / 1000,
     if k = 0 then ul else if 99999999 < ml + (ul + k) / 1000 then 999 else (ul + k) % 1000) := by
  unfold unassignedAfter Config.maxVolume
  split
  · rfl
  · exact iteInduction (motive := fun p => p = _) (fun full => by rw [if_pos full, if_pos full])
      fun room => by rw [if_neg room, if_neg room]

/-- An unassigned pulse reaches the counter and, where that leaves zero, the notice alone (R12, R13). -/
theorem State.unassigned_eq (s : State) (a : Arm) (k : Nat) : s.unassigned a k =
    (let c := unassignedAfter (s.meters.get a).unassignedMl (s.meters.get a).unassignedUl k
     { s with
       meters := s.meters.upd a fun y => { y with unassignedMl := c.1, unassignedUl := c.2 }
       supervisor := { s.supervisor with
         notices := if ((s.meters.get a).unassignedMl = 0 ∧ (s.meters.get a).unassignedUl = 0) ∧ (c.1 ≠ 0 ∨ c.2 ≠ 0)
           then raiseIn SupNotice.key (.unassignedFlow a) (some 0) s.supervisor.notices else s.supervisor.notices } }) := by
  unfold State.unassigned
  dsimp only
  refine iteInduction (motive := fun t => t = _) (fun leaves => ?_) fun stays => ?_
  · rw [if_pos leaves]; rfl
  · rw [if_neg stays]; rfl

/-- What a pulse of either kind leaves in the input that took it, but for the residue. -/
def MeterInput.captured (x y : MeterInput) (now : BitVec 32) : Prop :=
  y.accepted = true ∧ y.test = none ∧ y.lastEdge = some now ∧
  y.lastInterval = x.lastEdge.map (fun e => max 1 (now - e).toNat) ∧
  y.flowRate = (match y.lastInterval with
    | none => 0
    | some i => if i < 1000000 then 60 * x.k / i else 0) ∧
  y.k = x.k ∧ y.filterCode = x.filterCode ∧ y.minInterval = x.minInterval ∧ y.presented = x.presented

theorem MeterInput.capture_captured (fresh : ∀ e, x.lastEdge = some e → (now - e).toNat ≤ 1000000) :
    x.captured (x.capture now) now := by
  refine ⟨rfl, rfl, rfl, MeterInput.interval_of_fresh fresh, ?_, rfl, rfl, rfl, rfl⟩
  simp only [MeterInput.capture, flowRateOf]
  cases x.interval now <;> rfl

theorem MeterInput.taken_captured (fresh : ∀ e, x.lastEdge = some e → (now - e).toNat ≤ 1000000) :
    x.captured (x.taken now) now := MeterInput.capture_captured (x := x) fresh

theorem State.deliver_meters (s : State) (a : Arm) (d : Delivery) : (s.deliver a d).meters = s.meters := by simp

theorem State.modMeter_unassigned (s : State) (a : Arm) (m : Meter) (f : MeterInput → MeterInput) :
    ((s.modMeter a m f).meters.get a).unassignedMl = (s.meters.get a).unassignedMl ∧
    ((s.modMeter a m f).meters.get a).unassignedUl = (s.meters.get a).unassignedUl := by
  rw [State.modMeter_meters, Bank.get_upd_same]
  cases m with
  | base => exact ⟨rfl, rfl⟩
  | ethanol => exact ⟨rfl, rfl⟩

theorem State.unassigned_meter (s : State) (a : Arm) (k : Nat) (n : Meter) : (s.unassigned a k).meter a n = s.meter a n := by
  rw [State.unassigned_eq]
  simp only [State.meter, Bank.get_upd_same]
  cases n <;> rfl

theorem State.unassigned_meters_of_ne (s : State) (k : Nat) (ne : b ≠ a) :
    (s.unassigned a k).meters.get b = s.meters.get b := by
  rw [State.unassigned_eq]
  exact Bank.get_upd_of_ne _ _ ne

theorem State.meter_congr (meters : t.meters = s.meters) : t.meter a n = s.meter a n := by
  rw [State.meter, meters]; rfl

/-! ### A pulse with and without a load to receive it -/

/-- The input's own part of a pulse, wherever its volume goes. -/
theorem State.pulse_captured (fresh : ∀ e, (s.meter a m).lastEdge = some e → (s.timebase - e).toNat ≤ 1000000) :
    (s.meter a m).captured ((s.pulse a m).meter a m) s.timebase ∧
    (∀ n, n ≠ m → (s.pulse a m).meter a n = s.meter a n) ∧
    ∀ b, b ≠ a → (s.pulse a m).meters.get b = s.meters.get b := by
  cases routed : s.receives a with
  | true =>
    have meters : (s.pulse a m).meters = (s.metered a m).meters := by
      rw [State.pulse_of_receives m routed, State.deliver_meters]
    refine ⟨?_, fun n ne => ?_, fun b ne => ?_⟩
    · rw [State.meter_congr meters, State.metered, State.modMeter_meter_same]
      exact MeterInput.taken_captured fresh
    · rw [State.meter_congr meters, State.metered, State.modMeter_meter_other s a _ ne]
    · rw [meters, State.metered, State.modMeter_meters_of_ne s m _ ne]
  | false =>
    rw [State.pulse_of_not_receives m routed]
    refine ⟨?_, fun n ne => ?_, fun b ne => ?_⟩
    · rw [State.unassigned_meter, State.modMeter_meter_same]
      exact MeterInput.capture_captured fresh
    · rw [State.unassigned_meter, State.modMeter_meter_other s a _ ne]
    · rw [State.unassigned_meters_of_ne _ _ ne, State.modMeter_meters_of_ne s m _ ne]

/-- A routed pulse leaves the micro-litres in the residue and the unassigned counter alone (R9). -/
theorem State.pulse_residue (routed : s.receives a = true) :
    ((s.pulse a m).meter a m).residue = ((s.meter a m).residue + (s.meter a m).k) % 1000 ∧
    ((s.pulse a m).meters.get a).unassignedMl = (s.meters.get a).unassignedMl ∧
    ((s.pulse a m).meters.get a).unassignedUl = (s.meters.get a).unassignedUl := by
  have meters : (s.pulse a m).meters = (s.metered a m).meters := by
    rw [State.pulse_of_receives m routed, State.deliver_meters]
  refine ⟨?_, ?_⟩
  · rw [State.meter_congr meters, State.metered, State.modMeter_meter_same]; rfl
  · rw [meters]; exact s.modMeter_unassigned a m _

/-- A pulse that no load receives is counted, and nothing but its input, the counter and the notice changes (R12, R13). -/
theorem State.pulse_unassigned (unrouted : s.receives a = false) :
    let c := unassignedAfter (s.meters.get a).unassignedMl (s.meters.get a).unassignedUl (s.meter a m).k
    ((s.pulse a m).meter a m).residue = (s.meter a m).residue ∧
    ((s.pulse a m).meters.get a).unassignedMl = c.1 ∧ ((s.pulse a m).meters.get a).unassignedUl = c.2 ∧
    s.pulse a m = { s with
      meters := (s.pulse a m).meters
      supervisor := { s.supervisor with
        notices := if ((s.meters.get a).unassignedMl = 0 ∧ (s.meters.get a).unassignedUl = 0) ∧ (c.1 ≠ 0 ∨ c.2 ≠ 0)
          then raiseIn SupNotice.key (.unassignedFlow a) (some 0) s.supervisor.notices else s.supervisor.notices } } := by
  obtain ⟨sameMl, sameUl⟩ := s.modMeter_unassigned a m fun x => x.capture s.timebase
  rw [State.pulse_of_not_receives m unrouted, State.unassigned_meter, State.modMeter_meter_same, State.unassigned_eq]
  simp only [sameMl, sameUl, Bank.get_upd_same]
  exact ⟨rfl, trivial, trivial, rfl⟩

end Sys2Proof.Machine

namespace Sys2Proof.Proofs

open Sys2Proof.Machine

/-- Settles O16: the input's part is the same wherever the volume goes, which is into the residue or into the counter. -/
theorem pulseIsCapturedAndRouted : Obligations.PulseIsCapturedAndRouted := by
  unfold Obligations.PulseIsCapturedAndRouted
  intro s a m test presented accepted fresh
  obtain ⟨captured, input, arms⟩ := State.pulse_captured fresh
  refine ⟨s.pulse a m, exec_meterPulseAcceptance_of_test test presented accepted, captured, input, arms, fun routed => ?_,
    fun unrouted => ?_⟩
  · exact State.pulse_residue ((s.receives_eq_true a).2 routed)
  · have none_receives : s.receives a = false := by
      rw [Bool.eq_false_iff, Ne, s.receives_eq_true]
      rintro ⟨p, phase, open_⟩
      obtain no | complete := unrouted
      · simp [no] at phase
      · exact open_ (by simpa [complete] using phase.symm)
    have counted := State.pulse_unassigned (m := m) none_receives
    rw [unassignedAfter_eq] at counted
    simp only [decide_eq_true_eq]
    exact counted

end Sys2Proof.Proofs
end


section
/-! A delivery judged (Table 4-2): the load record, the header and the notices that its tests leave, in closed form. -/

namespace Sys2Proof.Machine

variable {s t : State} {a b : Arm} {m : Meter} {r x y : LoadRecord} {p : Phase}

/-! ### Operations on an arm whose load is known, in closed form -/

/-- The state with `q` for the load record of arm `a`. -/
def State.withRecord (s : State) (a : Arm) (q : LoadRecord) : State :=
  { s with arms := s.arms.upd a fun c => { c with occ := .loaded q } }

theorem State.withRecord_arms (s : State) (a : Arm) (q : LoadRecord) :
    (s.withRecord a q).arms = s.arms.upd a fun c => { c with occ := .loaded q } := rfl

@[simp] theorem State.withRecord_record (s : State) (a : Arm) (q : LoadRecord) : (s.withRecord a q).record a = some q := by
  simp [State.withRecord, State.record, Occupancy.record]

theorem State.modRecord_eq (load : s.record a = some r) (f : LoadRecord → LoadRecord) :
    s.modRecord a f = s.withRecord a (f r) := by
  rw [State.record_eq_some] at load
  refine congrArg (fun x => { s with arms := x }) (Bank.upd_congr _ _ ?_)
  simp [ArmCtl.mapRecord, load, Occupancy.mapRecord]

@[simp] theorem State.withRecord_withRecord (s : State) (a : Arm) (q q' : LoadRecord) :
    (s.withRecord a q).withRecord a q' = s.withRecord a q' := by
  simp [State.withRecord]

theorem State.withRecord_self (load : s.record a = some r) : s.withRecord a r = s := by
  refine congrArg (fun x => { s with arms := x }) (Bank.upd_eq_self _ _ _ ?_)
  rw [← (State.record_eq_some s a r).1 load]

/-- An arm's leaving of the header (R113 to R117). -/
theorem State.leaveHeader_eq (load : s.record a = some r) : s.leaveHeader a =
    { s.withRecord a { r with acc := { r.acc with closedValve := s.closedLeft a r } } with header := s.headerLeft a } := by
  have header := s.leaveHeader_header_eq_headerLeft a
  have arms : (s.leaveHeader a).arms =
      (s.withRecord a { r with acc := { r.acc with closedValve := s.closedLeft a r } }).arms := by
    rw [State.leaveHeader_arms, State.closedLeft]
    split
    · exact congrArg State.arms (State.modRecord_eq load _)
    · exact congrArg State.arms (State.withRecord_self load).symm
  refine State.eq_of_fields ?_ ?_ ?_ ?_ ?_ arms ?_ header ?_ ?_ ?_ ?_ ?_ ?_ ?_ ?_ ?_ ?_
  all_goals simp [State.withRecord]

/-- The restrict state brought to `on` (R84). -/
theorem State.setRestrict_eq (load : s.record a = some r) (on : Bool) : s.setRestrict a on =
    { s.withRecord a { r with acc := { r.acc with restrictOn := on } } with
      armLines := s.armLines.upd a fun y => { y with notices := restrictRaised r.acc.restrictOn on y.notices } } := by
  have armLines := State.setRestrict_armLines load on
  have arms : (s.setRestrict a on).arms = (s.withRecord a { r with acc := { r.acc with restrictOn := on } }).arms := by
    rw [State.setRestrict_arms]
    exact congrArg State.arms (State.modRecord_eq load _)
  refine State.eq_of_fields ?_ ?_ ?_ ?_ ?_ arms ?_ ?_ ?_ ?_ ?_ ?_ armLines ?_ ?_ ?_ ?_ ?_
  all_goals simp [State.withRecord]

/-- The header after the ethanol result of a delivery to the load `r` (R64, R112 to R115). -/
def State.ethanolHeader (s : State) (a : Arm) (r : LoadRecord) : Header :=
  if (r.snap.step : Int) ≤ r.acc.owed then
    (if r.phase = .flowing ∧ s.header.holds a = false ∧ s.header.waits a = false then
      (if s.scan.pressure = .normal ∧ s.stop.latch = none then (s.header.join a).grantAll else s.header.join a)
    else s.header)
  else if r.acc.owed ≤ 0 then s.headerLeft a else s.header

/-- The closed-valve volume after the ethanol result: 0 where the arm gives up a slot (R113, R117). -/
def State.ethanolClosed (s : State) (a : Arm) (r : LoadRecord) : Nat :=
  if (r.snap.step : Int) ≤ r.acc.owed then r.acc.closedValve
  else if r.acc.owed ≤ 0 then s.closedLeft a r else r.acc.closedValve

theorem State.ethanolResult_eq (load : s.record a = some r) : s.ethanolResult a =
    { s.withRecord a { r with acc := { r.acc with closedValve := s.ethanolClosed a r } } with
      header := s.ethanolHeader a r } := by
  have phase : s.phase a = some r.phase := (s.phase_eq_some a _).2 ⟨r, load, rfl⟩
  have same : s.withRecord a { r with acc := { r.acc with closedValve := r.acc.closedValve } } = s :=
    State.withRecord_self load
  unfold State.ethanolResult State.ethanolHeader State.ethanolClosed
  rw [load]
  dsimp only
  split
  · rw [same, State.ethanolWanted, phase]
    simp only [Option.some.injEq]
    split
    · exact State.grants_eq _
    · rfl
  · split
    · exact State.leaveHeader_eq load
    · rw [same]

/-! ### The verdict of a delivery -/

/-- What the tests of a delivery leave: the load record, the reason of a halt, the header, and whether additive-due results
follow (Table 4-2). -/
structure Verdict where
  record : LoadRecord
  why : Option HaltReason
  header : Header
  shots : Bool

/-- A halt with this reason (R79). -/
def State.haltVerdict (s : State) (a : Arm) (x : LoadRecord) (why : HaltReason) : Verdict :=
  { record := { x with
      phase := .halted, haltReason := some (x.haltReason.getD why)
      acc := { x.acc with restrictOn := false, closedValve := s.closedLeft a x } }
    why := some why, header := s.headerLeft a, shots := false }

/-- An entry into FLUSH (R78). -/
def State.flushVerdict (s : State) (a : Arm) (x : LoadRecord) : Verdict :=
  { record := { x with
      phase := .flush, acc := { x.acc with restrictOn := false, closedValve := s.closedLeft a x } }
    why := none, header := s.headerLeft a, shots := true }

/-- A delivery after which the load goes on as it was, with its ethanol result and its restrict state (R64, R65). -/
def State.onVerdict (s : State) (a : Arm) (x : LoadRecord) : Verdict :=
  { record := { x with
      acc := { x.acc with restrictOn := x.restrictAfter, closedValve := s.ethanolClosed a x } }
    why := none, header := s.ethanolHeader a x, shots := true }

/-- A delivery that leaves the record `x` and the header as they are. -/
def State.stayVerdict (s : State) (x : LoadRecord) (shots : Bool) : Verdict :=
  { record := x, why := none, header := s.header, shots := shots }

/-- The tests of stages 9 and 10 on the record `x`, with its ethanol owed worked out. -/
def State.blendVerdict (s : State) (a : Arm) (x : LoadRecord) : Verdict :=
  if (x.snap.hard : Int) ≤ x.acc.owed then s.haltVerdict a x .underBlend
  else if x.acc.owed ≤ -(x.snap.hard : Int) then s.haltVerdict a x .overBlend
  else if x.flushDue then s.flushVerdict a x
  else s.onVerdict a x

/-- The tests of stages 7 to 10 on the accounted record `x` (Table 4-2). -/
def State.verdict (s : State) (a : Arm) (x : LoadRecord) (saturating : Bool) (baseVcf : Nat) : Verdict :=
  if x.phase.haltable then
    if saturating then s.haltVerdict a x .overCapacity
    else if x.overruns s.settings.allowance then s.haltVerdict a x .presetOverrun
    else if x.phase = .authorized then s.stayVerdict (x.oweEthanol baseVcf) false
    else if x.phase = .flush then s.stayVerdict x true
    else s.blendVerdict a (x.oweEthanol baseVcf)
  else s.stayVerdict x false

/-- The Arm Controller after a verdict on its record `x`: the record, and the timers that the entry into HALTED or FLUSH stops
(R78, R79). -/
def ArmCtl.judged (c : ArmCtl) (x : LoadRecord) (v : Verdict) : ArmCtl :=
  { c with
    occ := .loaded v.record
    noFlow := if v.why.isSome = true ∨ (v.record.phase = .flush ∧ x.phase ≠ .flush) then .stopped else c.noFlow
    linkSilence := if v.why.isSome = true then .stopped else c.linkSilence
    window := if v.why.isSome = true then .stopped else c.window }

/-- The arm's line after a verdict: RESTRICT_CHANGED at a change of restrict, and HALTED at a halt (R84, R106). -/
def ArmLine.judged (y : ArmLine) (x : LoadRecord) (v : Verdict) : ArmLine :=
  { y with
    notices :=
      let l := restrictRaised x.acc.restrictOn v.record.acc.restrictOn y.notices
      v.why.elim l fun w => raiseIn ArmNotice.key .halted (some (haltCode w)) l }

/-- The state in which a verdict on the record `x` of arm `a` has been carried out, but for the additive-due results. -/
def State.follow (s : State) (a : Arm) (x : LoadRecord) (v : Verdict) : State :=
  { s with
    arms := s.arms.upd a fun c => c.judged x v
    header := v.header
    units := if v.why.isSome = true then s.queuesLeft a else s.units
    armLines := s.armLines.upd a fun y => y.judged x v
    supervisor := { s.supervisor with
      notices := v.why.elim s.supervisor.notices fun w =>
        raiseIn SupNotice.key (.armHalted a) (some (haltCode w)) s.supervisor.notices } }

theorem State.follow_arms (s : State) (a : Arm) (x : LoadRecord) (v : Verdict) :
    (s.follow a x v).arms = s.arms.upd a fun c => c.judged x v := rfl

theorem State.follow_armLines (s : State) (a : Arm) (x : LoadRecord) (v : Verdict) :
    (s.follow a x v).armLines = s.armLines.upd a fun y => y.judged x v := rfl

/-- The verdict carried out whole. -/
def State.carriedOut (s : State) (a : Arm) (x : LoadRecord) (v : Verdict) : State :=
  if v.shots then (s.follow a x v).additiveResults a else s.follow a x v

/-- What stands in the record before it is overwritten does not matter. -/
theorem State.follow_withRecord (s : State) (a : Arm) (x q : LoadRecord) (v : Verdict) :
    (s.withRecord a q).follow a x v = s.follow a x v := by
  simp only [State.follow, State.withRecord, Bank.upd_upd]
  rfl

theorem State.follow_stay (load : s.record a = some x) (shots : Bool) : s.follow a x (s.stayVerdict x shots) = s := by
  have occ := (State.record_eq_some s a x).1 load
  have arms : (s.follow a x (s.stayVerdict x shots)).arms = s.arms := by
    rw [State.follow_arms]
    refine Bank.upd_eq_self _ _ _ ?_
    simp [ArmCtl.judged, State.stayVerdict, ← occ]
  have armLines : (s.follow a x (s.stayVerdict x shots)).armLines = s.armLines := by
    rw [State.follow_armLines]
    exact Bank.upd_eq_self _ _ _ (by simp [ArmLine.judged, State.stayVerdict, restrictRaised])
  exact State.eq_of_fields rfl rfl rfl rfl rfl arms rfl rfl rfl rfl rfl rfl armLines rfl rfl rfl rfl rfl

theorem State.enterHalted_eq_follow (load : s.record a = some x) (why : HaltReason) :
    s.enterHalted a why = s.follow a x (s.haltVerdict a x why) := by
  have header := (s.enterHalted_header a why).trans (s.leaveHeader_header_eq_headerLeft a)
  have armLines := State.enterHalted_armLines load why
  have occ := (State.record_eq_some s a x).1 load
  have arms : (s.enterHalted a why).arms = (s.follow a x (s.haltVerdict a x why)).arms := by
    rw [State.enterHalted_arms, State.follow_arms]
    refine Bank.upd_congr _ _ ?_
    simp [ArmCtl.judged, State.haltVerdict, ArmCtl.mapRecord, occ, Occupancy.mapRecord, Accounts.closedIf_eq, State.closedLeft]
  have units : (s.enterHalted a why).units = (s.follow a x (s.haltVerdict a x why)).units := s.enterHalted_units a why
  refine State.eq_of_fields ?_ ?_ ?_ ?_ ?_ arms ?_ header units ?_ ?_ ?_ armLines ?_ ?_ ?_ ?_ ?_
  all_goals simp [State.follow, State.haltVerdict, State.enterHalted_supervisor]

theorem State.halt_eq_follow (load : s.record a = some x) (haltable : x.phase.haltable = true) (why : HaltReason) :
    s.halt a why = s.follow a x (s.haltVerdict a x why) := by
  rw [State.halt_of_haltable load haltable, State.enterHalted_eq_follow load]

theorem State.enterFlush_eq_follow (load : s.record a = some x) (notFlush : x.phase ≠ .flush) :
    s.enterFlush a = s.follow a x (s.flushVerdict a x) := by
  have header := (s.enterFlush_header a).trans (s.leaveHeader_header_eq_headerLeft a)
  have occ := (State.record_eq_some s a x).1 load
  have flushed : ((s.setPhase a .flush).modArm a fun c => { c with noFlow := .stopped }).record a =
      some { x with phase := .flush } := by
    simp [State.record, occ, Occupancy.mapRecord, Occupancy.record]
  have armLines : (s.enterFlush a).armLines = (s.follow a x (s.flushVerdict a x)).armLines := by
    rw [State.enterFlush, (State.leaveHeader_frame _ a).2.2.2.2.2.2.2.2.2.2.1, State.setRestrict_armLines flushed]
    rfl
  have arms : (s.enterFlush a).arms = (s.follow a x (s.flushVerdict a x)).arms := by
    rw [State.enterFlush_arms, State.follow_arms]
    refine Bank.upd_congr _ _ ?_
    simp [ArmCtl.judged, State.flushVerdict, ArmCtl.mapRecord, occ, Occupancy.mapRecord, Accounts.closedIf_eq, State.closedLeft, notFlush]
  refine State.eq_of_fields ?_ ?_ ?_ ?_ ?_ arms ?_ header ?_ ?_ ?_ ?_ armLines ?_ ?_ ?_ ?_ ?_
  all_goals simp [State.follow, State.flushVerdict, State.enterFlush]

theorem State.goesOn_eq_follow (load : s.record a = some x) (notFlush : x.phase ≠ .flush) :
    (s.ethanolResult a).restrictTest a = s.follow a x (s.onVerdict a x) := by
  rw [State.ethanolResult_eq load]
  generalize result : ({ s.withRecord a { x with acc := { x.acc with closedValve := s.ethanolClosed a x } } with
      header := s.ethanolHeader a x } : State) = t
  have after : t.record a = some { x with acc := { x.acc with closedValve := s.ethanolClosed a x } } := by
    rw [← result]; exact s.withRecord_record a _
  unfold State.restrictTest
  rw [after]
  dsimp only
  rw [State.setRestrict_eq after, ← result]
  have arms : ((s.withRecord a { x with acc := { x.acc with closedValve := s.ethanolClosed a x } }).withRecord a
      { x with acc := { x.acc with closedValve := s.ethanolClosed a x, restrictOn := x.restrictAfter } }).arms =
      (s.follow a x (s.onVerdict a x)).arms := by
    rw [State.withRecord_withRecord, State.withRecord_arms, State.follow_arms]
    refine Bank.upd_congr _ _ ?_
    simp [ArmCtl.judged, State.onVerdict, notFlush]
  exact State.eq_of_fields rfl rfl rfl rfl rfl arms rfl rfl rfl rfl rfl rfl rfl rfl rfl rfl rfl rfl

/-! ### The tests carry out their verdict -/

theorem State.carriedOut_halt (s : State) (a : Arm) (x y : LoadRecord) (why : HaltReason) :
    s.carriedOut a x (s.haltVerdict a y why) = s.follow a x (s.haltVerdict a y why) := rfl

/-- A verdict reads of the state the header, the pressure state and the latch, which the record does not touch. -/
theorem State.blendVerdict_withRecord (s : State) (a : Arm) (q x : LoadRecord) :
    (s.withRecord a q).blendVerdict a x = s.blendVerdict a x := rfl

/-- Stages 9 and 10, for a load in FLOWING or PAUSED. -/
theorem State.blendTests_eq (load : s.record a = some x) (haltable : x.phase.haltable = true) (notFlush : x.phase ≠ .flush) :
    s.blendTests a = s.carriedOut a x (s.blendVerdict a x) := by
  unfold State.blendTests State.blendVerdict
  rw [load]
  dsimp only
  split
  · exact State.halt_eq_follow load haltable _
  · split
    · exact State.halt_eq_follow load haltable _
    · split
      · exact congrArg (fun t : State => t.additiveResults a) (State.enterFlush_eq_follow load notFlush)
      · exact congrArg (fun t : State => t.additiveResults a) (State.goesOn_eq_follow load notFlush)

theorem State.carriedOut_withRecord (s : State) (a : Arm) (x q : LoadRecord) (v : Verdict) :
    (s.withRecord a q).carriedOut a x v = s.carriedOut a x v := by
  unfold State.carriedOut
  rw [State.follow_withRecord]

/-- A verdict reads of its record the load state and the restrict state, which ethanol owed does not touch. -/
theorem State.carriedOut_oweEthanol (s : State) (a : Arm) (x : LoadRecord) (baseVcf : Nat) (v : Verdict) :
    s.carriedOut a (x.oweEthanol baseVcf) v = s.carriedOut a x v := rfl

theorem State.oweEthanol_eq (load : s.record a = some x) (baseVcf : Nat) :
    (s.modRecord a fun r => r.oweEthanol baseVcf) = s.withRecord a (x.oweEthanol baseVcf) := State.modRecord_eq load _

/-- Stages 7 to 10 carry out the verdict (Table 4-2). -/
theorem State.judge_eq (load : s.record a = some x) (saturating : Bool) (baseVcf : Nat) :
    s.judge a x.phase saturating baseVcf = s.carriedOut a x (s.verdict a x saturating baseVcf) := by
  have blended (haltable : x.phase.haltable = true) (notFlush : x.phase ≠ .flush) :
      (s.modRecord a fun r => r.oweEthanol baseVcf).blendTests a =
        s.carriedOut a x (s.blendVerdict a (x.oweEthanol baseVcf)) := by
    rw [State.oweEthanol_eq load,
      State.blendTests_eq (x := x.oweEthanol baseVcf) (s.withRecord_record a _) haltable notFlush,
      State.carriedOut_withRecord, State.blendVerdict_withRecord, State.carriedOut_oweEthanol]
  unfold State.judge State.verdict
  rw [load]
  dsimp only
  split
  · next haltable =>
    split
    · exact State.halt_eq_follow load haltable _
    · split
      · exact State.halt_eq_follow load haltable _
      · cases phase : x.phase with
        | authorized =>
          have stays := State.follow_stay (s.withRecord_record a (x.oweEthanol baseVcf)) false
          rw [State.follow_withRecord] at stays
          exact (State.oweEthanol_eq load baseVcf).trans stays.symm
        | flowing => exact blended haltable (by simp [phase])
        | paused c => exact blended haltable (by simp [phase])
        | flush => exact congrArg (fun t : State => t.additiveResults a) (State.follow_stay load true).symm
        | halted => simp [phase, Phase.haltable] at haltable
        | finishing => simp [phase, Phase.haltable] at haltable
        | complete => simp [phase, Phase.haltable] at haltable
  · exact (State.follow_stay load false).symm

/-! ### The state before the tests -/

/-- The load state before the tests: FLOWING where the delivery begins it (R51, R76). -/
def LoadRecord.begun (r : LoadRecord) (m : Meter) : Phase := if r.phase.begins m then .flowing else r.phase

/-- The accounted record of the load `r` before its tests. -/
def State.accountedRecord (s : State) (a : Arm) (m : Meter) (r : LoadRecord) : LoadRecord :=
  { r.account (s.delivery a m) (s.readings a) with phase := r.begun m }

/-- The header before the tests: an ethanol delivery retriggers the flow timer of the arm's slot (R120). -/
def State.retriggered (s : State) (a : Arm) (m : Meter) : Header :=
  if m = .ethanol then
    { s.header with holders := s.header.holders.map fun y =>
        if y.arm = a then { y with flow := s.header.flowTimeout * 100000 } else y }
  else s.header

/-- The Arm Controller before the tests: the accounted record, and the timers of R76 and R98. -/
def ArmCtl.accounted (c : ArmCtl) (settings : StationSettings) (m : Meter) (r q : LoadRecord) : ArmCtl :=
  { c with
    occ := .loaded q
    noFlow := if m = .base ∧ r.begun m = .flowing then .running (settings.noFlow * 100000) else c.noFlow
    window := if r.begun m ≠ r.phase then .stopped else c.window }

/-- The state in which a delivery to the load `r` has been accounted, before its tests. -/
def State.accounted (s : State) (a : Arm) (m : Meter) (r : LoadRecord) : State :=
  { s.metered a m with
    header := s.retriggered a m
    arms := s.arms.upd a fun c => c.accounted s.settings m r (s.accountedRecord a m r) }

theorem State.metered_arms (s : State) (a : Arm) (m : Meter) : (s.metered a m).arms = s.arms := rfl

theorem State.accounted_arms (s : State) (a : Arm) (m : Meter) (r : LoadRecord) :
    (s.accounted a m r).arms = s.arms.upd a fun c => c.accounted s.settings m r (s.accountedRecord a m r) := rfl

theorem State.accounted_record (s : State) (a : Arm) (m : Meter) (r : LoadRecord) :
    (s.accounted a m r).record a = some (s.accountedRecord a m r) := by
  simp [State.accounted, State.record, ArmCtl.accounted, Occupancy.record]

theorem Phase.begins_eq_true (p : Phase) (m : Meter) :
    p.begins m = true ↔ m = .base ∧ (p = .authorized ∨ p = .paused .noFlow) := by simp [Phase.begins]

/-- Stages 1 to 6 of a delivery and its timers, in closed form (R76, R98, R120). -/
theorem State.accounted_eq (load : s.record a = some r) (m : Meter) :
    ((s.metered a m).modRecord a fun r => r.account (s.delivery a m) (s.readings a)).deliveryTimers a r.phase m =
      s.accounted a m r := by
  have metered : (s.metered a m).record a = some r := load
  rw [State.modRecord_eq metered]
  unfold State.deliveryTimers
  cases m with
  | ethanol =>
    have still : r.begun .ethanol = r.phase := if_neg (by simp [Phase.begins_eq_true])
    have arms : ((s.metered a .ethanol).withRecord a (r.account (s.delivery a .ethanol) (s.readings a))).arms =
        (s.accounted a .ethanol r).arms := by
      rw [State.withRecord_arms, State.metered_arms, State.accounted_arms]
      refine Bank.upd_congr s.arms a ?_
      simp [ArmCtl.accounted, State.accountedRecord, still, LoadRecord.account]
    exact State.eq_of_fields rfl rfl rfl rfl rfl arms rfl rfl rfl rfl rfl rfl rfl rfl rfl rfl rfl rfl
  | base =>
    dsimp only
    split
    · next begins =>
      have flowing : r.begun .base = .flowing := if_pos begins
      have changed : r.phase ≠ .flowing := fun same => by simp [same, Phase.begins] at begins
      have arms : (((s.metered a .base).withRecord a (r.account (s.delivery a .base) (s.readings a))).enterFlowing a).arms =
          (s.accounted a .base r).arms := by
        rw [State.enterFlowing_arms, State.withRecord_arms, Bank.upd_upd, State.metered_arms, State.accounted_arms]
        refine Bank.upd_congr s.arms a ?_
        simp [ArmCtl.accounted, State.accountedRecord, flowing, ArmCtl.mapRecord, Occupancy.mapRecord, Ne.symm changed]
        rfl
      exact State.eq_of_fields rfl rfl rfl rfl rfl arms rfl rfl rfl rfl rfl rfl rfl rfl rfl rfl rfl rfl
    · next goesOn =>
      have still : r.begun .base = r.phase := if_neg goesOn
      split
      · next flowing =>
        have arms : (((s.metered a .base).withRecord a (r.account (s.delivery a .base) (s.readings a))).modArm a
            fun c => { c with noFlow := Timer.startSeconds s.settings.noFlow }).arms = (s.accounted a .base r).arms := by
          rw [State.modArm_arms, State.withRecord_arms, Bank.upd_upd, State.metered_arms, State.accounted_arms]
          refine Bank.upd_congr s.arms a ?_
          simp [ArmCtl.accounted, State.accountedRecord, still, flowing, LoadRecord.account]
          rfl
        exact State.eq_of_fields rfl rfl rfl rfl rfl arms rfl rfl rfl rfl rfl rfl rfl rfl rfl rfl rfl rfl
      · next other =>
        have arms : ((s.metered a .base).withRecord a (r.account (s.delivery a .base) (s.readings a))).arms =
            (s.accounted a .base r).arms := by
          rw [State.withRecord_arms, State.metered_arms, State.accounted_arms]
          refine Bank.upd_congr s.arms a ?_
          simp [ArmCtl.accounted, State.accountedRecord, still, other, LoadRecord.account]
        exact State.eq_of_fields rfl rfl rfl rfl rfl arms rfl rfl rfl rfl rfl rfl rfl rfl rfl rfl rfl rfl

/-- The verdict on a pulse's delivery to the load `r`. -/
def State.pulseVerdict (s : State) (a : Arm) (m : Meter) (r : LoadRecord) : Verdict :=
  (s.accounted a m r).verdict a (s.accountedRecord a m r) (r.saturates (s.delivery a m) (s.readings a))
    (r.baseVcf (s.readings a))

/-- A pulse routed to the load is accounted, judged, and its verdict carried out. -/
theorem State.pulse_eq (load : s.record a = some r) (open_ : r.phase ≠ .complete) (m : Meter) :
    s.pulse a m = (s.accounted a m r).carriedOut a (s.accountedRecord a m r) (s.pulseVerdict a m r) := by
  rw [State.pulse_of_receives m (State.receives_of_record load open_), State.deliver]
  have metered : (s.metered a m).record a = some r := load
  rw [metered]
  have accounted := State.accounted_eq load m
  have judged := State.judge_eq (s.accounted_record a m r) (r.saturates (s.delivery a m) (s.readings a))
    (r.baseVcf (s.readings a))
  exact (congrArg (fun t : State => t.judge a (r.begun m) (r.saturates (s.delivery a m) (s.readings a))
    (r.baseVcf (s.readings a))) accounted).trans judged

end Sys2Proof.Machine
end


section
/-! What a pulse routed to a load leaves: the accounts (R7, R9, R52, R55 to R57, R66, R67), the frame (R11, R51, R74, R75), and
the verdict's outcome (R58, R61 to R65, R76 to R79). -/

namespace Sys2Proof.Machine

variable {s t : State} {a b : Arm} {m : Meter} {r x q : LoadRecord} {u : UnitNo} {v : Verdict}

/-! ### Additive-due results -/

/-- Records alike but for marks are one record with other items. -/
theorem LoadRecord.eq_of_unmarked (h : q.unmarked = x.unmarked) : q = { x with items := q.items } := by
  cases q; cases x
  simp only [LoadRecord.unmarked, LoadRecord.mk.injEq] at h ⊢
  grind

theorem LoadRecord.items_of_unmarked (h : q.unmarked = x.unmarked) :
    q.items.map (fun i => { i with finalShot := false }) = x.items.map fun i => { i with finalShot := false } :=
  congrArg LoadRecord.items h

theorem Occupancy.loaded_of_mapRecord {o : Occupancy} {f : LoadRecord → LoadRecord}
    (h : o.mapRecord f = (Occupancy.loaded x).mapRecord f) : ∃ q, o = .loaded q ∧ f q = f x := by
  cases o with
  | loaded q => exact ⟨q, rfl, Occupancy.loaded.inj h⟩
  | outOfService => cases h
  | idle => cases h

/-- Additive-due results leave of the arm's own load all but its marks, and of its timers everything. -/
theorem State.additiveResults_own {c : ArmCtl} (own : s.arms.get a = { c with occ := .loaded x }) :
    ∃ q, (s.additiveResults a).arms.get a = { c with occ := .loaded q } ∧ q.unmarked = x.unmarked := by
  have same := s.additiveResults_unmarked a a
  rw [own] at same
  generalize after : (s.additiveResults a).arms.get a = d at same
  cases d with
  | mk occ noFlow linkSilence window settle lastSummary =>
    simp only [ArmCtl.mapRecord, ArmCtl.mk.injEq] at same
    obtain ⟨occEq, rfl, rfl, rfl, rfl, rfl⟩ := same
    obtain ⟨q, rfl, marks⟩ := Occupancy.loaded_of_mapRecord occEq
    exact ⟨q, rfl, marks⟩

/-- What the shot queues' operations never change of a unit: all but its state, its route, its stroke and its queue. -/
def AdditiveUnit.AlikeBut (x y : AdditiveUnit) : Prop :=
  y = { x with
    state := y.state, route := y.route, inFlight := y.inFlight, settleTimer := y.settleTimer,
    strokeTimer := y.strokeTimer, queue := y.queue }

theorem AdditiveUnit.AlikeBut.refl (x : AdditiveUnit) : x.AlikeBut x := rfl

theorem AdditiveUnit.AlikeBut.trans {x y z : AdditiveUnit} (first : x.AlikeBut y) (second : y.AlikeBut z) :
    x.AlikeBut z := by
  unfold AdditiveUnit.AlikeBut at *
  rw [first] at second
  exact second

theorem AdditiveUnit.AlikeBut.begin (x : AdditiveUnit) (a : Arm) (rest : List Arm) : x.AlikeBut (x.begin a rest) := by
  unfold AdditiveUnit.AlikeBut
  have begun := x.begin_eq a rest
  generalize x.begin a rest = y at begun
  rw [begun]

theorem AdditiveUnit.AlikeBut.join (x : AdditiveUnit) (a : Arm) : x.AlikeBut (x.join a) := by
  unfold AdditiveUnit.AlikeBut
  rw [AdditiveUnit.join_eq]

theorem State.takeHead_unit_alike (s : State) (u v : UnitNo) :
    (s.units.get v).AlikeBut ((s.takeHead u).units.get v) := by
  rw [State.takeHead_units_get]
  split
  · exact .refl _
  · refine iteInduction (motive := (s.units.get v).AlikeBut) (fun h => ?_) fun _ => .refl _
    rw [h.1]
    exact .begin _ _ _

theorem State.enqueue_unit_alike (s : State) (u v : UnitNo) (a : Arm) :
    (s.units.get v).AlikeBut ((s.enqueue u a).units.get v) := by
  have joined : (s.units.get v).AlikeBut ((s.modUnit u fun x => x.join a).units.get v) := by
    rw [State.modUnit_units, Bank.get_upd]
    refine iteInduction (motive := (s.units.get v).AlikeBut) (fun h => ?_) fun _ => .refl _
    rw [h]
    exact .join _ a
  exact joined.trans (State.takeHead_unit_alike _ u v)

theorem State.additiveResults_unit_alike (s : State) (a : Arm) (v : UnitNo) :
    (s.units.get v).AlikeBut ((s.additiveResults a).units.get v) := by
  have due (t : State) (u : UnitNo) : (t.units.get v).AlikeBut ((t.additiveDue u a).units.get v) :=
    iteInduction (motive := fun x : State => (t.units.get v).AlikeBut (x.units.get v))
      (fun _ => t.enqueue_unit_alike u v a) fun _ => .refl _
  unfold State.additiveResults
  split
  · exact .refl _
  · next r load =>
    clear load
    generalize r.items = items
    induction items generalizing s with
    | nil => exact .refl _
    | cons i rest ih =>
      rw [List.foldl_cons]
      refine AdditiveUnit.AlikeBut.trans ?_ (ih _)
      exact iteInduction (motive := fun x : State => (s.units.get v).AlikeBut (x.units.get v))
        (fun _ => due s i.unit) fun _ => .refl _

/-! ### A verdict carried out -/

/-- A verdict carried out, and the additive-due results with it: what each part of the state holds, and of the arm's own load the
record but for its marks. -/
theorem State.carriedOut_facts (s : State) (a : Arm) (x : LoadRecord) (v : Verdict) :
    let t := s.carriedOut a x v
    ∃ q, t.arms.get a = { (s.arms.get a).judged x v with occ := .loaded q } ∧ q.unmarked = v.record.unmarked ∧
      (∀ b, b ≠ a → (t.arms.get b).mapRecord LoadRecord.unmarked = (s.arms.get b).mapRecord LoadRecord.unmarked) ∧
      (∀ u, (s.units.get u).AlikeBut (t.units.get u)) ∧
      t = { s with
        arms := t.arms, units := t.units, header := v.header, armLines := s.armLines.upd a fun y => y.judged x v
        supervisor := { s.supervisor with
          notices := v.why.elim s.supervisor.notices fun w =>
            raiseIn SupNotice.key (.armHalted a) (some (haltCode w)) s.supervisor.notices } } := by
  have own : (s.follow a x v).arms.get a = { (s.arms.get a).judged x v with occ := .loaded v.record } := by
    rw [State.follow_arms, Bank.get_upd_same]; rfl
  have others (b : Arm) (ne : b ≠ a) : (s.follow a x v).arms.get b = s.arms.get b := by
    rw [State.follow_arms, Bank.get_upd_of_ne _ _ ne]
  have units (u : UnitNo) : (s.units.get u).AlikeBut ((s.follow a x v).units.get u) := by
    unfold State.follow
    dsimp only
    split
    · rw [State.queuesLeft, Bank.get_tab]; rfl
    · exact .refl _
  dsimp only [State.carriedOut]
  cases v.shots with
  | false => exact ⟨v.record, own, rfl, fun b ne => by rw [if_neg Bool.false_ne_true, others b ne], units, rfl⟩
  | true =>
    rw [if_pos rfl]
    obtain ⟨q, after, marks⟩ := State.additiveResults_own own
    refine ⟨q, after, marks, fun b ne => ?_, fun u => ?_, ?_⟩
    · rw [State.additiveResults_unmarked, others b ne]
    · exact (units u).trans (State.additiveResults_unit_alike _ a u)
    · refine State.eq_of_fields ?_ ?_ ?_ ?_ ?_ ?_ ?_ ?_ ?_ ?_ ?_ ?_ ?_ ?_ ?_ ?_ ?_ ?_
      all_goals simp [State.follow]

/-! ### What a verdict leaves of its record and of the header -/

/-- The two parts of the header that its operations change. -/
def Header.AlikeBut (h g : Header) : Prop := g = { h with holders := g.holders, wait := g.wait }

theorem State.headerLeft_alike (s : State) (a : Arm) : s.header.AlikeBut (s.headerLeft a) := by
  unfold State.headerLeft Header.AlikeBut
  dsimp only
  split
  · split
    · rfl
    · rfl
  · split
    · rfl
    · rfl

theorem State.ethanolHeader_alike (s : State) (a : Arm) (x : LoadRecord) : s.header.AlikeBut (s.ethanolHeader a x) := by
  have left := s.headerLeft_alike a
  unfold State.ethanolHeader
  split
  · split
    · split
      · rfl
      · rfl
    · rfl
  · split
    · exact left
    · rfl

/-- A verdict changes of its record the load state, the halt reason and three of the accounts, and of the header its two lists. -/
def Verdict.Keeps (v : Verdict) (s : State) (x : LoadRecord) : Prop :=
  v.record = { x with
    phase := v.record.phase, haltReason := v.record.haltReason
    acc := { x.acc with
      owed := v.record.acc.owed, restrictOn := v.record.acc.restrictOn, closedValve := v.record.acc.closedValve } } ∧
  s.header.AlikeBut v.header

theorem State.blendVerdict_keeps (s : State) (a : Arm) (x : LoadRecord) : (s.blendVerdict a x).Keeps s x := by
  have halts (why : HaltReason) : (s.haltVerdict a x why).Keeps s x := ⟨rfl, s.headerLeft_alike a⟩
  unfold State.blendVerdict
  split
  · exact halts _
  · split
    · exact halts _
    · split
      · exact ⟨rfl, s.headerLeft_alike a⟩
      · exact ⟨rfl, s.ethanolHeader_alike a x⟩

theorem State.verdict_keeps (s : State) (a : Arm) (x : LoadRecord) (saturating : Bool) (baseVcf : Nat) :
    (s.verdict a x saturating baseVcf).Keeps s x := by
  have halts (why : HaltReason) : (s.haltVerdict a x why).Keeps s x := ⟨rfl, s.headerLeft_alike a⟩
  have blended : (s.blendVerdict a (x.oweEthanol baseVcf)).Keeps s x := s.blendVerdict_keeps a (x.oweEthanol baseVcf)
  unfold State.verdict
  split
  · split
    · exact halts _
    · split
      · exact halts _
      · split
        · exact ⟨rfl, rfl⟩
        · split
          · exact ⟨rfl, rfl⟩
          · exact blended
  · exact ⟨rfl, rfl⟩

/-! ### The closed-valve volume (R66, R117) -/

/-- The verdict puts the closed-valve volume at 0 exactly where it takes the arm's slot. -/
def Verdict.ClosesRightly (v : Verdict) (s : State) (a : Arm) (x : LoadRecord) : Prop :=
  v.record.acc.closedValve =
    if s.header.holds a = true ∧ v.header.holds a = false then 0 else x.acc.closedValve

theorem State.headerLeft_holds (apart : ¬ (s.header.holds a = true ∧ s.header.waits a = true)) :
    (s.headerLeft a).holds a = false := by
  rw [← State.leaveHeader_header_eq_headerLeft]
  exact (s.leaveHeader_none a apart).1

theorem State.closedLeft_rightly (apart : ¬ (s.header.holds a = true ∧ s.header.waits a = true)) (x : LoadRecord) :
    s.closedLeft a x = if s.header.holds a = true ∧ (s.headerLeft a).holds a = false then 0 else x.acc.closedValve := by
  unfold State.closedLeft
  rw [State.headerLeft_holds apart]
  simp

theorem State.ethanolClosed_rightly (apart : ¬ (s.header.holds a = true ∧ s.header.waits a = true)) (x : LoadRecord) :
    s.ethanolClosed a x =
      if s.header.holds a = true ∧ (s.ethanolHeader a x).holds a = false then 0 else x.acc.closedValve := by
  have left := State.closedLeft_rightly apart x
  unfold State.ethanolClosed State.ethanolHeader
  split
  · split
    · next joins => rw [if_neg fun h => Bool.false_ne_true (joins.2.1.symm.trans h.1)]
    · rw [if_neg fun h => Bool.false_ne_true (h.2.symm.trans h.1)]
  · split
    · exact left
    · rw [if_neg fun h => Bool.false_ne_true (h.2.symm.trans h.1)]

theorem State.blendVerdict_closes (apart : ¬ (s.header.holds a = true ∧ s.header.waits a = true)) (x : LoadRecord) :
    (s.blendVerdict a x).ClosesRightly s a x := by
  have left := State.closedLeft_rightly apart x
  unfold State.blendVerdict
  split
  · exact left
  · split
    · exact left
    · split
      · exact left
      · exact State.ethanolClosed_rightly apart x

theorem State.verdict_closes (apart : ¬ (s.header.holds a = true ∧ s.header.waits a = true)) (x : LoadRecord)
    (saturating : Bool) (baseVcf : Nat) : (s.verdict a x saturating baseVcf).ClosesRightly s a x := by
  have left := State.closedLeft_rightly apart x
  have stays (y : LoadRecord) (shots : Bool) (same : y.acc.closedValve = x.acc.closedValve) :
      (s.stayVerdict y shots).ClosesRightly s a x := by
    unfold Verdict.ClosesRightly
    rw [if_neg fun h => Bool.false_ne_true (h.2.symm.trans h.1)]
    exact same
  unfold State.verdict
  split
  · split
    · exact left
    · split
      · exact left
      · split
        · exact stays _ _ rfl
        · split
          · exact stays _ _ rfl
          · exact State.blendVerdict_closes apart (x.oweEthanol baseVcf)
  · exact stays _ _ rfl

/-! ### A pulse taken whole -/

theorem State.retriggered_armsHolding (s : State) (a : Arm) (m : Meter) :
    (s.retriggered a m).armsHolding = s.header.armsHolding := by
  unfold State.retriggered
  split
  · simp only [Header.armsHolding, List.map_map]
    refine List.map_congr_left fun y _ => ?_
    exact iteInduction (motive := fun z : Holder => z.arm = y.arm) (fun _ => rfl) fun _ => rfl
  · rfl

theorem State.retriggered_holds (s : State) (a b : Arm) (m : Meter) :
    (s.retriggered a m).holds b = s.header.holds b := by
  unfold Header.holds
  rw [State.retriggered_armsHolding]

theorem State.retriggered_waits (s : State) (a b : Arm) (m : Meter) : (s.retriggered a m).waits b = s.header.waits b := by
  unfold State.retriggered
  split
  · rfl
  · rfl

theorem State.retriggered_alike (s : State) (a : Arm) (m : Meter) : s.header.AlikeBut (s.retriggered a m) := by
  unfold State.retriggered
  split
  · rfl
  · rfl

/-- The state a routed pulse leaves, in the terms of its verdict. -/
theorem State.pulse_facts (load : s.record a = some r) (open_ : r.phase ≠ .complete) (m : Meter) :
    let t := s.pulse a m
    let v := s.pulseVerdict a m r
    let x := s.accountedRecord a m r
    ∃ q, t.arms.get a = { ((s.arms.get a).accounted s.settings m r x).judged x v with occ := .loaded q } ∧
      q.unmarked = v.record.unmarked ∧
      (∀ b, b ≠ a → (t.arms.get b).mapRecord LoadRecord.unmarked = (s.arms.get b).mapRecord LoadRecord.unmarked) ∧
      (∀ u, (s.units.get u).AlikeBut (t.units.get u)) ∧
      t = { s with
        meters := (s.metered a m).meters
        arms := t.arms, units := t.units, header := v.header, armLines := s.armLines.upd a fun y => y.judged x v
        supervisor := { s.supervisor with
          notices := v.why.elim s.supervisor.notices fun w =>
            raiseIn SupNotice.key (.armHalted a) (some (haltCode w)) s.supervisor.notices } } := by
  dsimp only
  obtain ⟨q, own, marks, others, units, frame⟩ :=
    (s.accounted a m r).carriedOut_facts a (s.accountedRecord a m r) (s.pulseVerdict a m r)
  rw [← State.pulse_eq load open_] at own others units frame
  rw [State.accounted_arms, Bank.get_upd_same] at own
  refine ⟨q, own, marks, fun b ne => ?_, units, frame⟩
  rw [others b ne, State.accounted_arms, Bank.get_upd_of_ne _ _ ne]

/-- The record a routed pulse leaves: the accounted one, with what its verdict decides. -/
theorem State.pulseVerdict_keeps (s : State) (a : Arm) (m : Meter) (r : LoadRecord) :
    (s.pulseVerdict a m r).Keeps (s.accounted a m r) (s.accountedRecord a m r) := State.verdict_keeps ..

theorem State.record_of_occ {c : ArmCtl} (own : t.arms.get a = { c with occ := .loaded q }) : t.record a = some q := by
  rw [State.record, own]; rfl

/-! ### The accounts -/

/-- The accounts of a base delivery (R55 to R57). -/
theorem LoadRecord.accountsAfter_base (r : LoadRecord) {d : Delivery} (base : d.meter = .base) (x : Readings) :
    r.accountsAfter d x = { r.acc with
      baseGross := r.acc.baseGross + r.grossAdded d, totalGross := r.acc.totalGross + r.grossAdded d
      baseStd := r.acc.baseStd + r.stdAdded d x, baseStdRes := r.stdSum d x % 10000000
      totalStd := r.acc.totalStd + r.stdAdded d x } := by
  unfold LoadRecord.accountsAfter
  rw [base]
  rfl

/-- The accounts of an ethanol delivery (R55 to R57, R66). -/
theorem LoadRecord.accountsAfter_ethanol (r : LoadRecord) {d : Delivery} (ethanol : d.meter = .ethanol) (x : Readings) :
    r.accountsAfter d x = { r.acc with
      ethGross := r.acc.ethGross + r.grossAdded d, totalGross := r.acc.totalGross + r.grossAdded d
      ethStd := r.acc.ethStd + r.stdAdded d x, ethStdRes := r.stdSum d x % 10000000
      totalStd := r.acc.totalStd + r.stdAdded d x
      closedValve := if x.valveOpen = false then min 99999999 (r.acc.closedValve + r.grossAdded d)
        else r.acc.closedValve } := by
  unfold LoadRecord.accountsAfter
  rw [ethanol]
  dsimp only
  split
  · next closed => rw [if_pos closed.2]; rfl
  · next open_ => rw [if_neg fun h => open_ ⟨rfl, h⟩]; rfl

theorem overspeedOf_eq_true (i : MeterInput) (now : BitVec 32) : overspeedOf i.minInterval (i.interval now) = true ↔
    ∃ e, i.lastEdge = some e ∧ (now - e).toNat ≤ 1000000 ∧ max 1 (now - e).toNat < 10 * i.minInterval := by
  unfold MeterInput.interval
  cases edge : i.lastEdge with
  | none => simp [overspeedOf]
  | some e =>
    simp only [Option.some.injEq, exists_eq_left']
    generalize (now - e).toNat = d
    split
    · next late =>
      have late : 1000000 < d := late
      simp [overspeedOf]
      omega
    · next fresh =>
      have fresh : d ≤ 1000000 := Nat.not_lt.1 fresh
      simp [overspeedOf, fresh]

theorem Phase.owes_iff (p : Phase) : p.owes = true ↔ p = .authorized ∨ p = .flowing ∨ p.isPaused = true := by
  cases p <;> simp [Phase.owes, Phase.isPaused]

theorem LoadRecord.account_overspeed (r : LoadRecord) (d : Delivery) (x : Readings) :
    ((r.account d x).flags.overspeedBase = true ↔
      r.flags.overspeedBase = true ∨ (d.meter = .base ∧ d.overspeed = true)) ∧
    ((r.account d x).flags.overspeedEth = true ↔
      r.flags.overspeedEth = true ∨ (d.meter = .ethanol ∧ d.overspeed = true)) := by
  simp [LoadRecord.account, ExceptionFlags.markDelivery, and_comm]

theorem LoadRecord.account_tempHeld (r : LoadRecord) (d : Delivery) (x : Readings) :
    (r.account d x).flags.tempHeld = true ↔ r.flags.tempHeld = true ∨ r.usesHeld d x = true := by
  simp [LoadRecord.account, ExceptionFlags.markDelivery]

theorem LoadRecord.account_ethWhileClosed (r : LoadRecord) (d : Delivery) (x : Readings) :
    (r.account d x).flags.ethWhileClosed = true ↔ r.flags.ethWhileClosed = true ∨ r.closedFlag d x = true := by
  simp [LoadRecord.account, ExceptionFlags.markDelivery]

/-- A base delivery uses the arm's base entry (R52). -/
theorem LoadRecord.usesHeld_base (r : LoadRecord) {d : Delivery} (base : d.meter = .base) (x : Readings) :
    r.usesHeld d x = true ↔ x.base.status = .held := by
  simp [LoadRecord.usesHeld, base]

/-- An ethanol delivery uses the header entry, and the arm's base entry where ethanol is owed (R52). -/
theorem LoadRecord.usesHeld_ethanol (r : LoadRecord) {d : Delivery} (ethanol : d.meter = .ethanol) (x : Readings) :
    r.usesHeld d x = true ↔ x.ethanol.status = .held ∨
      ((r.phase = .authorized ∨ r.phase = .flowing ∨ r.phase.isPaused = true) ∧ x.base.status = .held) := by
  simp [LoadRecord.usesHeld, ethanol, Phase.owes_iff]

/-- ETH_WHILE_CLOSED needs an ethanol delivery through a closed valve and 501 mL in all (R66). -/
theorem LoadRecord.closedFlag_ethanol (r : LoadRecord) {d : Delivery} (ethanol : d.meter = .ethanol) (x : Readings) :
    r.closedFlag d x = true ↔
      x.valveOpen = false ∧ 501 ≤ min 99999999 (r.acc.closedValve + r.grossAdded d) := by
  simp only [LoadRecord.closedFlag, r.accountsAfter_ethanol ethanol, ethanol, Bool.and_eq_true, decide_eq_true_eq,
    Bool.not_eq_true', true_and]
  constructor
  · rintro ⟨closed, much⟩
    rw [if_pos closed] at much
    exact ⟨closed, much⟩
  · rintro ⟨closed, much⟩
    rw [if_pos closed]
    exact ⟨closed, much⟩

/-- The items after the accounting owe by the new total gross (R67). -/
theorem LoadRecord.account_items (r : LoadRecord) (d : Delivery) (x : Readings) :
    (r.account d x).items.map (fun i => { i with finalShot := false }) = r.items.map fun i =>
      { i with
        owed := ((i.rate * (r.accountsAfter d x).totalGross / 1000000 : Nat) : Int) - (i.delivered : Int)
        finalShot := false } := by
  simp only [LoadRecord.account, List.map_map]
  rfl

/-! ### The record a pulse leaves -/

/-- The record before the tests holds the accounts of the delivery, and after them only three of those can differ. -/
theorem State.pulse_record (load : s.record a = some r) (open_ : r.phase ≠ .complete) (m : Meter) :
    ∃ q, (s.pulse a m).record a = some q ∧
      q = { r with phase := q.phase, haltReason := q.haltReason, acc := q.acc, items := q.items, flags := q.flags } ∧
      q.acc = { r.accountsAfter (s.delivery a m) (s.readings a) with
        owed := q.acc.owed, restrictOn := q.acc.restrictOn, closedValve := q.acc.closedValve } ∧
      q.flags = (r.account (s.delivery a m) (s.readings a)).flags ∧
      q.items.map (fun i => { i with finalShot := false }) =
        (r.account (s.delivery a m) (s.readings a)).items.map (fun i => { i with finalShot := false }) ∧
      ((s.pulseVerdict a m r).record.phase = q.phase ∧ (s.pulseVerdict a m r).record.acc = q.acc ∧
        (s.pulseVerdict a m r).record.haltReason = q.haltReason) := by
  obtain ⟨q, own, marks, -, -, -⟩ := State.pulse_facts load open_ m
  obtain ⟨record, -⟩ := s.pulseVerdict_keeps a m r
  have items := LoadRecord.items_of_unmarked marks
  have alike := LoadRecord.eq_of_unmarked marks
  generalize (s.pulseVerdict a m r).record = w at *
  rw [record] at alike items
  refine ⟨q, State.record_of_occ own, ?_, ?_, ?_, items, ?_⟩
  · rw [alike]; rfl
  · rw [alike]; rfl
  · rw [alike]; rfl
  · rw [alike]; exact ⟨rfl, by rw [record], rfl⟩

theorem State.pulse_valveOpen (load : s.record a = some r) (open_ : r.phase ≠ .complete) (m : Meter) :
    (s.pulse a m).valveOpen a = (s.pulseVerdict a m r).header.holds a := by
  obtain ⟨q, -, -, -, -, frame⟩ := State.pulse_facts load open_ m
  rw [State.valveOpen, frame]

/-- The closed-valve volume after a pulse: 0 where the arm's valve closed, and what the accounting left otherwise (R66, R117). -/
theorem State.pulse_closedValve (law : s.headerLaw) (load : s.record a = some r) (open_ : r.phase ≠ .complete) (m : Meter) :
    (s.pulseVerdict a m r).record.acc.closedValve =
      if s.valveOpen a = true ∧ (s.pulse a m).valveOpen a = false then 0
      else (r.accountsAfter (s.delivery a m) (s.readings a)).closedValve := by
  obtain ⟨-, -, -, apart, -⟩ := law
  have still : ¬ ((s.accounted a m r).header.holds a = true ∧ (s.accounted a m r).header.waits a = true) := by
    change ¬ ((s.retriggered a m).holds a = true ∧ (s.retriggered a m).waits a = true)
    rw [State.retriggered_holds, State.retriggered_waits]
    exact apart a
  have closes := State.verdict_closes still (s.accountedRecord a m r) (r.saturates (s.delivery a m) (s.readings a))
    (r.baseVcf (s.readings a))
  have before : (s.accounted a m r).header.holds a = s.valveOpen a := State.retriggered_holds s a a m
  unfold Verdict.ClosesRightly at closes
  rw [before] at closes
  rw [State.pulse_valveOpen load open_]
  exact closes

/-- A pulse that finds its load in HALTED or FINISHING is accounted and makes no test (R79, R80, R96). -/
theorem State.pulse_ended (load : s.record a = some r) (ended : r.phase = .halted ∨ r.phase = .finishing)
    (out : s.header.holds a = false) (m : Meter) :
    s.pulse a m = { s with
      meters := (s.metered a m).meters
      arms := s.arms.upd a fun c => { c with occ := .loaded (s.accountedRecord a m r) } } ∧
    r.begun m = r.phase := by
  have begun : r.begun m = r.phase := by
    refine if_neg fun begins => ?_
    obtain ⟨-, authorized | paused⟩ := (Phase.begins_eq_true _ _).1 begins
    · obtain h | h := ended
      · rw [h] at authorized; cases authorized
      · rw [h] at authorized; cases authorized
    · obtain h | h := ended
      · rw [h] at paused; cases paused
      · rw [h] at paused; cases paused
  have open_ : r.phase ≠ .complete := by obtain h | h := ended <;> simp [h]
  have idle : (s.accountedRecord a m r).phase.haltable = false := by
    obtain h | h := ended <;> simp [State.accountedRecord, begun, h, Phase.haltable]
  have notFlowing : r.phase ≠ .flowing := by obtain h | h := ended <;> simp [h]
  have noTest : s.pulseVerdict a m r = (s.accounted a m r).stayVerdict (s.accountedRecord a m r) false :=
    if_neg (by rw [idle]; exact Bool.false_ne_true)
  have header : s.retriggered a m = s.header := by
    have none_of_arm (y : Holder) (mem : y ∈ s.header.holders) : y.arm ≠ a := fun e => by
      have holds : s.header.holds a = true := (s.header.holds_iff a).2 (List.mem_map.2 ⟨y, mem, e⟩)
      rw [out] at holds
      exact Bool.false_ne_true holds
    have same : s.header.holders.map (fun y =>
        if y.arm = a then { y with flow := s.header.flowTimeout * 100000 } else y) = s.header.holders := by
      conv_rhs => rw [← List.map_id s.header.holders]
      exact List.map_congr_left fun y mem => if_neg (none_of_arm y mem)
    unfold State.retriggered
    rw [same]
    split
    · rfl
    · rfl
  refine ⟨?_, begun⟩
  rw [State.pulse_eq load open_, noTest]
  refine (State.follow_stay (s.accounted_record a m r) false).trans ?_
  have arms : (s.accounted a m r).arms =
      s.arms.upd a fun c => { c with occ := .loaded (s.accountedRecord a m r) } := by
    rw [State.accounted_arms]
    refine Bank.upd_congr _ _ ?_
    simp [ArmCtl.accounted, begun, notFlowing]
  exact State.eq_of_fields rfl rfl rfl rfl rfl arms rfl header rfl rfl rfl rfl rfl rfl rfl rfl rfl rfl

end Sys2Proof.Machine

namespace Sys2Proof.Proofs

open Sys2Proof.Machine

/-- Settles O21: the accounting leaves the load state and the owed alone, and nothing follows it. -/
theorem endedLoadsOnlyAccount : Obligations.EndedLoadsOnlyAccount := by
  unfold Obligations.EndedLoadsOnlyAccount
  intro s a m r test presented accepted load ended out
  obtain ⟨pulse, begun⟩ := State.pulse_ended load ended out m
  obtain ⟨-, -, owed, restrict⟩ := r.accountsAfter_totals (s.delivery a m) (s.readings a)
  refine ⟨s.pulse a m, s.accountedRecord a m r, exec_meterPulseAcceptance_of_test test presented accepted, ?_, begun, rfl,
    owed, restrict, rfl, rfl, ?_⟩
  · rw [pulse]
  · simp only [State.accountedRecord, LoadRecord.account, List.map_map]
    rfl

/-- Settles O18: the verdict and the additive-due results leave alone what the statement names. -/
theorem pulseFrame : Obligations.PulseFrame := by
  unfold Obligations.PulseFrame
  intro s a m r test presented accepted load open_
  obtain ⟨q, own, -, others, units, frame⟩ := State.pulse_facts load open_ m
  obtain ⟨q', load', record, -, flags, items, -⟩ := State.pulse_record load open_ m
  obtain rfl : q' = q := Option.some.inj (load'.symm.trans (State.record_of_occ own))
  obtain ⟨-, header⟩ := s.pulseVerdict_keeps a m r
  have retriggered := s.retriggered_alike a m
  refine ⟨s.pulse a m, q', exec_meterPulseAcceptance_of_test test presented accepted, load', ?_, record, ?_, ?_, ?_, ?_, ?_,
    units, fun b ne => ⟨?_, others b ne⟩⟩
  · have headerEq : (s.pulse a m).header =
        { s.header with holders := (s.pulse a m).header.holders, wait := (s.pulse a m).header.wait } := by
      have after : (s.pulse a m).header = (s.pulseVerdict a m r).header := by rw [frame]
      rw [after]
      unfold Header.AlikeBut at header retriggered
      rw [header]
      change ({ s.retriggered a m with holders := _, wait := _ } : Header) = _
      rw [retriggered]
    rw [← headerEq]
    rw [frame]
  · rw [flags]; rfl
  · rw [flags]; rfl
  · rw [flags]; rfl
  · rw [flags]; rfl
  · have alike := congrArg (List.map fun i : LoadItem => { i with owed := 0 }) items
    simp only [List.map_map, LoadRecord.account] at alike
    exact alike
  · rw [frame]
    exact Bank.get_upd_of_ne _ _ ne

/-- Settles O17: the accounts are the delivery's, whatever its verdict; only a closing valve touches them after it. -/
theorem pulseIsAccounted : Obligations.PulseIsAccounted := by
  unfold Obligations.PulseIsAccounted
  intro s a m r law test presented accepted load open_
  obtain ⟨q, load', -, acc, flags, items, -, verdictAcc, -⟩ := State.pulse_record load open_ m
  have closed := State.pulse_closedValve law load open_ m
  rw [verdictAcc] at closed
  refine ⟨s.pulse a m, q, exec_meterPulseAcceptance_of_test test presented accepted, load', ?_⟩
  obtain ⟨overspeedBase, overspeedEth⟩ := r.account_overspeed (s.delivery a m) (s.readings a)
  have fast : (s.delivery a m).overspeed = true ↔ _ := overspeedOf_eq_true (s.meter a m) s.timebase
  rw [fast, ← flags] at overspeedBase overspeedEth
  have tempHeld := r.account_tempHeld (s.delivery a m) (s.readings a)
  rw [← flags] at tempHeld
  have total : q.acc.totalGross = (r.accountsAfter (s.delivery a m) (s.readings a)).totalGross := by rw [acc]
  rw [LoadRecord.account_items, ← total] at items
  refine ⟨total.trans (r.accountsAfter_totals _ _).1, overspeedBase, overspeedEth, ?closed, ?base, ?ethanol, items⟩
  case closed =>
    rw [closed]
    refine if_congr Iff.rfl rfl ?_
    cases m with
    | base => rfl
    | ethanol =>
      rw [r.accountsAfter_ethanol rfl]
      exact if_congr (by simp [State.readings]) rfl rfl
  case base =>
    rintro rfl
    rw [r.accountsAfter_base rfl] at acc
    refine ⟨?_, ?_, ?_, ?_, ?_, ?_, ?_, ?_, ?_⟩
    · rw [acc]; rfl
    · rw [acc]
    · rw [acc]; rfl
    · rw [acc]; rfl
    · rw [acc]
    · rw [acc]
    · rw [acc]; rfl
    · rw [flags]
      simp [LoadRecord.account, ExceptionFlags.markDelivery, LoadRecord.closedFlag, State.delivery]
    · rw [tempHeld]
      exact or_congr Iff.rfl (r.usesHeld_base rfl _)
  case ethanol =>
    rintro rfl
    rw [r.accountsAfter_ethanol rfl] at acc
    have whileClosed := r.account_ethWhileClosed (s.delivery a .ethanol) (s.readings a)
    rw [← flags] at whileClosed
    refine ⟨?_, ?_, ?_, ?_, ?_, ?_, ?_, ?_, ?_⟩
    · rw [acc]; rfl
    · rw [acc]
    · rw [acc]; rfl
    · rw [acc]; rfl
    · rw [acc]
    · rw [acc]
    · rw [acc]; rfl
    · rw [whileClosed]
      exact or_congr Iff.rfl (r.closedFlag_ethanol rfl _)
    · rw [tempHeld]
      exact or_congr Iff.rfl (r.usesHeld_ethanol rfl _)

end Sys2Proof.Proofs
end


section
/-! The tests of a delivery in AUTHORIZED, FLOWING, PAUSED and FLUSH, in their order (R58, R61 to R65, R76 to R79). -/

namespace Sys2Proof.Machine

variable {s t : State} {a b : Arm} {m : Meter} {r x q : LoadRecord} {v : Verdict}

/-! ### What a verdict on a load that a halt can stop says -/

/-- The verdict of a load with no halt reason: its record's halt reason is the verdict's, and it is in HALTED exactly by one. -/
def Verdict.Plain (v : Verdict) : Prop :=
  v.record.haltReason = v.why ∧ (v.why.isSome = true ↔ v.record.phase = .halted)

theorem State.haltVerdict_plain (first : x.haltReason = none) (s : State) (a : Arm) (why : HaltReason) :
    (s.haltVerdict a x why).Plain := by
  refine ⟨?_, ?_⟩
  · simp [State.haltVerdict, first]
  · simp [State.haltVerdict]

theorem State.blendVerdict_plain (first : x.haltReason = none) (live : x.phase ≠ .halted) (s : State) (a : Arm) :
    (s.blendVerdict a x).Plain := by
  have halts := State.haltVerdict_plain first s a
  unfold State.blendVerdict
  split
  · exact halts _
  · split
    · exact halts _
    · split
      · exact ⟨first, by simp [State.flushVerdict]⟩
      · exact ⟨first, by simp [State.onVerdict, live]⟩

theorem State.verdict_plain (first : x.haltReason = none) (live : x.phase ≠ .halted) (s : State) (a : Arm)
    (saturating : Bool) (baseVcf : Nat) : (s.verdict a x saturating baseVcf).Plain := by
  have halts := State.haltVerdict_plain first s a
  unfold State.verdict
  split
  · split
    · exact halts _
    · split
      · exact halts _
      · split
        · exact ⟨first, by simp [State.stayVerdict, LoadRecord.oweEthanol, live]⟩
        · split
          · exact ⟨first, by simp [State.stayVerdict, live]⟩
          · exact State.blendVerdict_plain (x := x.oweEthanol baseVcf) first live s a
  · exact ⟨first, by simp [State.stayVerdict, live]⟩

/-! ### The verdict of a pulse, test by test -/

/-- What the marks leave of a record. -/
theorem LoadRecord.same_of_unmarked (h : q.unmarked = x.unmarked) :
    q.phase = x.phase ∧ q.haltReason = x.haltReason ∧ q.acc = x.acc := by
  have phase := congrArg LoadRecord.phase h
  have reason := congrArg LoadRecord.haltReason h
  have acc := congrArg LoadRecord.acc h
  exact ⟨phase, reason, acc⟩

theorem LoadRecord.begun_eq (r : LoadRecord) (m : Meter) :
    r.begun m = if m = .base ∧ (r.phase = .authorized ∨ r.phase = .paused .noFlow) then .flowing else r.phase :=
  if_congr (Phase.begins_eq_true _ _) rfl rfl

/-- A load that a halt can stop begins or keeps a load state of the same kind. -/
theorem LoadRecord.begun_haltable (haltable : r.phase.haltable = true) (m : Meter) : (r.begun m).haltable = true :=
  iteInduction (motive := fun p : Phase => p.haltable = true) (fun _ => rfl) fun _ => haltable

/-- FLOWING begins neither from FLUSH nor into it. -/
theorem LoadRecord.begun_flush (r : LoadRecord) (m : Meter) : r.begun m = .flush ↔ r.phase = .flush := by
  rw [LoadRecord.begun_eq]
  split
  · next begins =>
    obtain ⟨-, h | h⟩ := begins
    · simp [h]
    · simp [h]
  · rfl

theorem Phase.ne_halted_of_haltable {p : Phase} (haltable : p.haltable = true) : p ≠ .halted := by
  rintro rfl
  exact Bool.false_ne_true haltable

/-- The record before the tests with its ethanol owed worked out (R59). -/
def State.owingRecord (s : State) (a : Arm) (m : Meter) (r : LoadRecord) : LoadRecord :=
  (s.accountedRecord a m r).oweEthanol (r.baseVcf (s.readings a))

theorem State.accountedRecord_phase (s : State) (a : Arm) (m : Meter) (r : LoadRecord) :
    (s.accountedRecord a m r).phase = r.begun m := rfl

theorem State.pulseVerdict_of_saturating (haltable : r.phase.haltable = true)
    (saturating : r.saturates (s.delivery a m) (s.readings a) = true) :
    s.pulseVerdict a m r = (s.accounted a m r).haltVerdict a (s.accountedRecord a m r) .overCapacity := by
  unfold State.pulseVerdict State.verdict
  rw [State.accountedRecord_phase, if_pos (LoadRecord.begun_haltable haltable m), if_pos saturating]

/-- A load that does not saturate is judged by its overrun, and then by its load state. -/
theorem State.pulseVerdict_of_not_saturating (haltable : r.phase.haltable = true)
    (room : ¬ r.saturates (s.delivery a m) (s.readings a) = true) :
    s.pulseVerdict a m r =
      if (s.accountedRecord a m r).overruns s.settings.allowance = true then
        (s.accounted a m r).haltVerdict a (s.accountedRecord a m r) .presetOverrun
      else if r.begun m = .authorized then (s.accounted a m r).stayVerdict (s.owingRecord a m r) false
      else if r.begun m = .flush then (s.accounted a m r).stayVerdict (s.accountedRecord a m r) true
      else (s.accounted a m r).blendVerdict a (s.owingRecord a m r) := by
  unfold State.pulseVerdict State.verdict
  rw [State.accountedRecord_phase, if_pos (LoadRecord.begun_haltable haltable m), if_neg room]
  rfl

theorem LoadRecord.overruns_eq_true (x : LoadRecord) (allowance : Nat) :
    x.overruns allowance = true ↔ (x.preset + allowance) * 1000 ≤ x.acc.totalGross := decide_eq_true_iff

theorem LoadRecord.flushDue_eq_true (x : LoadRecord) :
    x.flushDue = true ↔ (x.preset - x.snap.flush) * 1000 ≤ x.acc.totalGross := decide_eq_true_iff

theorem State.owingRecord_restrictAfter (s : State) (a : Arm) (m : Meter) (r : LoadRecord) :
    (s.owingRecord a m r).restrictAfter =
      if r.acc.restrictOn = true then !decide ((s.owingRecord a m r).acc.owed < ((r.snap.restrict / 2 : Nat) : Int))
      else decide ((r.snap.restrict : Int) ≤ (s.owingRecord a m r).acc.owed) := by
  obtain ⟨-, -, -, restrict⟩ := r.accountsAfter_totals (s.delivery a m) (s.readings a)
  unfold LoadRecord.restrictAfter
  exact if_congr (by rw [← restrict]; rfl) rfl rfl

theorem State.accounted_headerLeft (s : State) (a : Arm) (m : Meter) (r : LoadRecord) :
    (s.accounted a m r).headerLeft a = State.headerLeft { s with header := s.retriggered a m } a := rfl

/-- The header after the ethanol result of a delivery that leaves the load going on (R64, R112 to R115). -/
theorem State.accounted_ethanolHeader (s : State) (a : Arm) (m : Meter) (r : LoadRecord) :
    (s.accounted a m r).ethanolHeader a (s.owingRecord a m r) =
      if (r.snap.step : Int) ≤ (s.owingRecord a m r).acc.owed then
        (if r.begun m = .flowing ∧ s.header.holds a = false ∧ s.header.waits a = false then
          (let g : Header := { s.retriggered a m with wait := (s.retriggered a m).wait ++ [a] }
           if s.scan.pressure = .normal ∧ s.stop.latch = none then g.grantAll else g)
        else s.retriggered a m)
      else if (s.owingRecord a m r).acc.owed ≤ 0 then State.headerLeft { s with header := s.retriggered a m } a
      else s.retriggered a m := by
  rw [← State.retriggered_holds s a a m, ← State.retriggered_waits s a a m]
  rfl

/-! ### The arm, its line and its output after a pulse -/

theorem State.pulse_arm (own : t.arms.get a =
      { ((s.arms.get a).accounted s.settings m r x).judged x v with occ := .loaded q })
    (xPhase : x.phase = r.begun m) (qPhase : q.phase = v.record.phase) (plain : v.Plain) :
    t.arms.get a = { s.arms.get a with
      occ := .loaded q
      noFlow := if q.phase = .halted ∨ (q.phase = .flush ∧ r.phase ≠ .flush) then .stopped
        else if m = .base ∧ r.begun m = .flowing then .running (s.settings.noFlow * 100000) else (s.arms.get a).noFlow
      window := if q.phase = .halted ∨ r.begun m ≠ r.phase then .stopped else (s.arms.get a).window
      linkSilence := if q.phase = .halted then .stopped else (s.arms.get a).linkSilence } := by
  have notFlush : x.phase ≠ .flush ↔ r.phase ≠ .flush := by rw [xPhase]; exact not_congr (r.begun_flush m)
  rw [own]
  simp only [ArmCtl.judged, ArmCtl.accounted, plain.2, notFlush, qPhase]
  congr 1
  by_cases halted : v.record.phase = .halted
  · simp [halted]
  · simp [halted]

theorem State.restrictOut_iff (load : t.record a = some q) : t.restrictOut a = true ↔
    (q.phase = .flowing ∨ q.phase.isPaused = true) ∧ q.acc.restrictOn = true := by
  rw [State.restrictOut, load]
  simp

end Sys2Proof.Machine

namespace Sys2Proof.Proofs

open Sys2Proof.Machine

/-- Settles O20: the tests are those of the pulse's verdict, which is carried out by halt, by flush or by going on. -/
theorem deliveryTestsInOrder : Obligations.DeliveryTestsInOrder := by
  unfold Obligations.DeliveryTestsInOrder
  intro s a m r test presented accepted load haltable first
  have open_ : r.phase ≠ .complete := fun h => by simp [h, Phase.haltable] at haltable
  obtain ⟨q, own, marks, -, -, frame⟩ := State.pulse_facts load open_ m
  have load' := State.record_of_occ own
  obtain ⟨qPhase, qReason, qAcc⟩ := LoadRecord.same_of_unmarked marks
  have header : (s.pulse a m).header = (s.pulseVerdict a m r).header := by rw [frame]
  have plain : (s.pulseVerdict a m r).Plain := State.verdict_plain (x := s.accountedRecord a m r) first
    (Phase.ne_halted_of_haltable (LoadRecord.begun_haltable haltable m)) _ a _ _
  have restrictOn : (s.accountedRecord a m r).acc.restrictOn = r.acc.restrictOn :=
    (r.accountsAfter_totals (s.delivery a m) (s.readings a)).2.2.2
  have owed : (s.accountedRecord a m r).acc.owed = r.acc.owed :=
    (r.accountsAfter_totals (s.delivery a m) (s.readings a)).2.2.1
  refine ⟨s.pulse a m, q, exec_meterPulseAcceptance_of_test test presented accepted, load', ?_⟩
  simp only [← LoadRecord.begun_eq]
  refine ⟨?tests, State.pulse_arm own rfl qPhase plain, ?armLines, ?supervisor, ?frame, State.restrictOut_iff load'⟩
  case armLines =>
    rw [frame, qReason, plain.1, qAcc, ← restrictOn]
    rfl
  case supervisor =>
    rw [frame, qReason, plain.1]
  case frame =>
    rw [frame]
  case tests =>
    have halted (why : HaltReason) :=
      (State.haltVerdict_plain (x := s.accountedRecord a m r) first (s.accounted a m r) a why).1
    have saturates := State.pulseVerdict_of_saturating (s := s) (a := a) (m := m) haltable
    have rest := State.pulseVerdict_of_not_saturating (s := s) (a := a) (m := m) haltable
    have overruns := (s.accountedRecord a m r).overruns_eq_true s.settings.allowance
    have flushDue := (s.owingRecord a m r).flushDue_eq_true
    refine iteInduction (motive := fun p : Prop => p) (fun saturating => ?_) fun room => ?_
    · rw [saturates saturating] at qPhase qReason qAcc header
      exact ⟨qPhase, qReason.trans (halted _), congrArg Accounts.restrictOn qAcc, header⟩
    · have verdict := rest room
      refine iteInduction (motive := fun p : Prop => p) (fun beyond => ?_) fun within => ?_
      · rw [verdict, if_pos (overruns.2 beyond)] at qPhase qReason qAcc header
        exact ⟨qPhase, qReason.trans (halted _), congrArg Accounts.restrictOn qAcc, header⟩
      · rw [if_neg fun h => within (overruns.1 h)] at verdict
        refine iteInduction (motive := fun p : Prop => p) (fun authorized => ?_) fun notAuthorized => ?_
        · rw [verdict, if_pos authorized] at qPhase qReason qAcc header
          exact ⟨qPhase.trans authorized, qReason.trans first, congrArg Accounts.owed qAcc,
            (congrArg Accounts.restrictOn qAcc).trans restrictOn, header⟩
        · rw [if_neg notAuthorized] at verdict
          refine iteInduction (motive := fun p : Prop => p) (fun flush => ?_) fun notFlush => ?_
          · rw [verdict, if_pos flush] at qPhase qReason qAcc header
            exact ⟨qPhase.trans flush, qReason.trans first, (congrArg Accounts.owed qAcc).trans owed,
              (congrArg Accounts.restrictOn qAcc).trans restrictOn, header⟩
          · rw [if_neg notFlush, State.blendVerdict] at verdict
            refine iteInduction (motive := fun p : Prop => p) (fun under => ?_) fun notUnder => ?_
            · rw [verdict.trans (if_pos under)] at qPhase qReason qAcc header
              exact ⟨⟨qPhase, qReason.trans (halted _), congrArg Accounts.restrictOn qAcc, header⟩,
                congrArg Accounts.owed qAcc⟩
            · replace verdict := verdict.trans (if_neg notUnder)
              refine iteInduction (motive := fun p : Prop => p) (fun past => ?_) fun notPast => ?_
              · rw [verdict.trans (if_pos past)] at qPhase qReason qAcc header
                exact ⟨⟨qPhase, qReason.trans (halted _), congrArg Accounts.restrictOn qAcc, header⟩,
                  congrArg Accounts.owed qAcc⟩
              · replace verdict := verdict.trans (if_neg notPast)
                refine iteInduction (motive := fun p : Prop => p) (fun flushes => ?_) fun goesOn => ?_
                · rw [verdict, if_pos (flushDue.2 flushes)] at qPhase qReason qAcc header
                  exact ⟨qPhase, qReason.trans first, congrArg Accounts.owed qAcc, congrArg Accounts.restrictOn qAcc, header⟩
                · rw [verdict, if_neg fun h => goesOn (flushDue.1 h)] at qPhase qReason qAcc header
                  exact ⟨qPhase, qReason.trans first, congrArg Accounts.owed qAcc,
                    (congrArg Accounts.restrictOn qAcc).trans (s.owingRecord_restrictAfter a m r),
                    header.trans (s.accounted_ethanolHeader a m r)⟩

end Sys2Proof.Proofs
end


section
/-! The completion of a conversion: temperature, pressure and reference channels (R18, R21 to R31, R122, R123). -/

namespace Sys2Proof.Machine

variable {s t : State} {c : Fin 9} {i : Fin 3} {n : Nat} {code : BitVec 12}

/-! ### The conversion under way -/

theorem exec_scanConversionComplete_of_early (early : s.scan.remaining ≠ 0) :
    exec (.scanConversionComplete code) s = .next s := if_neg early

theorem exec_scanConversionComplete_of_due (due : s.scan.remaining = 0) :
    exec (.scanConversionComplete code) s = .next (s.takeCode code.toNat).nextChannel := if_pos due

theorem State.takeCode_of_temperature (at_ : s.scan.position.val = c.val) (n : Nat) :
    s.takeCode n = s.convertTemperature c n := by
  unfold State.takeCode
  dsimp only
  rw [dif_pos (by rw [at_]; exact c.isLt)]
  exact congrArg (fun d => s.convertTemperature d n) (Fin.ext at_)

theorem State.takeCode_of_pressure (at_ : s.scan.position.val = 9) (n : Nat) : s.takeCode n = s.convertPressure n := by
  unfold State.takeCode
  dsimp only
  rw [dif_neg (by omega), if_pos at_]

theorem State.takeCode_of_reference (at_ : s.scan.position.val = 10 + i.val) (n : Nat) :
    s.takeCode n = s.convertReference i n := by
  unfold State.takeCode
  dsimp only
  rw [dif_neg (by omega), if_neg (by omega)]
  match i with
  | 0 => exact if_pos at_
  | 1 => rw [if_neg (by rw [at_]; decide)]; exact if_pos at_
  | 2 => rw [if_neg (by rw [at_]; decide)]; exact if_neg (by rw [at_]; decide)

/-! ### Temperatures -/

theorem codeValid_eq_true (n : Nat) : codeValid n = true ↔ 40 ≤ n ∧ n ≤ 4056 := by simp [codeValid]

/-- A valid code converts to its temperature, held at 60.0 degrees (R21); none lies below the other bound. -/
theorem TempEntry.convert_eq (e : TempEntry) (n : Nat) : e.convert n =
    { code := some n, value := min 600 (((n / 4 : Nat) : Int) - 400),
      status := if n ≤ 4003 then .good else .clamped } := by
  unfold TempEntry.convert temperatureOf
  dsimp only
  rw [if_neg (by omega)]
  by_cases low : n ≤ 4003
  · rw [if_neg (by omega), if_pos low, min_eq_right (by omega)]
  · rw [if_pos (by omega), if_neg low, min_eq_left (by omega)]

/-- A probe fault is announced where the code before it was none or a valid one (R23). -/
theorem TempEntry.announces_eq_true (e : TempEntry) :
    e.announces = true ↔ ∀ old, e.code = some old → 40 ≤ old ∧ old ≤ 4056 := by
  unfold TempEntry.announces
  cases e.code with
  | none => simp
  | some old => simp [codeValid_eq_true]

theorem State.convertTemperature_of_fault (fault : s.scan.reference = .fault) (c : Fin 9) (n : Nat) :
    s.convertTemperature c n = s := if_pos fault

theorem State.convertTemperature_of_valid (ok : s.scan.reference = .ok) (valid : 40 ≤ n ∧ n ≤ 4056) (c : Fin 9) :
    s.convertTemperature c n =
      { s with scan := { s.scan with temps := s.scan.temps.put c ((s.scan.temps.get c).convert n) } } := by
  unfold State.convertTemperature
  dsimp only
  rw [if_neg (by simp [ok]), if_pos ((codeValid_eq_true n).2 valid)]

theorem State.convertTemperature_of_invalid (ok : s.scan.reference = .ok) (invalid : ¬ (40 ≤ n ∧ n ≤ 4056)) (c : Fin 9) :
    s.convertTemperature c n =
      { s with
        scan := { s.scan with temps := s.scan.temps.put c { s.scan.temps.get c with code := some n, status := .held } }
        supervisor := { s.supervisor with
          notices := if (∀ old, (s.scan.temps.get c).code = some old → 40 ≤ old ∧ old ≤ 4056)
            then raiseIn SupNotice.key (.probeFault c) (some 0) s.supervisor.notices
            else s.supervisor.notices } } := by
  unfold State.convertTemperature
  dsimp only
  rw [if_neg (by simp [ok]), if_neg fun h => invalid ((codeValid_eq_true n).1 h)]
  by_cases announces : ∀ old, (s.scan.temps.get c).code = some old → 40 ≤ old ∧ old ≤ 4056
  · rw [if_pos ((TempEntry.announces_eq_true _).2 announces), if_pos announces]; rfl
  · rw [if_neg fun h => announces ((TempEntry.announces_eq_true _).1 h), if_neg announces]; rfl

/-! ### Pressure -/

/-- The run of readings below the threshold after a reading (R29). -/
def Scan.belowAfter (x : Scan) (code threshold : Nat) : Nat := if code < threshold then min 2 (x.belowRun + 1) else 0

/-- The run of readings at or above the threshold after a reading (R29). -/
def Scan.clearAfter (x : Scan) (code threshold : Nat) : Nat := if code < threshold then 0 else min 2 (x.clearRun + 1)

/-- The pressure state after a reading: two readings of a kind in a row make it (R29). -/
def Scan.pressureAfter (x : Scan) (code threshold : Nat) : PressureState :=
  if x.belowAfter code threshold = 2 then .low else if x.clearAfter code threshold = 2 then .normal else x.pressure

theorem Scan.comparePressure_eq (x : Scan) (code threshold : Nat) : x.comparePressure code threshold =
    { x with pressureCode := some code, belowRun := x.belowAfter code threshold, clearRun := x.clearAfter code threshold,
             pressure := x.pressureAfter code threshold } := by
  unfold Scan.comparePressure Scan.pressureAfter Scan.belowAfter Scan.clearAfter
  by_cases below : code < threshold
  · simp [below]
  · simp [below]

theorem State.convertPressure_of_fault (fault : s.scan.reference = .fault) (n : Nat) : s.convertPressure n = s :=
  if_pos fault

/-- The state with a pressure reading compared, before the Header Arbiter takes a change (R29). -/
def State.compared (s : State) (n : Nat) : State := { s with scan := s.scan.comparePressure n s.header.threshold }

theorem State.convertPressure_of_ok (ok : s.scan.reference = .ok) (n : Nat) :
    s.convertPressure n =
      if s.scan.pressureAfter n s.header.threshold = s.scan.pressure then s.compared n
      else if s.scan.pressureAfter n s.header.threshold = .low then
        (s.compared n).revokeAll.raiseSup .pressureChanged none
      else (s.compared n).grants.raiseSup .pressureChanged none := by
  unfold State.convertPressure
  rw [if_neg (by simp [ok]), Scan.comparePressure_eq, State.compared, Scan.comparePressure_eq]

/-- The header and the loads once every holder has been revoked (R122). -/
theorem State.revokeAll_header (s : State) :
    s.revokeAll.header = { s.header with holders := [], wait := s.header.armsHolding ++ s.header.wait } :=
  s.revokeFrom_header 0

theorem State.revokeAll_arms_get (s : State) (a : Arm) : s.revokeAll.arms.get a = if s.header.holds a = true
    then (s.arms.get a).mapRecord fun r => { r with acc := { r.acc with closedValve := 0 } } else s.arms.get a := by
  rw [State.revokeAll, State.revokeFrom_arms_get]
  exact if_congr (s.header.holds_iff a).symm rfl rfl

/-- A pressure reading taken, with what its change of the pressure state brings (R29, R31, R122, R123). -/
theorem State.convertPressure_outcome (ok : s.scan.reference = .ok) (n : Nat) :
    let t := (s.convertPressure n).nextChannel
    let pressure := s.scan.pressureAfter n s.header.threshold
    t.scan = { s.scan with
      position := s.scan.position + 1, remaining := 200, pressureCode := some n
      belowRun := s.scan.belowAfter n s.header.threshold, clearRun := s.scan.clearAfter n s.header.threshold
      pressure := pressure } ∧
    (pressure = s.scan.pressure → t = { s with scan := t.scan }) ∧
    (pressure ≠ s.scan.pressure →
      t.supervisor =
        { s.supervisor with notices := raiseIn SupNotice.key .pressureChanged none s.supervisor.notices } ∧
      t = { s with scan := t.scan, header := t.header, arms := t.arms, supervisor := t.supervisor } ∧
      (pressure = .low →
        t.header = { s.header with holders := [], wait := s.header.armsHolding ++ s.header.wait } ∧
        ∀ a : Arm, t.arms.get a = if s.header.holds a = true
          then (s.arms.get a).mapRecord fun r => { r with acc := { r.acc with closedValve := 0 } } else s.arms.get a) ∧
      (pressure = .normal → t.arms = s.arms ∧
        t.header = if s.stop.latch = none then s.header.grantAll else s.header)) := by
  have scan : (s.convertPressure n).scan = (s.compared n).scan := by
    rw [State.convertPressure_of_ok ok]
    split
    · rfl
    · split
      · simp
      · simp
  have comparedScan : (s.compared n).scan = _ := s.scan.comparePressure_eq n s.header.threshold
  dsimp only
  refine ⟨?_, fun same => ?_, fun changed => ?_⟩
  · rw [State.nextChannel, scan, comparedScan]
    rfl
  · rw [State.convertPressure_of_ok ok, if_pos same]
    rfl
  · rw [State.convertPressure_of_ok ok, if_neg changed]
    by_cases low : s.scan.pressureAfter n s.header.threshold = .low
    · rw [if_pos low]
      refine ⟨?_, ?_, fun _ => ⟨(s.compared n).revokeAll_header, (s.compared n).revokeAll_arms_get⟩, fun normal => ?_⟩
      · simp [State.compared]
      · refine State.eq_of_fields ?_ ?_ ?_ ?_ ?_ ?_ ?_ ?_ ?_ ?_ ?_ ?_ ?_ ?_ ?_ ?_ ?_ ?_
        all_goals simp [State.compared]
      · rw [low] at normal; cases normal
    · rw [if_neg low]
      refine ⟨?_, ?_, fun h => absurd h low, fun normal => ⟨?_, ?_⟩⟩
      · simp [State.compared]
      · refine State.eq_of_fields ?_ ?_ ?_ ?_ ?_ ?_ ?_ ?_ ?_ ?_ ?_ ?_ ?_ ?_ ?_ ?_ ?_ ?_
        all_goals simp [State.compared]
      · simp [State.compared]
      · have open_ : (s.compared n).gatesOpen = true ↔ s.stop.latch = none := by
          rw [State.gatesOpen_iff, comparedScan]
          simp [normal, State.compared]
        rw [State.nextChannel_header, State.raiseSup_header, State.grants_header]
        exact if_congr open_ rfl rfl

/-! ### References -/

theorem inWindow_eq (i : Fin 3) (n : Nat) : inWindow i n =
    if i = 0 then decide (370 ≤ n ∧ n ≤ 450)
    else if i = 1 then decide (2008 ≤ n ∧ n ≤ 2088) else decide (3646 ≤ n ∧ n ≤ 3726) := by
  match i with
  | 0 => exact (Bool.decide_and ..).symm
  | 1 => exact (Bool.decide_and ..).symm
  | 2 => exact (Bool.decide_and ..).symm

theorem Scan.allIn_eq_true (x : Scan) : x.allIn = true ↔ ∀ j : Fin 3, (x.refs.get j).inWindow = some true := by
  simp [Scan.allIn]

/-- The scan with a reference's code and its place taken (R25). -/
def Scan.referred (x : Scan) (i : Fin 3) (n : Nat) : Scan :=
  { x with refs := x.refs.put i { code := some n, inWindow := some (inWindow i n) } }

theorem State.convertReference_of_out (ok : s.scan.reference = .ok) (out : inWindow i n = false) :
    s.convertReference i n =
      State.raiseSup { s with scan := (s.scan.referred i n).enterFault } .referenceChanged none := by
  unfold State.convertReference
  dsimp only
  rw [if_pos ok, if_neg (by simp [out])]
  rfl

theorem State.convertReference_of_within (ok : s.scan.reference = .ok) (within : inWindow i n = true) :
    s.convertReference i n = { s with scan := s.scan.referred i n } := by
  unfold State.convertReference
  dsimp only
  rw [if_pos ok, if_pos within]
  rfl

theorem State.convertReference_of_allIn (fault : s.scan.reference = .fault) (last : i = 2)
    (allIn : ∀ j : Fin 3, ((s.scan.referred i n).refs.get j).inWindow = some true) :
    s.convertReference i n =
      State.raiseSup { s with scan := { s.scan.referred i n with reference := .ok } } .referenceChanged none := by
  unfold State.convertReference
  dsimp only
  rw [if_neg (by simp [fault])]
  exact if_pos ⟨last, (Scan.allIn_eq_true _).2 allIn⟩

theorem State.convertReference_of_stays (fault : s.scan.reference = .fault)
    (other : i ≠ 2 ∨ ¬ ∀ j : Fin 3, ((s.scan.referred i n).refs.get j).inWindow = some true) :
    s.convertReference i n = { s with scan := s.scan.referred i n } := by
  unfold State.convertReference
  dsimp only
  rw [if_neg (by simp [fault])]
  refine if_neg fun h => ?_
  obtain notLast | notAll := other
  · exact notLast h.1
  · exact notAll ((Scan.allIn_eq_true _).1 h.2)

end Sys2Proof.Machine

namespace Sys2Proof.Proofs

open Sys2Proof.Machine

/-- Settles O24: a temperature code converts, holds its entry, or is discarded in a reference fault. -/
theorem temperatureConversion : Obligations.TemperatureConversion := by
  unfold Obligations.TemperatureConversion
  refine fun s c code => ⟨exec_scanConversionComplete_of_early, fun due position => ⟨fun fault => ?_, fun ok low high => ?_,
    fun ok invalid => ?_⟩⟩
  · rw [exec_scanConversionComplete_of_due due, State.takeCode_of_temperature position, State.convertTemperature_of_fault fault]
    rfl
  · rw [exec_scanConversionComplete_of_due due, State.takeCode_of_temperature position,
      State.convertTemperature_of_valid ok ⟨low, high⟩, TempEntry.convert_eq]
    rfl
  · rw [exec_scanConversionComplete_of_due due, State.takeCode_of_temperature position,
      State.convertTemperature_of_invalid ok (by omega)]
    rfl

/-- Settles O25: the reading is compared, and a change of the pressure state revokes every holder or grants. -/
theorem pressureConversion : Obligations.PressureConversion := by
  unfold Obligations.PressureConversion
  refine fun s code due position => ⟨fun fault => ?_, fun ok => ?_⟩
  · rw [exec_scanConversionComplete_of_due due, State.takeCode_of_pressure position, State.convertPressure_of_fault fault]
    rfl
  · refine ⟨_, exec_scanConversionComplete_of_due due, ?_⟩
    rw [State.takeCode_of_pressure position]
    simp only [decide_eq_true_eq]
    exact State.convertPressure_outcome ok code.toNat

/-- Settles O26: a reference code outside its window sets the fault, and channel 12 with all three inside ends it. -/
theorem referenceConversion : Obligations.ReferenceConversion := by
  unfold Obligations.ReferenceConversion
  intro s i code due position
  rw [exec_scanConversionComplete_of_due due, State.takeCode_of_reference position, ← inWindow_eq]
  refine ⟨fun ok out => ?_, fun fault last allIn => ?_, ?_⟩
  · rw [State.convertReference_of_out ok out]; rfl
  · rw [State.convertReference_of_allIn fault last allIn]; rfl
  · rintro (⟨ok, within⟩ | ⟨fault, other⟩)
    · rw [State.convertReference_of_within ok within]; rfl
    · rw [State.convertReference_of_stays fault other]; rfl

end Sys2Proof.Proofs
end


section
/-! Requests answered: the shape that every answer has, and the requests of the meters, of the header's settings, of a unit's
settings and of the line counters (R14 to R16, R115, R116, R124, R125, R127, R128, R149, R186). -/

namespace Sys2Proof.Machine

variable {s t : State} {l : Line} {c : Instr} {type : Nat} {x : Answer} {code : ReplyCode} {fields : List Byte}

/-! ### The shape of an answer -/

/-- A waiting request that its owner decides as `t`, `code` and `fields` is answered so. -/
theorem State.next_serve (waits : s.awaits l c) (answer : x = { state := t, code := code, fields := fields }) :
    Host.Outcome.next (s.serve l c type x) =
      (.next (t.answered l c type code fields) : Host.Outcome State Fault Refusal) := by
  rw [State.serve_answered waits (by rw [answer]), answer]

theorem adjustedIf_eq_ite {b : Bool} {p : Prop} [Decidable p] (iff : b = true ↔ p) :
    adjustedIf b = if p then .adjusted else .accepted := if_congr iff rfl rfl

theorem adjustedIf_eq_ite_not {b : Bool} {p : Prop} [Decidable p] (iff : b = true ↔ ¬p) :
    adjustedIf b = if p then .accepted else .adjusted := by
  rw [adjustedIf_eq_ite iff, ite_not]

/-! ### SET METERS and READ METERS -/

variable {arm kb ke fb fe mb me : Nat} {a : Arm}

theorem kFactorValid_eq_true (k : Nat) : kFactorValid k = true ↔ 100 ≤ k ∧ k ≤ 500000 := by simp [kFactorValid]

theorem State.setMeters_of_range (out : 8 ≤ arm) : s.setMeters arm kb ke fb fe mb me = s.reply .refusedRange [] :=
  dif_neg (by omega)

theorem State.setMeters_of_inUse (service : (s.arms.get a).occ ≠ .outOfService) :
    s.setMeters a.val kb ke fb fe mb me = s.reply .inUse [] :=
  (dif_pos a.isLt).trans (if_pos service)

theorem State.setMeters_of_invalid (out : (s.arms.get a).occ = .outOfService)
    (invalid : kb < 100 ∨ 500000 < kb ∨ ke < 100 ∨ 500000 < ke ∨ 3 < fb ∨ 3 < fe) :
    s.setMeters a.val kb ke fb fe mb me = s.reply .refusedRange [] := by
  refine (dif_pos a.isLt).trans ((if_neg (not_not.2 out)).trans (if_pos ?_))
  simp only [Bool.or_eq_true, Bool.not_eq_true', decide_eq_true_eq, Bool.eq_false_iff, ne_eq, Bool.and_eq_true,
    kFactorValid_eq_true]
  omega

/-- SET METERS' answer for an arm out of service and settings in range (R14, R15). -/
theorem State.setMeters_of_valid (out : (s.arms.get a).occ = .outOfService)
    (base : 100 ≤ kb ∧ kb ≤ 500000) (ethanol : 100 ≤ ke ∧ ke ≤ 500000) (filters : fb ≤ 3 ∧ fe ≤ 3) :
    s.setMeters a.val kb ke fb fe mb me =
      { state := s.modMeters a fun x =>
          { x with base := x.base.configure kb fb (clamp 1 1000 mb)
                   ethanol := x.ethanol.configure ke fe (clamp 1 1000 me) }
        code := adjustedIf (decide (clamp 1 1000 mb ≠ mb) || decide (clamp 1 1000 me ≠ me))
        fields := u8 a.val ++ u32 kb ++ u32 ke ++ u8 fb ++ u8 fe ++ u16 (clamp 1 1000 mb) ++ u16 (clamp 1 1000 me) } := by
  refine (dif_pos a.isLt).trans ((if_neg (not_not.2 out)).trans (if_neg ?_))
  simp only [Bool.or_eq_true, Bool.not_eq_true', decide_eq_true_eq, Bool.eq_false_iff, ne_eq, Bool.and_eq_true,
    kFactorValid_eq_true]
  omega

/-! ### SET UNIT -/

variable {unit shot low timeout settle : Nat} {u : UnitNo}

theorem State.setUnit_of_range (out : 4 ≤ unit) : s.setUnit unit shot low timeout settle = s.reply .refusedRange [] :=
  dif_neg (by omega)

theorem State.setUnit_of_inUse (service : (s.units.get u).state ≠ .offline) :
    s.setUnit u.val shot low timeout settle = s.reply .inUse [] :=
  (dif_pos u.isLt).trans (if_pos service)

theorem State.setUnit_of_invalid (offline : (s.units.get u).state = .offline) (invalid : shot < 1 ∨ 200 < shot) :
    s.setUnit u.val shot low timeout settle = s.reply .refusedRange [] :=
  (dif_pos u.isLt).trans ((if_neg (not_not.2 offline)).trans (if_pos invalid))

/-- The low mark evaluated in closed form (R146). -/
theorem State.evalLow_eq (s : State) (u : UnitNo) : s.evalLow u = { s with
    units := s.units.upd u fun x => { x with lowMark := decide (x.inventory < x.low) }
    supervisor := { s.supervisor with
      notices := if decide ((s.units.get u).inventory < (s.units.get u).low) = true ∧ (s.units.get u).lowMark = false
        then raiseIn SupNotice.key (.unitLow u) (some (s.units.get u).inventory) s.supervisor.notices
        else s.supervisor.notices } } := by
  have mark : s.units.upd u (fun x => { x with lowMark := decide (x.inventory < x.low) }) =
      s.units.upd u fun x => { x with lowMark := decide ((s.units.get u).inventory < (s.units.get u).low) } :=
    Bank.upd_congr _ _ rfl
  rw [mark]
  by_cases falls : (decide ((s.units.get u).inventory < (s.units.get u).low) && !(s.units.get u).lowMark) = true
  · rw [if_pos (by simpa using falls)]
    exact if_pos falls
  · rw [if_neg (by simpa using falls)]
    exact if_neg falls

/-- SET UNIT's answer for an OFFLINE unit and a shot volume in range (R149). -/
theorem State.setUnit_of_valid (offline : (s.units.get u).state = .offline) (valid : 1 ≤ shot ∧ shot ≤ 200) :
    s.setUnit u.val shot low timeout settle =
      { state := State.evalLow (s.modUnit u fun y => y.configure shot low timeout settle) u
        code := adjustedIf (decide (clamp 0 100000000 low ≠ low) || decide (clamp 100 5000 timeout ≠ timeout) ||
          decide (clamp 0 2000 settle ≠ settle))
        fields := u8 shot ++ u32 (clamp 0 100000000 low) ++ u16 (clamp 100 5000 timeout) ++ u16 (clamp 0 2000 settle) } :=
  (dif_pos u.isLt).trans ((if_neg (not_not.2 offline)).trans (if_neg (by omega)))

/-! ### SET HEADER -/

variable {slots hold flow alpha threshold : Nat}

theorem State.revokeFrom_eq (s : State) (n : Nat) : ∃ b : Bank 8 ArmCtl, s.revokeFrom n = { s with
    header := { s.header with holders := s.header.holders.take n, wait := s.header.armsHolding.drop n ++ s.header.wait }
    arms := b } ∧
    ∀ a : Arm, b.get a = if a ∈ s.header.armsHolding.drop n
      then (s.arms.get a).mapRecord fun r => { r with acc := { r.acc with closedValve := 0 } }
      else s.arms.get a := by
  refine ⟨(s.revokeFrom n).arms, ?_, s.revokeFrom_arms_get n⟩
  refine State.eq_of_fields ?_ ?_ ?_ ?_ ?_ ?_ ?_ ?_ ?_ ?_ ?_ ?_ ?_ ?_ ?_ ?_ ?_ ?_
  all_goals simp [Header.armsHolding, List.map_drop]

/-- SET HEADER's reply code (R127). -/
theorem State.setHeader_code : (s.setHeader slots hold flow alpha threshold).code =
    if clamp 1 8 slots = slots ∧ clamp 5 600 hold = hold ∧ clamp 1 60 flow = flow ∧ clamp 0 2000 alpha = alpha ∧
      clamp 0 4095 threshold = threshold then .accepted else .adjusted := by
  refine adjustedIf_eq_ite_not ?_
  simp only [Bool.or_eq_true, decide_eq_true_eq]
  simp only [Header.configure]
  tauto

/-- The header with the five settings of SET HEADER (R127). -/
theorem State.setHeader_eq : s.setHeader slots hold flow alpha threshold =
    { state := State.slotsChanged { s with header := s.header.configure slots hold flow alpha threshold } s.header.slots
      code := (s.setHeader slots hold flow alpha threshold).code
      fields := (s.header.configure slots hold flow alpha threshold).report } := rfl

end Sys2Proof.Machine

namespace Sys2Proof.Proofs

open Sys2Proof.Machine

/-- Settles O23: SET METERS is refused by the first check that fails, or takes its settings clamped, and READ METERS reports
before it clears. -/
theorem meterRequests : Obligations.MeterRequests := by
  unfold Obligations.MeterRequests
  refine fun s arm kb ke fb fe mb me => ⟨fun waits => ⟨fun out => ?range, ?arms⟩, fun waits => ⟨fun out => ?readRange, ?read⟩⟩
  case range => exact State.next_serve waits (State.setMeters_of_range out)
  case arms =>
    rintro a rfl
    refine ⟨fun service => State.next_serve waits (State.setMeters_of_inUse service),
      fun out invalid => State.next_serve waits (State.setMeters_of_invalid out invalid), fun out b1 b2 e1 e2 f1 f2 => ?_⟩
    refine State.next_serve waits ((State.setMeters_of_valid out ⟨b1, b2⟩ ⟨e1, e2⟩ ⟨f1, f2⟩).trans ?_)
    rw [adjustedIf_eq_ite (p := clamp 1 1000 mb ≠ mb ∨ clamp 1 1000 me ≠ me) (by simp)]
    rfl
  case readRange => exact State.next_serve waits (dif_neg (by omega))
  case read =>
    rintro a rfl
    exact State.next_serve waits (dif_pos a.isLt)

/-- Settles O42: the grants in closed form take the queue's head, as far as slots are free. -/
theorem grantsInQueueOrder : Obligations.GrantsInQueueOrder := by
  unfold Obligations.GrantsInQueueOrder
  refine fun h => ⟨h.grantAll_armsHolding_append_wait, ?_, ?_, fun x granted => ?_, ?_, Header.grantAll_fits,
    h.grantAll_slots⟩
  · rw [Header.grantAll_eq]; exact List.prefix_append _ _
  · rw [Header.grantAll_eq]; exact List.drop_suffix _ _
  · rw [Header.grantAll_eq, List.mem_append, List.mem_map] at granted
    refine granted.imp_right ?_
    rintro ⟨a, waits, rfl⟩
    exact ⟨List.mem_of_mem_take waits, rfl, rfl⟩
  · simp only [Header.grantAll_eq, List.drop_eq_nil_iff, List.length_append, List.length_map, List.length_take]
    omega

/-- Settles O43: a slot count as before leaves the two collections, a raised one grants, and a lowered one revokes. -/
theorem setHeaderTakesEffect : Obligations.SetHeaderTakesEffect := by
  unfold Obligations.SetHeaderTakesEffect
  intro s slots hold flow alpha threshold c waits h code fields
  have configured : s.header.configure slots hold flow alpha threshold = h := by
    simp only [h, Header.configure, clamp_zero]; rfl
  have answer {t : State} (state : State.slotsChanged { s with header := h } s.header.slots = t) :
      s.setHeader slots hold flow alpha threshold = { state := t, code := code, fields := fields } := by
    rw [State.setHeader_eq, State.setHeader_code, configured, state]
    simp only [clamp_zero]
    rfl
  refine ⟨fun same => ?_, fun raised => ?_, fun lowered => ?_⟩
  · refine State.next_serve waits (answer ?_)
    exact (if_neg (same ▸ lt_irrefl _)).trans (if_neg (same ▸ lt_irrefl _))
  · refine State.next_serve waits (answer ((if_neg (lt_asymm raised)).trans ((if_pos raised).trans ?_)))
    rw [State.grants_eq]
  · obtain ⟨b, revoked, arms⟩ := State.revokeFrom_eq { s with header := h } h.slots
    exact ⟨b, State.next_serve waits (answer ((if_pos lowered).trans revoked)), arms⟩

/-- Settles O46: SET UNIT is refused by the first check that fails, or takes its settings clamped and evaluates the low
mark. -/
theorem setUnitByChecks : Obligations.SetUnitByChecks := by
  unfold Obligations.SetUnitByChecks
  refine fun s unit shot low tmo st waits => ⟨fun out => State.next_serve waits (State.setUnit_of_range out), ?_⟩
  rintro u rfl
  refine ⟨fun service => State.next_serve waits (State.setUnit_of_inUse service),
    fun offline invalid => State.next_serve waits (State.setUnit_of_invalid offline (by omega)),
    fun offline least most => State.next_serve waits ((State.setUnit_of_valid offline ⟨least, most⟩).trans ?_)⟩
  rw [adjustedIf_eq_ite_not (p := clamp 0 100000000 low = low ∧ clamp 100 5000 tmo = tmo ∧ clamp 0 2000 st = st)
    (by simp only [Bool.or_eq_true, decide_eq_true_eq]; tauto), State.evalLow_eq]
  simp only [clamp_zero, State.modUnit_units, Bank.get_upd_same, Bank.upd_upd]
  simp only [AdditiveUnit.configure, clamp_zero]
  rfl

/-- Settles O58: the counters are reported before they are set to 0. -/
theorem readLinesClears : Obligations.ReadLinesClears := by
  unfold Obligations.ReadLinesClears
  refine fun s waits => ⟨s.clearCounters, State.next_serve waits rfl, rfl, fun n => ?_, rfl⟩
  exact Bank.get_tab _ n

end Sys2Proof.Proofs
end


section
/-! The stop latch: accepted edges of the stop inputs, SET STOP INPUTS and TERMINAL RESUME (R170 to R172, R174 to R176). -/

namespace Sys2Proof.Machine

variable {s : State} {h : LatchHold} {i : StopNo} {c : StopCause} {e0 e1 e2 e3 : Nat}

/-! ### The setting of the latch -/

/-- Every permissive is deasserted while the latch is SET (R83). -/
theorem State.permissive_of_set (latch : s.stop.latch = some h) (a : Arm) : s.permissive a = false := by
  unfold State.permissive
  cases s.record a with
  | none => rfl
  | some r => simp [latch]

/-- All that the setting of a CLEAR latch brings (R83, R172, R174, R176). -/
theorem State.setLatch_effects (clear : s.stop.latch = none) (c : StopCause) :
    (s.setLatch c).stop = { inputs := s.stop.inputs, latch := some { cause := c, time := s.clock } } ∧
    (∀ a : Arm, (s.setLatch c).arms.get a = (s.arms.get a).mapRecord fun r =>
      if r.phase.haltable then { r with stopHalt := true } else r) ∧
    (s.setLatch c).supervisor =
      { s.supervisor with notices := raiseIn SupNotice.key .stopChanged none s.supervisor.notices } ∧
    (∀ a : Arm, (s.setLatch c).armLines.get a = if (s.arms.get a).occ = .outOfService then s.armLines.get a
      else { s.armLines.get a with
        notices := raiseIn ArmNotice.key .terminalStopChanged none (s.armLines.get a).notices }) ∧
    s.setLatch c = { s with
      stop := (s.setLatch c).stop, arms := (s.setLatch c).arms
      supervisor := (s.setLatch c).supervisor, armLines := (s.setLatch c).armLines } ∧
    ∀ a : Arm, (s.setLatch c).permissive a = false := by
  have stop := State.setLatch_stop clear c
  exact ⟨stop, State.setLatch_arms_get clear c, State.setLatch_supervisor clear c, State.setLatch_armLines_get clear c,
    s.setLatch_eq_with c, State.permissive_of_set (congrArg StopLatch.latch stop)⟩

/-! ### The stop condition -/

theorem StopLatch.condition_eq_true (l : StopLatch) :
    l.condition = true ↔ ∃ i : StopNo, (l.inputs.get i).enabled = true ∧ (l.inputs.get i).accepted = false := by
  simp [StopLatch.condition, StopInput.active]

theorem StopLatch.firstActive_eq_some (l : StopLatch)
    (active : (l.inputs.get i).enabled = true ∧ (l.inputs.get i).accepted = false)
    (lowest : ∀ j < i, ((l.inputs.get j).enabled && !(l.inputs.get j).accepted) = false) : l.firstActive = some i := by
  refine List.find?_eq_some_iff_getElem.2 ⟨by simp [StopInput.active, active], i.val, by simp, by simp, fun j below => ?_⟩
  rw [List.getElem_finRange, Bool.not_eq_true']
  exact lowest ⟨j, _⟩ below

theorem StopLatch.firstActive_eq_none (l : StopLatch)
    (quiet : ∀ j, ((l.inputs.get j).enabled && !(l.inputs.get j).accepted) = false) : l.firstActive = none :=
  List.find?_eq_none.2 fun j _ => by simpa [StopInput.active] using quiet j

/-! ### The fields of a reply -/

theorem u8_bitCode (b : Bool) : u8 (bitCode b) = if b = true then [1] else [0] := by cases b with | _ => rfl

theorem u8_enableCode (b : Bool) : u8 (enableCode b) = if b = true then [0] else [1] := by cases b with | _ => rfl

theorem enableCode_decide {e : Nat} (valid : e ≤ 1) : enableCode (decide (e = 0)) = e := by
  obtain rfl | rfl : e = 0 ∨ e = 1 := by omega
  · rfl
  · rfl

theorem StopLatch.levels_eq (l : StopLatch) : l.levels =
    [if (l.inputs.get 0).accepted = true then 1 else 0, if (l.inputs.get 1).accepted = true then 1 else 0,
      if (l.inputs.get 2).accepted = true then 1 else 0, if (l.inputs.get 3).accepted = true then 1 else 0] := by
  have level (i : StopNo) : u8 (bitCode (l.inputs.get i).accepted) = [if (l.inputs.get i).accepted = true then 1 else 0] := by
    rw [u8_bitCode, apply_ite fun n : Byte => [n]]
  simp only [StopLatch.levels, level]
  rfl

theorem StopLatch.inputsReport_eq (l : StopLatch) : l.inputsReport = (List.finRange 4).flatMap fun i =>
    (if (l.inputs.get i).accepted = true then [1] else [0]) ++ (if (l.inputs.get i).enabled = true then [0] else [1]) := by
  simp only [StopLatch.inputsReport, u8_bitCode, u8_enableCode]

/-! ### SET STOP INPUTS -/

/-- Which enable a request carries for an input (R171). -/
theorem enablesTaken_eq (e0 e1 e2 e3 : Nat) (i : StopNo) : enablesTaken e0 e1 e2 e3 i =
    decide ((if i = 0 then e0 else if i = 1 then e1 else if i = 2 then e2 else e3) = 0) := by
  match i with
  | 0 | 1 | 2 | 3 => rfl

/-- The state with the four enables of a request taken, before the latch is looked at (R171). -/
def State.withEnables (s : State) (e0 e1 e2 e3 : Nat) : State :=
  { s with stop := s.stop.enable (enablesTaken e0 e1 e2 e3) }

theorem State.withEnables_eq (s : State) (e0 e1 e2 e3 : Nat) : s.withEnables e0 e1 e2 e3 = { s with stop :=
    { inputs := Bank.tab fun i => { s.stop.inputs.get i with
        enabled := decide ((if i = 0 then e0 else if i = 1 then e1 else if i = 2 then e2 else e3) = 0) }
      latch := s.stop.latch } } := by
  simp only [State.withEnables, StopLatch.enable, enablesTaken_eq]

/-- The enables and the levels that the reply carries (R171). -/
theorem State.withEnables_report (v0 : e0 ≤ 1) (v1 : e1 ≤ 1) (v2 : e2 ≤ 1) (v3 : e3 ≤ 1) :
    (s.withEnables e0 e1 e2 e3).stop.enables ++ (s.withEnables e0 e1 e2 e3).stop.levels =
      u8 e0 ++ u8 e1 ++ u8 e2 ++ u8 e3 ++
      [if (s.stop.inputs.get 0).accepted = true then 1 else 0, if (s.stop.inputs.get 1).accepted = true then 1 else 0,
        if (s.stop.inputs.get 2).accepted = true then 1 else 0, if (s.stop.inputs.get 3).accepted = true then 1 else 0] := by
  have enables : (s.withEnables e0 e1 e2 e3).stop.enables = u8 (enableCode (decide (e0 = 0))) ++
      u8 (enableCode (decide (e1 = 0))) ++ u8 (enableCode (decide (e2 = 0))) ++ u8 (enableCode (decide (e3 = 0))) := rfl
  rw [enables, enableCode_decide v0, enableCode_decide v1, enableCode_decide v2, enableCode_decide v3, StopLatch.levels_eq]
  rfl

theorem State.setStopInputs_of_range (out : 1 < e0 ∨ 1 < e1 ∨ 1 < e2 ∨ 1 < e3) :
    s.setStopInputs e0 e1 e2 e3 = s.reply .refusedRange [] := if_pos out

/-- SET STOP INPUTS' answer where the enables leave the state `t` (R171). -/
theorem State.setStopInputs_of_valid {t : State} (v0 : e0 ≤ 1) (v1 : e1 ≤ 1) (v2 : e2 ≤ 1) (v3 : e3 ≤ 1)
    (taken : (s.withEnables e0 e1 e2 e3).stopByEnable = t) (inputs : t.stop.inputs = (s.withEnables e0 e1 e2 e3).stop.inputs) :
    s.setStopInputs e0 e1 e2 e3 =
      { state := t, code := .accepted
        fields := (s.withEnables e0 e1 e2 e3).stop.enables ++ (s.withEnables e0 e1 e2 e3).stop.levels ++
          u8 (latchCode t.stop.latch) ++ opt8 (latchCause t.stop.latch) } := by
  have enables : t.stop.enables = (s.withEnables e0 e1 e2 e3).stop.enables := by simp only [StopLatch.enables, inputs]
  have levels : t.stop.levels = (s.withEnables e0 e1 e2 e3).stop.levels := by simp only [StopLatch.levels, inputs]
  refine (if_neg (by omega)).trans ?_
  rw [← enables, ← levels, ← taken]
  rfl

/-! ### TERMINAL RESUME -/

theorem State.clearLatch_header (s : State) :
    s.clearLatch.header = if s.scan.pressure = .normal then s.header.grantAll else s.header := by
  refine (State.grants_header _).trans (if_congr ?_ rfl rfl)
  simp [State.gatesOpen_iff]

theorem State.clearLatch_eq_with (s : State) : s.clearLatch = { s with
    stop := s.clearLatch.stop, header := s.clearLatch.header
    supervisor := s.clearLatch.supervisor, armLines := s.clearLatch.armLines } := by
  refine State.eq_of_fields ?_ ?_ ?_ ?_ ?_ ?_ ?_ ?_ ?_ ?_ ?_ ?_ ?_ ?_ ?_ ?_ ?_ ?_
  all_goals simp

end Sys2Proof.Machine

namespace Sys2Proof.Proofs

open Sys2Proof.Machine

/-- Settles O51: the edge taken, the latch sets where the input is enabled and active and the latch is CLEAR. -/
theorem stopInputEdges : Obligations.StopInputEdges := by
  unfold Obligations.StopInputEdges
  intro s i test differs
  have edge : exec (.stopInputAcceptedEdge i) s = _ := if_pos ⟨test, differs⟩
  refine ⟨fun quiet => ?_, fun low enabled clear => ?_⟩
  · rw [edge]
    by_cases sets : (s.stop.inputs.get i).presented = false ∧ (s.stop.inputs.get i).enabled = true
    · obtain ⟨h, latch⟩ := Option.ne_none_iff_exists'.1
        ((quiet.resolve_left (by simp [sets.1])).resolve_left (by simp [sets.2]))
      exact (if_pos sets).trans (congrArg Host.Outcome.next (State.setLatch_of_set
        (s := s.modStop i fun y => { y with accepted := y.presented, test := none }) latch _))
    · exact if_neg sets
  · have taken : s.stop.inputs.upd i (fun x => { x with accepted := x.presented, test := none }) =
        s.stop.inputs.upd i fun x => { x with accepted := false, test := none } :=
      Bank.upd_congr _ _ (by rw [low])
    refine ⟨_, edge.trans (if_pos ⟨low, enabled⟩), ?_⟩
    rw [← taken]
    exact State.setLatch_effects (s := s.modStop i fun y => { y with accepted := y.presented, test := none }) clear (.input i)

/-- Settles O52: the enables taken, the lowest enabled active input sets the latch if it is CLEAR. -/
theorem setStopInputsEnables : Obligations.SetStopInputsEnables := by
  unfold Obligations.SetStopInputsEnables
  intro s e0 e1 e2 e3 c waits
  refine ⟨fun out => State.next_serve waits (State.setStopInputs_of_range (by omega)), fun v0 v1 v2 v3 => ?_⟩
  intro enabled active level inputs sent
  have taken : s.withEnables e0 e1 e2 e3 = { s with stop := { inputs := inputs, latch := s.stop.latch } } :=
    s.withEnables_eq e0 e1 e2 e3
  have isActive (j : StopNo) : (((s.withEnables e0 e1 e2 e3).stop.inputs.get j).enabled &&
      !((s.withEnables e0 e1 e2 e3).stop.inputs.get j).accepted) = active j := by
    rw [taken, Bank.get_tab]
  have sentEq : (s.withEnables e0 e1 e2 e3).stop.enables ++ (s.withEnables e0 e1 e2 e3).stop.levels = sent :=
    State.withEnables_report v0 v1 v2 v3
  refine ⟨fun h latch => ?set, fun clear quiet => ?clear, fun i clear isOn lowest => ?sets⟩
  case set =>
    have kept : (s.withEnables e0 e1 e2 e3).stopByEnable = s.withEnables e0 e1 e2 e3 := by
      unfold State.stopByEnable
      split
      · rfl
      · exact State.setLatch_of_set (s := s.withEnables e0 e1 e2 e3) latch _
    refine State.next_serve waits ((State.setStopInputs_of_valid v0 v1 v2 v3 kept rfl).trans ?_)
    rw [sentEq, taken]
    simp only [latch]
    rfl
  case clear =>
    have kept : (s.withEnables e0 e1 e2 e3).stopByEnable = s.withEnables e0 e1 e2 e3 := by
      unfold State.stopByEnable
      rw [StopLatch.firstActive_eq_none _ fun j => (isActive j).trans (quiet j)]
    refine State.next_serve waits ((State.setStopInputs_of_valid v0 v1 v2 v3 kept rfl).trans ?_)
    rw [sentEq, taken]
    simp only [clear]
    rfl
  case sets =>
    have kept : (s.withEnables e0 e1 e2 e3).stopByEnable = (s.withEnables e0 e1 e2 e3).setLatch (.input i) := by
      unfold State.stopByEnable
      rw [StopLatch.firstActive_eq_some _ (by simpa using (isActive i).trans isOn)
        fun j below => (isActive j).trans (lowest j below)]
    have effects := State.setLatch_effects (s := s.withEnables e0 e1 e2 e3) clear (.input i)
    refine ⟨(s.withEnables e0 e1 e2 e3).setLatch (.input i), State.next_serve waits
      ((State.setStopInputs_of_valid v0 v1 v2 v3 kept (by rw [effects.1])).trans ?_), ?_⟩
    · rw [sentEq, effects.1]
      rfl
    · rw [taken] at effects ⊢
      exact effects

/-- Settles O54: a CLEAR latch stays, a stop condition keeps the latch SET, and without one it clears. -/
theorem terminalResumeClears : Obligations.TerminalResumeClears := by
  unfold Obligations.TerminalResumeClears
  intro s waits holds inputs
  have report : s.stop.inputsReport = inputs := s.stop.inputsReport_eq
  refine ⟨fun clear => ?clear, fun h latch active => ?active, fun h latch quiet => ⟨s.clearLatch, ?quiet, ?_⟩⟩
  case clear =>
    refine State.next_serve waits ((if_pos (by rw [clear]; rfl)).trans ?_)
    rw [report, clear]
    rfl
  case active =>
    refine State.next_serve waits ((if_neg (by rw [latch]; exact Bool.false_ne_true)).trans ((if_pos
      (s.stop.condition_eq_true.2 active)).trans ?_))
    dsimp only
    rw [report, latch]
    rfl
  case quiet =>
    refine State.next_serve waits ((if_neg (by rw [latch]; exact Bool.false_ne_true)).trans ((if_neg
      fun active => quiet (s.stop.condition_eq_true.1 active)).trans ?_))
    have cleared : s.clearLatch.stop = { s.stop with latch := none } := by simp [State.clearLatch]
    dsimp only
    rw [cleared, ← report, latch]
    rfl
  · refine ⟨?_, s.clearLatch_header, ?_, fun a => ?_, s.clearLatch_eq_with, ?_⟩
    all_goals simp [State.clearLatch]

end Sys2Proof.Proofs
end


section
/-! The requests of the Recipe Table, of arm service and AUTHORIZE, each decided by its checks in order (R38 to R42, R73, R85,
R86). -/

namespace Sys2Proof.Machine

variable {s : State} {a : Arm} {e : EntryNo} {f : RecipeFields}

/-! ### DEFINE RECIPE and WITHDRAW RECIPE -/

/-- The fields lie in the ranges of R39, said with the connectives of the rule. -/
theorem recipeInRange_eq_true (f : RecipeFields) : recipeInRange f = true ↔
    1 ≤ f.code ∧ f.code ≤ 65535 ∧ f.ratio ≤ 8500 ∧ 5 ≤ f.tolerance ∧ f.tolerance ≤ 500 ∧
    f.alpha ≤ 2000 ∧ f.flush ≤ 500 ∧ 100 ≤ f.step ∧ f.step ≤ 20000 ∧ 1000 ≤ f.restrict ∧ f.restrict ≤ 100000 ∧
    2000 ≤ f.hard ∧ f.hard ≤ 200000 ∧ f.items.length ≤ 4 ∧
    (∀ i ∈ f.items, i.unit ≤ 3 ∧ 1 ≤ i.rate ∧ i.rate ≤ 5000 ∧ i.required ≤ 1) ∧
    1 ≤ f.permitted ∧ f.permitted ≤ 255 ∧ (f.items.map AdditiveField.unit).Nodup ∧
    f.step < f.restrict ∧ f.restrict < f.hard := by
  simp only [recipeInRange, additiveInRange, Bool.and_eq_true, decide_eq_true_eq, List.all_eq_true, and_assoc]

theorem State.codeTaken_eq_true (s : State) (e : EntryNo) (code : Nat) : s.codeTaken e code = true ↔
    ∃ j : EntryNo, j ≠ e ∧ (s.recipes.get j).state = .active ∧ (s.recipes.get j).code = code := by
  simp [State.codeTaken, and_assoc]

theorem State.defineRecipe_of_range (out : 32 ≤ f.entry) : s.defineRecipe f = s.reply .refusedRange (u8 f.entry) :=
  dif_neg (by omega)

/-- DEFINE RECIPE's checks that follow the entry number's (R38). -/
theorem State.defineRecipe_of_entry (entry : e.val = f.entry) : s.defineRecipe f =
    if (s.recipes.get e).state ≠ .empty then s.reply .inUse (u8 f.entry)
    else if !recipeInRange f then s.reply .refusedRange (u8 f.entry)
    else if s.codeTaken e f.code then s.reply .duplicateCode (u8 f.entry)
    else
      { state := { s with recipes := s.recipes.upd e fun x => x.define f },
        code := .accepted, fields := u8 f.entry ++ u8 (nextRevision (s.recipes.get e).revision) } := by
  obtain ⟨n, isLt⟩ := e
  obtain rfl : n = f.entry := entry
  exact dif_pos isLt

theorem State.withdrawRecipe_of_inactive (inactive : (s.recipes.get e).state ≠ .active) :
    s.withdrawRecipe e.val = s.reply .refusedState [] :=
  (dif_pos e.isLt).trans (if_pos inactive)

theorem State.withdrawRecipe_of_active (active : (s.recipes.get e).state = .active) : s.withdrawRecipe e.val =
    { state := { s with recipes := s.recipes.put e (s.recipes.get e).withdraw }, code := .accepted
      fields := u8 e.val ++ u8 (entryStateCode (s.recipes.get e).withdraw.state) ++ u8 (s.recipes.get e).refCount } :=
  (dif_pos e.isLt).trans (if_neg (not_not.2 active))

/-! ### SET ARM SERVICE -/

variable {arm service : Nat}

/-- The answer that a SET ARM SERVICE gives with the state `t` and a reply code (R73). -/
def State.serviceAnswer (t : State) (a : Arm) (code : ReplyCode) : Answer :=
  { state := t, code := code, fields := u8 a.val ++ u8 (occupancyCode (t.arms.get a).occ) }

theorem State.setArmService_of_range (out : 8 ≤ arm ∨ 2 ≤ service) :
    s.setArmService arm service = s.reply .refusedRange [] := by
  by_cases inRange : arm < 8
  · exact (dif_pos inRange).trans (if_pos (by omega))
  · exact dif_neg inRange

/-- An arm taken in or put into service, with the reply that names its new state (R73). -/
theorem State.serviceAnswer_becomes (s : State) (a : Arm) (o : Occupancy) :
    State.serviceAnswer (s.modArm a fun c => { c with occ := o }) a .accepted =
      { state := s.modArm a fun c => { c with occ := o }, code := .accepted, fields := u8 a.val ++ u8 (occupancyCode o) } := by
  simp [State.serviceAnswer]

theorem State.setArmService_in : s.setArmService a.val 0 = match (s.arms.get a).occ with
    | .outOfService =>
      if (s.meter a .base).k ≠ 0 ∧ (s.meter a .ethanol).k ≠ 0 then
        State.serviceAnswer (s.modArm a fun c => { c with occ := .idle }) a .accepted
      else s.serviceAnswer a .notConfigured
    | .idle => s.serviceAnswer a .accepted
    | .loaded _ => s.serviceAnswer a .accepted :=
  dif_pos a.isLt

theorem State.setArmService_out : s.setArmService a.val 1 = match (s.arms.get a).occ with
    | .outOfService => s.serviceAnswer a .accepted
    | .idle => State.serviceAnswer (s.modArm a fun c => { c with occ := .outOfService }) a .accepted
    | .loaded _ => s.serviceAnswer a .inUse :=
  dif_pos a.isLt

/-! ### AUTHORIZE -/

variable {code preset : Nat} {bill : List Byte}

/-- The product-code map finds no entry where none that is ACTIVE carries the code (R44). -/
theorem State.lookup_eq_none (none : ∀ e, ¬ ((s.recipes.get e).state = .active ∧ (s.recipes.get e).code = code)) :
    s.lookup code = .none :=
  List.find?_eq_none.2 fun e _ => by simpa using none e

/-- The product-code map finds the one ACTIVE entry that carries the code (R44). -/
theorem State.lookup_eq_of_unique (carries : (s.recipes.get e).state = .active ∧ (s.recipes.get e).code = code)
    (unique : ∀ i, (s.recipes.get i).state = .active ∧ (s.recipes.get i).code = code → i = e) :
    s.lookup code = some e := by
  cases found : s.lookup code with
  | none => exact absurd carries (by simpa using List.find?_eq_none.1 found e (List.mem_finRange e))
  | some i => rw [unique i (State.lookup_eq_some found)]

theorem presetValid_eq_true (x : RecipeEntry) (preset : Nat) (bill : List Byte) : presetValid x preset bill = true ↔
    1 ≤ preset ∧ preset ≤ 99000 ∧ 2 * x.flush ≤ preset ∧ ∀ c ∈ bill, 32 ≤ c.toNat ∧ c.toNat ≤ 126 := by
  simp only [presetValid, Bool.and_eq_true, decide_eq_true_eq, List.all_eq_true, and_assoc]

theorem UnitState.operational_eq_false (x : UnitState) :
    x.operational = false ↔ x = .offline ∨ x = .faulted ∨ x = .empty := by
  cases x with
  | _ => simp [UnitState.operational]

theorem State.requiredUnavailable_eq_true (s : State) (x : RecipeEntry) : s.requiredUnavailable x = true ↔
    ∃ i ∈ x.items, i.required = true ∧ ((s.units.get i.unit).state = .offline ∨ (s.units.get i.unit).state = .faulted ∨
      (s.units.get i.unit).state = .empty) := by
  simp [State.requiredUnavailable, UnitState.operational_eq_false]

/-- AUTHORIZE's checks that follow the arm state's (R85). -/
theorem State.authorize_of_idle (clear : s.stop.latch = none) (idle : (s.arms.get a).occ = .idle) :
    s.authorize a code preset bill = match s.lookup code with
      | none => s.reply .noRecipe []
      | some n =>
        if (s.recipes.get n).permitted.getLsbD a.val = false then s.reply .notPermitted []
        else if !presetValid (s.recipes.get n) preset bill then s.reply .refusedRange []
        else if s.requiredUnavailable (s.recipes.get n) then s.reply .additiveUnavailable []
        else
          { state := s.authorized a n preset bill, code := .accepted
            fields := u16 s.loadNumber ++ u8 n.val ++ u8 (s.recipes.get n).revision } := by
  unfold State.authorize
  rw [clear, idle]
  rfl

theorem State.authorize_of_outOfService (clear : s.stop.latch = none) (out : (s.arms.get a).occ = .outOfService) :
    s.authorize a code preset bill = s.reply .notConfigured [] := by
  unfold State.authorize
  rw [clear, out]
  rfl

theorem State.authorize_of_loaded {r : LoadRecord} (clear : s.stop.latch = none) (load : s.record a = some r) :
    s.authorize a code preset bill =
      if r.phase = .complete then s.reply .recordPending [] else s.reply .refusedState [] := by
  unfold State.authorize
  rw [clear, (s.record_eq_some a r).1 load]
  rfl

/-- A fresh load has its permissive asserted while the latch is CLEAR (R83, R86). -/
theorem State.authorized_permissive (clear : s.stop.latch = none) (a : Arm) (e : EntryNo) (preset : Nat)
    (bill : List Byte) : (s.authorized a e preset bill).permissive a = true := by
  have load : (s.authorized a e preset bill).record a = some (s.newRecord e preset bill) := by
    simp [State.record, State.authorized, Occupancy.record]
  have latch : (s.authorized a e preset bill).stop.latch = none := clear
  simp only [State.permissive, load, latch]
  rfl

end Sys2Proof.Machine

namespace Sys2Proof.Proofs

open Sys2Proof.Machine

/-- Settles O29: the checks of each request are taken in their order, and the last leaves the entry defined or withdrawn. -/
theorem recipeRequests : Obligations.RecipeRequests := by
  unfold Obligations.RecipeRequests
  refine fun s f n => ⟨fun waits => ⟨fun out => State.next_serve waits (State.defineRecipe_of_range out), ?define⟩,
    fun waits => ⟨fun out => State.next_serve waits (dif_neg (by omega)), ?withdraw⟩⟩
  case define =>
    intro e entry other inRange
    have checks := State.defineRecipe_of_entry (s := s) entry
    have ranges : recipeInRange f = true ↔ inRange := recipeInRange_eq_true f
    have taken : s.codeTaken e f.code = true ↔ other := s.codeTaken_eq_true e f.code
    have invalid (h : ¬ inRange) : (!recipeInRange f) = true := by
      rw [Bool.not_eq_true', Bool.eq_false_iff, Ne, ranges]; exact h
    have valid (h : inRange) : ¬ (!recipeInRange f) = true := by
      rw [Bool.not_eq_true', Bool.eq_false_iff, Ne, ranges]; exact not_not.2 h
    refine ⟨fun used => ?_, fun empty out => ?_, fun empty within another => ?_, fun empty within alone => ?_⟩
    · exact State.next_serve waits (checks.trans (if_pos used))
    · exact State.next_serve waits (checks.trans ((if_neg (not_not.2 empty)).trans (if_pos (invalid out))))
    · exact State.next_serve waits (checks.trans ((if_neg (not_not.2 empty)).trans ((if_neg (valid within)).trans
        (if_pos (taken.2 another)))))
    · exact State.next_serve waits (checks.trans ((if_neg (not_not.2 empty)).trans ((if_neg (valid within)).trans
        (if_neg fun h => alone (taken.1 h)))))
  case withdraw =>
    rintro e rfl
    exact ⟨fun inactive => State.next_serve waits (State.withdrawRecipe_of_inactive inactive),
      fun active => State.next_serve waits (State.withdrawRecipe_of_active active)⟩

/-- Settles O30: each cell of Table 5-2 is a case of the arm state and of IN or OUT. -/
theorem armServiceByTable : Obligations.ArmServiceByTable := by
  unfold Obligations.ArmServiceByTable
  refine fun s arm service waits => ⟨fun out => State.next_serve waits (State.setArmService_of_range out), ?_⟩
  rintro a rfl stays becomes
  refine ⟨?_, ?_, ?_, ?_, ?_, ?_⟩
  · rintro rfl out configured
    refine State.next_serve waits (State.setArmService_in.trans ?_)
    rw [out, ← State.serviceAnswer_becomes]
    exact if_pos configured
  · rintro rfl out missing
    refine State.next_serve waits (State.setArmService_in.trans (?_ : _ = s.serviceAnswer a .notConfigured))
    rw [out]
    exact if_neg (by tauto)
  · rintro rfl service
    refine State.next_serve waits (State.setArmService_in.trans (?_ : _ = s.serviceAnswer a .accepted))
    cases occ : (s.arms.get a).occ with
    | outOfService => exact absurd occ service
    | idle => rfl
    | loaded r => rfl
  · rintro rfl out
    refine State.next_serve waits (State.setArmService_out.trans (?_ : _ = s.serviceAnswer a .accepted))
    rw [out]
  · rintro rfl idle
    refine State.next_serve waits (State.setArmService_out.trans ?_)
    rw [idle, ← State.serviceAnswer_becomes]
  · rintro r rfl loaded
    refine State.next_serve waits (State.setArmService_out.trans (?_ : _ = s.serviceAnswer a .inUse))
    rw [loaded]

/-- Settles O31: each check is the first to fail where the ones before it pass. -/
theorem authorizeChecksInOrder : Obligations.AuthorizeChecksInOrder := by
  unfold Obligations.AuthorizeChecksInOrder
  intro s a code preset bill waits refused carries
  have answer {x : ReplyCode} (decided : s.authorize a code preset bill = s.reply x []) : refused x :=
    State.next_serve waits decided
  refine ⟨fun set => answer (if_pos (Option.isSome_iff_ne_none.2 set)),
    fun clear out => answer (State.authorize_of_outOfService clear out), fun clear complete => ?_,
    fun r clear load other => answer ((State.authorize_of_loaded clear load).trans (if_neg other)),
    fun clear idle => ⟨fun none => answer ?_, fun e carried unique => ?_⟩⟩
  · obtain ⟨r, load, phase⟩ := (s.phase_eq_some a _).1 complete
    exact answer ((State.authorize_of_loaded clear load).trans (if_pos phase))
  · rw [State.authorize_of_idle clear idle, State.lookup_eq_none none]
  · have checks := State.authorize_of_idle (code := code) (preset := preset) (bill := bill) clear idle
    rw [State.lookup_eq_of_unique carried unique] at checks
    have fitsIff := presetValid_eq_true (s.recipes.get e) preset bill
    refine ⟨fun denied => answer (checks.trans (if_pos denied)), fun permitted => ⟨fun misfit => ?_, fun fits lost => ?_⟩⟩
    · exact answer (checks.trans ((if_neg (by simp [permitted])).trans (if_pos (by simpa [← fitsIff] using misfit))))
    · exact answer (checks.trans ((if_neg (by simp [permitted])).trans ((if_neg (by simp [fitsIff.2 fits])).trans
        (if_pos ((s.requiredUnavailable_eq_true _).2 lost)))))

/-- Settles O32: with every check passed the load is the new record, on the entry that the code names. -/
theorem authorizeCreatesTheLoad : Obligations.AuthorizeCreatesTheLoad := by
  unfold Obligations.AuthorizeCreatesTheLoad
  intro s a e preset bill code waits clear idle active unique permitted least most flush bills ready
  have found : s.lookup code = some e := State.lookup_eq_of_unique ⟨active, rfl⟩ fun i carries => unique i carries.1 carries.2
  have checks := State.authorize_of_idle (code := code) (preset := preset) (bill := bill) clear idle
  rw [found] at checks
  have fits := (presetValid_eq_true (s.recipes.get e) preset bill).2 ⟨least, most, flush, bills⟩
  have available : ¬ s.requiredUnavailable (s.recipes.get e) = true := by
    rw [State.requiredUnavailable_eq_true]
    rintro ⟨i, mem, required, lost⟩
    have serves := ready i mem required
    rcases lost with lost | lost | lost
    all_goals simp [lost] at serves
  refine ⟨s.authorized a e preset bill, s.newRecord e preset bill, State.next_serve waits (checks.trans
    ((if_neg (by simp [permitted])).trans ((if_neg (by simp [fits])).trans (if_neg available)))), ?_⟩
  exact ⟨rfl, rfl, rfl, rfl, rfl, rfl, rfl, rfl, rfl, rfl, rfl, State.authorized_permissive clear a e preset bill, rfl, rfl⟩

end Sys2Proof.Proofs
end


section
/-! PAUSE and RESUME, the expiries of the arm timers and the handed halts (R76 to R81, R88, R89, R95 to R101): each entry into a
load state in the statements' terms. -/

namespace Sys2Proof.Machine

variable {s t : State} {a : Arm} {r q : LoadRecord} {why : HaltReason}

/-! ### Entries into load states, in closed form -/

theorem State.leaveQueues_eq (s : State) (a : Arm) : s.leaveQueues a = { s with units := s.queuesLeft a } := rfl

theorem State.enterPaused_eq_pausedBy (load : s.record a = some r) (c : PauseCause) :
    s.enterPaused a c = s.pausedBy a r c := by
  have header := (s.enterPaused_header a c).trans (s.leaveHeader_header_eq_headerLeft a)
  have units : (s.enterPaused a c).units = s.queuesLeft a :=
    Bank.ext_get fun u => by simp [State.enterPaused_units_get, State.queuesLeft]
  have arms : (s.enterPaused a c).arms = (s.pausedBy a r c).arms := by
    rw [State.enterPaused_arms]
    dsimp only [State.pausedBy]
    refine Bank.upd_congr _ _ ?_
    rw [State.record_eq_some] at load
    simp [ArmCtl.mapRecord, load, Occupancy.mapRecord, Accounts.closedIf_eq, State.closedLeft]
  refine State.eq_of_fields ?_ ?_ ?_ ?_ ?_ arms ?_ header units ?_ ?_ ?_ ?_ ?_ ?_ ?_ ?_ ?_
  all_goals simp [State.pausedBy]

theorem State.enterFinishing_armLines (load : s.record a = some r) : (s.enterFinishing a).armLines =
    s.armLines.upd a fun y => { y with notices := restrictRaised r.acc.restrictOn false y.notices } := by
  have entered : ((s.setPhase a .finishing).modArm a fun x => { x with
      noFlow := .stopped, linkSilence := .stopped, window := .stopped
      settle := Timer.startSeconds s.settings.settle }).record a = some { r with phase := .finishing } := by
    rw [State.record_eq_some] at load ⊢
    simp [load, Occupancy.mapRecord]
  simp only [State.enterFinishing, State.leaveQueues_armLines, State.leaveHeader_frame,
    State.setRestrict_armLines entered, State.modArm_armLines, State.setPhase_armLines]

theorem State.enterFinishing_eq_finishing (load : s.record a = some r) : s.enterFinishing a = s.finishing a r := by
  have header := (s.enterFinishing_header a).trans (s.leaveHeader_header_eq_headerLeft a)
  have units : (s.enterFinishing a).units = s.queuesLeft a :=
    Bank.ext_get fun u => by simp [State.enterFinishing_units_get, State.queuesLeft]
  have arms : (s.enterFinishing a).arms = (s.finishing a r).arms := by
    rw [State.enterFinishing_arms]
    dsimp only [State.finishing]
    refine Bank.upd_congr _ _ ?_
    rw [State.record_eq_some] at load
    simp [ArmCtl.mapRecord, load, Occupancy.mapRecord, Accounts.closedIf_eq, State.closedLeft]
    rfl
  refine State.eq_of_fields ?_ ?_ ?_ ?_ ?_ arms ?_ header units ?_ ?_ ?_ (State.enterFinishing_armLines load) ?_ ?_ ?_ ?_ ?_
  all_goals simp [State.finishing]

/-- A halt of a load whose record has just been changed in a field that the halt does not look at. -/
theorem State.haltedBy_withRecord (s : State) (a : Arm) (q r : LoadRecord) (why : HaltReason) :
    (s.withRecord a q).haltedBy a r why = s.haltedBy a r why := by
  simp only [State.haltedBy, State.withRecord, Bank.upd_upd]
  rfl

theorem State.finishing_withRecord (s : State) (a : Arm) (q r : LoadRecord) :
    (s.withRecord a q).finishing a r = s.finishing a r := by
  simp only [State.finishing, State.withRecord, Bank.upd_upd]
  rfl

/-- A halt handed to a load in AUTHORIZED through FLUSH and taken: it is the load's first. -/
theorem State.halt_withRecord (s : State) (a : Arm) (haltable : q.phase.haltable = true) (first : q.haltReason = none)
    (why : HaltReason) : (s.withRecord a q).halt a why = s.haltedBy a q why := by
  rw [State.halt_of_haltable (s.withRecord_record a q) haltable,
    State.enterHalted_eq_haltedBy (s.withRecord_record a q) first, State.haltedBy_withRecord]

theorem State.modArm_record (f : ArmCtl → ArmCtl) (occ : (f (s.arms.get a)).occ = (s.arms.get a).occ) :
    (s.modArm a f).record a = s.record a := by
  rw [State.record, State.modArm_arms, Bank.get_upd_same, occ]; rfl

/-! ### The arm state in a reply -/

theorem State.occupancyCode_of_record (load : s.record a = some r) :
    occupancyCode (s.arms.get a).occ = occupancyCode (.loaded r) := by
  rw [(State.record_eq_some s a r).1 load]

theorem State.phase_of_record (load : s.record a = some r) : s.phase a = some r.phase :=
  (s.phase_eq_some a _).2 ⟨r, load, rfl⟩

/-! ### PAUSE -/

/-- PAUSE's answer that finds or leaves the load PAUSED with cause DRIVER (R88). -/
theorem State.pauseReply_of_driver (phase : t.phase a = some (.paused .driver)) :
    t.pauseReply a .accepted = { state := t, code := .accepted, fields := [4, 1] } := by
  obtain ⟨q, load, paused⟩ := (t.phase_eq_some a _).1 phase
  unfold State.pauseReply
  rw [phase, State.occupancyCode_of_record load, occupancyCode, paused]
  rfl

theorem State.pause_of_none (vacant : s.phase a = none) : s.pause a =
    { state := s, code := .noLoad, fields := u8 (occupancyCode (s.arms.get a).occ) ++ u8 0 } := by
  simp only [State.pause, vacant, State.pauseReply]
  rfl

theorem State.pause_of_other {p : Phase} (phase : s.phase a = some p)
    (other : p = .authorized ∨ p = .flush ∨ p = .halted ∨ p = .finishing ∨ p = .complete) : s.pause a =
    { state := s, code := .refusedState, fields := u8 (occupancyCode (s.arms.get a).occ) ++ u8 0 } := by
  rcases other with rfl | rfl | rfl | rfl | rfl
  all_goals
    simp only [State.pause, phase, State.pauseReply]
    rfl

theorem State.pause_of_flowing (load : s.record a = some r) (flowing : r.phase = .flowing) : s.pause a =
    { state := s.pausedBy a r .driver, code := .accepted, fields := [4, 1] } := by
  have phase : s.phase a = some .flowing := flowing ▸ State.phase_of_record load
  have paused : (s.pausedBy a r .driver).phase a = some (.paused .driver) := by
    simp [State.phase, State.record, State.pausedBy, Occupancy.record]
  rw [State.pause, phase, ← State.pauseReply_of_driver paused, ← State.enterPaused_eq_pausedBy load]

theorem State.pause_of_noFlow (phase : s.phase a = some (.paused .noFlow)) : s.pause a =
    { state := s.modRecord a fun r => { r with phase := .paused .driver }, code := .accepted, fields := [4, 1] } := by
  obtain ⟨r, load, -⟩ := (s.phase_eq_some a _).1 phase
  have paused : (s.setPhase a (.paused .driver)).phase a = some (.paused .driver) := by
    rw [State.setPhase, State.phase, State.modRecord_record, if_pos rfl, load]; rfl
  have answer := State.pauseReply_of_driver paused
  unfold State.pause
  rw [phase]
  exact answer

/-! ### RESUME -/

theorem State.resumeReply_of_flowing (phase : t.phase a = some .flowing) :
    t.resumeReply a .accepted = { state := t, code := .accepted, fields := [3] } := by
  obtain ⟨q, load, flowing⟩ := (t.phase_eq_some a _).1 phase
  unfold State.resumeReply
  rw [State.occupancyCode_of_record load, occupancyCode, flowing]
  rfl

theorem State.resume_of_other {p : Phase} (phase : s.phase a = some p)
    (other : p = .authorized ∨ p = .flush ∨ p = .halted ∨ p = .finishing ∨ p = .complete) :
    s.resume a = s.resumeReply a .refusedState := by
  rcases other with rfl | rfl | rfl | rfl | rfl
  all_goals simp only [State.resume, phase]

theorem State.resume_of_paused {c : PauseCause} (phase : s.phase a = some (.paused c)) : s.resume a =
    { state := s.modArm a fun x =>
        { x with occ := x.occ.mapRecord fun r => { r with phase := .flowing }, window := .stopped
                 noFlow := .running (s.settings.noFlow * 100000) }
      code := .accepted, fields := [3] } := by
  obtain ⟨r, load, -⟩ := (s.phase_eq_some a _).1 phase
  have flowing : (s.enterFlowing a).phase a = some .flowing := by
    rw [State.phase, State.enterFlowing_record, if_pos rfl, load]; rfl
  have entered : s.enterFlowing a = s.modArm a fun x =>
      { x with occ := x.occ.mapRecord fun r => { r with phase := .flowing }, window := .stopped
               noFlow := .running (s.settings.noFlow * 100000) } := by
    have arms := s.enterFlowing_arms a
    exact State.eq_of_fields rfl rfl rfl rfl rfl arms rfl rfl rfl rfl rfl rfl rfl rfl rfl rfl rfl rfl
  rw [State.resume, phase]
  dsimp only
  rw [State.resumeReply_of_flowing flowing, entered]

/-! ### Timers not due -/

theorem exec_noFlowExpiry_of_running (running : (s.arms.get a).noFlow ≠ .running 0) :
    exec (.noFlowExpiry a) s = .next s := if_neg fun due => running ((Timer.due_eq_true _).1 due)

theorem exec_linkSilenceExpiry_of_running (running : (s.arms.get a).linkSilence ≠ .running 0) :
    exec (.linkSilenceExpiry a) s = .next s := if_neg fun due => running ((Timer.due_eq_true _).1 due)

theorem exec_authorizationWindowExpiry_of_running (running : (s.arms.get a).window ≠ .running 0) :
    exec (.authorizationWindowExpiry a) s = .next s := if_neg fun due => running ((Timer.due_eq_true _).1 due)

/-! ### Timers due -/

theorem exec_noFlowExpiry_of_due (due : (s.arms.get a).noFlow = .running 0) (load : s.record a = some r)
    (flowing : r.phase = .flowing) : exec (.noFlowExpiry a) s = .next (s.pausedBy a r .noFlow) := by
  refine (if_pos ((Timer.due_eq_true _).2 due)).trans ((if_pos (flowing ▸ State.phase_of_record load)).trans ?_)
  rw [State.enterPaused_stopped, State.enterPaused_eq_pausedBy load]

theorem exec_linkSilenceExpiry_of_due (due : (s.arms.get a).linkSilence = .running 0) (load : s.record a = some r)
    (haltable : r.phase.haltable = true) (first : r.haltReason = none) :
    exec (.linkSilenceExpiry a) s = .next (s.haltedBy a r .linkSilent) := by
  refine (if_pos ((Timer.due_eq_true _).2 due)).trans ?_
  have kept : (s.modArm a fun c => { c with linkSilence := .stopped }).record a = some r :=
    (State.modArm_record _ rfl).trans load
  rw [State.halt_of_haltable kept haltable, State.enterHalted_stopped, State.enterHalted_eq_haltedBy load first]

theorem exec_authorizationWindowExpiry_of_due (due : (s.arms.get a).window = .running 0) (load : s.record a = some r)
    (authorized : r.phase = .authorized) : exec (.authorizationWindowExpiry a) s =
      .next (s.finishing a { r with flags := { r.flags with expired := true } }) := by
  refine (if_pos ((Timer.due_eq_true _).2 due)).trans ((if_pos (authorized ▸ State.phase_of_record load)).trans ?_)
  rw [State.enterFinishing_stopped, State.modRecord_eq load, State.enterFinishing_eq_finishing (s.withRecord_record a _),
    State.finishing_withRecord]

/-! ### Handed halts -/

theorem exec_terminalStopHalt_of_handed (load : s.record a = some r) (handed : r.stopHalt = true) :
    exec (.terminalStopHalt a) s = .next ((s.withRecord a { r with stopHalt := false }).halt a .terminalStop) := by
  rw [← State.modRecord_eq load fun x => { x with stopHalt := false }]
  have taken : exec (.terminalStopHalt a) s = execTerminalStopHalt a s := rfl
  rw [taken, execTerminalStopHalt, load]
  exact if_pos handed

theorem exec_additiveLostHalt_of_handed {u : UnitNo} (load : s.record a = some r) (handed : u ∈ r.lostHalts) :
    exec (.additiveLostHalt a u) s =
      .next ((s.withRecord a { r with lostHalts := r.lostHalts.filter fun v => v ≠ u }).halt a (.additiveLost u)) := by
  rw [← State.modRecord_eq load fun x => { x with lostHalts := x.lostHalts.filter fun v => v ≠ u }]
  have taken : exec (.additiveLostHalt a u) s = execAdditiveLostHalt a u s := rfl
  rw [taken, execAdditiveLostHalt, load]
  exact if_pos handed

end Sys2Proof.Machine

namespace Sys2Proof.Proofs

open Sys2Proof.Machine

/-- Settles O33: PAUSE and RESUME answer by the load state, and a PAUSE from FLOWING is `State.pausedBy`. -/
theorem pauseAndResumeByState : Obligations.PauseAndResumeByState := by
  unfold Obligations.PauseAndResumeByState
  refine fun s a => ⟨fun waits => ⟨fun vacant => State.next_serve waits (State.pause_of_none vacant), fun driver => ?_,
    fun noFlow => State.next_serve waits (State.pause_of_noFlow noFlow),
    fun r load flowing => State.next_serve waits (State.pause_of_flowing load flowing),
    fun law _ => State.headerLeft_none law a, fun p phase other => State.next_serve waits (State.pause_of_other phase other)⟩,
    fun waits => ⟨fun vacant => ?_, fun flowing => ?_, fun c paused => State.next_serve waits (State.resume_of_paused paused),
      fun p phase other => State.next_serve waits (State.resume_of_other phase other)⟩⟩
  · refine State.next_serve waits (.trans ?_ (State.pauseReply_of_driver driver))
    rw [State.pause, driver]
  · refine State.next_serve waits (?_ : _ = s.resumeReply a .noLoad)
    rw [State.resume, vacant]
  · refine State.next_serve waits (.trans ?_ (State.resumeReply_of_flowing flowing))
    rw [State.resume, flowing]

/-- Settles O36: a timer that is due ends the load state it runs in, and one that is not due does nothing. -/
theorem armTimersExpire : Obligations.ArmTimersExpire := by
  unfold Obligations.ArmTimersExpire
  exact fun s a r load => ⟨exec_noFlowExpiry_of_running, exec_linkSilenceExpiry_of_running,
    exec_authorizationWindowExpiry_of_running, fun due flowing => exec_noFlowExpiry_of_due due load flowing,
    fun due haltable first => exec_linkSilenceExpiry_of_due due load haltable first,
    fun due authorized => exec_authorizationWindowExpiry_of_due due load authorized⟩

/-- Settles O38: the halt handed on is dropped from the record, and halts a load that can still be halted. -/
theorem handedHaltsAreTaken : Obligations.HandedHaltsAreTaken := by
  unfold Obligations.HandedHaltsAreTaken
  refine fun s a r load => ⟨fun handed haltable first => ?_, fun handed ended => ?_,
    fun u handed => ?_⟩
  · rw [exec_terminalStopHalt_of_handed load handed, State.halt_withRecord (q := { r with stopHalt := false }) s a haltable first]
  · rw [exec_terminalStopHalt_of_handed load handed, State.modRecord_eq load,
      State.halt_of_not_haltable (r := { r with stopHalt := false }) (s.withRecord_record a _) ended]
  · intro taken
    refine ⟨fun haltable first => ?_, fun ended => ?_⟩
    · rw [exec_additiveLostHalt_of_handed load handed, State.halt_withRecord (q := taken) s a haltable first]
    · rw [exec_additiveLostHalt_of_handed load handed,
        State.halt_of_not_haltable (r := taken) (s.withRecord_record a _) ended]
      rfl

end Sys2Proof.Proofs
end


section
/-! Completion and hand-off in the statements' terms, the settle expiry, ABORT LOAD, REMOVE RECORD and the age timer (R69 to R71,
R81, R82, R93, R101, R159, R160, R163 to R167). -/

namespace Sys2Proof.Machine

variable {s t : State} {a : Arm} {r q : LoadRecord} {d : DeliveryRecord} {rest : List DeliveryRecord} {waits : List Arm}
  {number arm : Nat}

/-! ### The hand-off -/

theorem RecipeEntry.dropReference_eq (x : RecipeEntry) : x.dropReference = { x with
    refCount := x.refCount - 1
    state := if x.state = .withdrawn ∧ x.refCount ≤ 1 then .empty else x.state } := by
  have last : x.refCount - 1 = 0 ↔ x.refCount ≤ 1 := Nat.sub_eq_zero_iff_le
  simp only [RecipeEntry.dropReference, last]

theorem State.triggerTest_eq (s : State) : s.triggerTest = { s with supervisor := { s.supervisor with
    notices := if s.records.trigger ≤ s.records.records.length
      then raiseIn SupNotice.key .recordsWaiting none s.supervisor.notices else s.supervisor.notices } } := by
  unfold State.triggerTest
  split
  · rfl
  · rfl

/-- A hand-off in closed form (R160). -/
theorem State.handOff_eq_handedOff (load : s.record a = some r) :
    s.handOff a = s.handedOff a r.figures s.records.wait := by
  unfold State.handOff
  rw [load]
  dsimp only
  rw [State.triggerTest_eq, funext RecipeEntry.dropReference_eq]
  simp only [List.length_append, List.length_singleton]
  rfl

/-- A hand-off opens no load record but to take it, so a change of that record before it is lost. -/
theorem State.handedOff_withRecord (s : State) (a : Arm) (q : LoadRecord) (f : FinalFigures) (waits : List Arm) :
    (s.withRecord a q).handedOff a f waits = s.handedOff a f waits := by
  simp only [State.handedOff, State.withRecord, Bank.upd_upd]
  rfl

theorem State.offer_eq (load : s.record a = some r) : s.offer a =
    if s.records.records.length < 32 then s.handedOff a r.figures s.records.wait
    else { s with records := { s.records with wait := s.records.wait ++ [a] } } := by
  rw [State.offer, State.handOff_eq_handedOff load]
  rfl

/-! ### Completion -/

theorem raiseShorts_eq_shortsRaised (old new : ExceptionFlags) (l : List (ArmNotice × Option Nat)) :
    raiseShorts old new l = shortsRaised old new l := by
  unfold raiseShorts shortsRaised
  congr 1
  funext t u
  refine if_congr ?_ rfl rfl
  rw [Bool.and_eq_true, Bool.not_eq_true', and_comm]

theorem LoadRecord.close_flags (r : LoadRecord) (s : State) :
    (r.close (Bank.tab fun u => (s.units.get u).shot) s.clock).flags =
      r.finalFlags r.acc.finalRatio fun u => (s.units.get u).shot := by
  have off : r.offRatio = (decide (r.acc.totalStd ≠ 0) &&
      decide (r.snap.tolerance < ((r.acc.finalRatio : Int) - (r.snap.ratio : Int)).natAbs)) := by
    simp only [LoadRecord.offRatio, Nat.pos_iff_ne_zero]
  have short (u : UnitNo) : (fun i : LoadItem => decide (i.unit = u) &&
      i.shortAtCompletion ((Bank.tab fun u => (s.units.get u).shot).get i.unit) r.acc.totalGross) =
      fun i => decide (i.unit = u) && i.endsShort (s.units.get u).shot r.acc.totalGross := by
    funext i
    by_cases own : i.unit = u
    · rw [Bank.get_tab, own]; rfl
    · simp only [own, decide_false, Bool.false_and]
  simp only [LoadRecord.close, LoadRecord.finalFlags, off, short]

/-- The exception flags of the load at its completion (R70, R71). -/
def State.closedFlags (s : State) (r : LoadRecord) : ExceptionFlags :=
  r.finalFlags r.acc.finalRatio fun u => (s.units.get u).shot

/-- The load record at its completion (R69 to R71, R82). -/
def State.closedLoad (s : State) (r : LoadRecord) : LoadRecord :=
  { r with
    phase := .complete, flags := s.closedFlags r, finalRatio := some r.acc.finalRatio, endTime := some s.clock
    items := r.items.map fun i => { i with
      owed := ((i.rate * r.acc.totalGross / 1000000 : Nat) : Int) - (i.delivered : Int)
      short := i.short || i.endsShort (s.units.get i.unit).shot r.acc.totalGross } }

theorem State.close_eq_closedLoad (s : State) (r : LoadRecord) :
    r.close (Bank.tab fun u => (s.units.get u).shot) s.clock = s.closedLoad r := by
  rw [State.closedLoad, State.closedFlags, ← LoadRecord.close_flags]
  simp only [LoadRecord.close, Bank.get_tab]
  rfl

theorem State.closedLoad_figures (s : State) (r : LoadRecord) :
    (s.closedLoad r).figures = r.finals r.acc.finalRatio (s.closedFlags r) s.clock := by
  simp only [State.closedLoad, LoadRecord.figures, LoadRecord.finals, List.map_map]
  rfl

/-- The state that the closing of a load leaves, before its record is offered (R82). -/
theorem State.closing_eq (s : State) (a : Arm) (r : LoadRecord) : s.closing a r = { s with
    arms := s.arms.upd a fun c => { c with
      occ := .loaded (s.closedLoad r), settle := .stopped
      lastSummary := some (r.finals r.acc.finalRatio (s.closedFlags r) s.clock) }
    armLines := s.armLines.upd a fun y => { y with
      notices := raiseIn ArmNotice.key .loadComplete (some r.number)
        (shortsRaised r.flags (s.closedFlags r) y.notices) } } := by
  simp only [State.closing, State.close_eq_closedLoad, State.closedLoad_figures, raiseShorts_eq_shortsRaised]
  rfl

/-- The entry into COMPLETE in closed form (R82, R159). -/
theorem State.enterComplete_eq_completed (load : s.record a = some r) : s.enterComplete a = s.completed a r := by
  have closed : (s.closing a r).record a = some (s.closedLoad r) := by
    rw [State.closing_eq, State.record]
    simp [Occupancy.record]
  rw [State.enterComplete_eq load, State.offer_eq closed, State.closedLoad_figures, State.closing_eq]
  rfl

/-- A completion replaces the load record and the settle timer, so changes of them before it are lost. -/
theorem State.completed_modArm (s : State) (a : Arm) (r : LoadRecord) (f : ArmCtl → ArmCtl)
    (kept : ∀ c, { f c with occ := c.occ, settle := c.settle } = c) : (s.modArm a f).completed a r = s.completed a r := by
  have same (o : Occupancy) (x : FinalFigures) : (s.arms.upd a f).upd a
      (fun c => { c with occ := o, settle := .stopped, lastSummary := some x }) =
      s.arms.upd a fun c => { c with occ := o, settle := .stopped, lastSummary := some x } := by
    rw [Bank.upd_upd]
    refine Bank.upd_congr _ _ ?_
    have := kept (s.arms.get a)
    generalize f (s.arms.get a) = y at this
    rw [← this]
  simp only [State.completed, State.modArm, same]

/-- A completion condition examined in closed form (R81). -/
theorem State.examine_eq_examined (s : State) (a : Arm) : s.examine a = s.examined a := by
  unfold State.examined
  cases load : s.record a with
  | none => exact if_neg (by simp [State.completes, load])
  | some r =>
    rw [State.examine, State.enterComplete_eq_completed load]
    exact if_congr (State.completes_iff s a load) rfl rfl

/-! ### The settle expiry -/

theorem exec_settleExpiry_of_running (running : (s.arms.get a).settle ≠ .running 0) :
    exec (.settleExpiry a) s = .next s := if_neg fun due => running ((Timer.due_eq_true _).1 due)

/-- The settle expiry of a load in FINISHING (R101). -/
theorem exec_settleExpiry_of_due (due : (s.arms.get a).settle = .running 0) (load : s.record a = some r)
    (finishing : r.phase = .finishing) : exec (.settleExpiry a) s = .next
      (if (∀ u : UnitNo, (s.units.get u).inFlight ≠ some a) ∧ ∀ i ∈ r.items, i.finalShot = false then s.completed a r
       else s.modArm a fun c => { c with settle := .expired }) := by
  refine (if_pos ((Timer.due_eq_true _).2 due)).trans ?_
  have kept : (s.modArm a fun c => { c with settle := .expired }).record a = some r :=
    (State.modArm_record _ rfl).trans load
  have expired : ((s.modArm a fun c => { c with settle := .expired }).arms.get a).settle = .expired := by simp
  rw [State.examine_eq_examined, State.examined, kept]
  dsimp only
  rw [State.completed_modArm s a r (fun c => { c with settle := .expired }) fun _ => rfl]
  refine congrArg Host.Outcome.next (if_congr ?_ rfl rfl)
  exact ⟨fun h => h.2.2, fun h => ⟨finishing, expired, h⟩⟩

/-! ### ABORT LOAD -/

/-- The load with ABORTED set (R93). -/
def LoadRecord.abortedFlag (r : LoadRecord) : LoadRecord := { r with flags := { r.flags with aborted := true } }

theorem State.aborted_of_live (load : s.record a = some r) (live : r.phase ≠ .finishing) :
    s.aborted a r = s.finishing a r.abortedFlag := by
  refine (if_neg live).trans ?_
  rw [State.modRecord_eq load, State.enterFinishing_eq_finishing (s.withRecord_record a _), State.finishing_withRecord]
  rfl

/-- The load in FINISHING with ABORTED set and its marks cleared (R93). -/
def LoadRecord.abortedMarks (r : LoadRecord) : LoadRecord :=
  { r with flags := { r.flags with aborted := true }, items := r.items.map fun i => { i with finalShot := false } }

/-- The state of an abort in FINISHING before the completion condition is examined (R93). -/
def State.abortedFinishing (s : State) (a : Arm) (r : LoadRecord) : State :=
  { s.withRecord a r.abortedMarks with units := s.queuesLeft a }

theorem State.aborted_of_finishing (load : s.record a = some r) (finishing : r.phase = .finishing) : s.aborted a r =
    if r.items.any LoadItem.finalShot then (s.abortedFinishing a r).examine a else s.abortedFinishing a r := by
  refine (if_pos finishing).trans ?_
  rw [State.modRecord_eq load, State.clearMarks, State.modRecord_eq (s.withRecord_record a _), State.withRecord_withRecord]
  rfl

theorem State.abortedFinishing_record (s : State) (a : Arm) (r : LoadRecord) :
    (s.abortedFinishing a r).record a = some r.abortedMarks := s.withRecord_record a _

theorem State.abortedFinishing_completed (s : State) (a : Arm) (r q : LoadRecord) :
    (s.abortedFinishing a r).completed a q = State.completed { s with units := s.queuesLeft a } a q :=
  State.completed_modArm { s with units := s.queuesLeft a } a q (fun c => { c with occ := .loaded r.abortedMarks }) fun _ => rfl

/-- An abort in FINISHING completes the load exactly where it clears a mark, the settle timer has expired and no stroke is in
flight (R81, R93). -/
theorem State.aborted_of_finishing_eq (load : s.record a = some r) (finishing : r.phase = .finishing) : s.aborted a r =
    if (s.arms.get a).settle = .expired ∧ (∃ i ∈ r.items, i.finalShot = true) ∧
      ∀ u : UnitNo, (s.units.get u).inFlight ≠ some a
    then State.completed { s with units := s.queuesLeft a } a r.abortedMarks else s.abortedFinishing a r := by
  have settle : ((s.abortedFinishing a r).arms.get a).settle = (s.arms.get a).settle := by
    simp [State.abortedFinishing, State.withRecord]
  have flight (u : UnitNo) : ((s.abortedFinishing a r).units.get u).inFlight = (s.units.get u).inFlight := by
    simp [State.abortedFinishing, State.queuesLeft]
  have unmarked : ∀ i ∈ r.abortedMarks.items, i.finalShot = false := by simp [LoadRecord.abortedMarks]
  rw [State.aborted_of_finishing load finishing, State.examine_eq_examined, State.examined, State.abortedFinishing_record]
  dsimp only
  rw [State.abortedFinishing_completed, settle]
  simp only [flight]
  by_cases marked : ∃ i ∈ r.items, i.finalShot = true
  · rw [if_pos (List.any_eq_true.2 marked)]
    refine if_congr ?_ rfl rfl
    exact ⟨fun h => ⟨h.2.1, marked, h.2.2.1⟩, fun h => ⟨finishing, h.1, h.2.2, unmarked⟩⟩
  · rw [if_neg fun h => marked (List.any_eq_true.1 h), if_neg fun h => marked h.2.1]

theorem State.abortLoad_of_record (load : s.record a = some r) : s.abortLoad a.val number =
    if r.phase = .complete then s.reply .refusedState []
    else if number ≠ r.number then s.reply .mismatch []
    else
      { state := s.aborted a r, code := .accepted
        fields := u8 a.val ++ u16 number ++ u8 (occupancyCode ((s.aborted a r).arms.get a).occ) } := by
  refine (dif_pos a.isLt).trans ?_
  dsimp only
  rw [load]

/-- The arm state after a completion: IDLE after a hand-off, and COMPLETE while the record waits (R159). -/
theorem State.completed_occupancy (s : State) (a : Arm) (r : LoadRecord) :
    occupancyCode ((s.completed a r).arms.get a).occ = if s.records.records.length < 32 then 1 else 8 := by
  unfold State.completed
  dsimp only
  split
  · simp [State.handedOff, occupancyCode]
  · simp [occupancyCode]

theorem State.finishing_occupancy (s : State) (a : Arm) (r : LoadRecord) :
    occupancyCode ((s.finishing a r).arms.get a).occ = 7 := by
  simp [State.finishing, occupancyCode]

/-! ### REMOVE RECORD -/

/-- A removal with nobody waiting (R163, R167). -/
theorem State.removed_of_noWaiter (empty : s.records.wait = []) (rest : List DeliveryRecord) : s.removed rest =
    { s with records := { s.records with
        records := rest, ageTimer := if rest = [] then .stopped else .running (s.records.ageTimeout * 100000) } } := by
  have same : State.waitHandOff { s with records := { s.records with records := rest } } =
      { s with records := { s.records with records := rest } } := by
    unfold State.waitHandOff
    dsimp only
    rw [empty]
  rw [State.removed, same]
  rfl

/-- The wait list's head handed off where the queue has a place (R164). -/
theorem State.waitHandOff_of_waiter (waiter : s.records.wait = a :: waits) (load : s.record a = some r)
    (room : s.records.records.length < 32) : s.waitHandOff = s.handedOff a r.figures waits := by
  unfold State.waitHandOff
  rw [waiter]
  dsimp only
  exact (if_pos room).trans (State.handOff_eq_handedOff (s := { s with records := { s.records with wait := waits } }) load)

theorem State.waitHandOff_of_none (idle : s.records.wait = [] ∨ 32 ≤ s.records.records.length) : s.waitHandOff = s := by
  unfold State.waitHandOff
  cases waiting : s.records.wait with
  | nil => rfl
  | cons a waits => exact if_neg (Nat.not_lt.2 (idle.resolve_left (by simp [waiting])))

/-- A removal that frees a place for the arm that waits longest (R163, R164, R167). -/
theorem State.removed_of_waiter (waiter : s.records.wait = a :: waits) (load : s.record a = some r)
    (room : rest.length < 32) : s.removed rest =
      State.handedOff { s with records := { s.records with
        records := rest, ageTimer := .running (s.records.ageTimeout * 100000) } } a r.figures waits := by
  have handed := State.waitHandOff_of_waiter (s := { s with records := { s.records with records := rest } })
    (r := r) waiter load room
  rw [State.removed, handed]
  simp only [RecordQueue.afterRemoval, State.handedOff, List.append_eq_nil_iff, List.cons_ne_self, and_false, if_false,
    ite_self]
  rfl

end Sys2Proof.Machine

namespace Sys2Proof.Proofs

open Sys2Proof.Machine

/-- Settles O37: the expired timer leaves the completion condition to the strokes in flight and the marks. -/
theorem settleExpiryCompletes : Obligations.SettleExpiryCompletes := by
  unfold Obligations.SettleExpiryCompletes
  refine fun s a r load finishing => ⟨exec_settleExpiry_of_running, fun due => ⟨fun waits => ?_, fun noStroke noMark => ?_⟩⟩
  · rw [exec_settleExpiry_of_due due load finishing, if_neg]
    rintro ⟨noStroke, noMark⟩
    obtain ⟨u, flight⟩ | ⟨i, mem, marked⟩ := waits
    · exact noStroke u flight
    · simp [noMark i mem] at marked
  · rw [exec_settleExpiry_of_due due load finishing, if_pos ⟨noStroke, noMark⟩]

/-- Settles O35: the checks in order, then `State.aborted`, which enters FINISHING or clears the marks and examines. -/
theorem abortLoadByChecks : Obligations.AbortLoadByChecks := by
  unfold Obligations.AbortLoadByChecks
  intro s arm number waits refused
  refine ⟨fun out => State.next_serve waits (dif_neg (by omega)), ?_⟩
  rintro a rfl
  refine ⟨fun ended => ?_, fun r load open_ other => ?_, fun r load open_ live same => ?_, fun r load finishing same => ?_⟩
  · refine State.next_serve waits ?_
    obtain vacant | complete := ended
    · refine (dif_pos a.isLt).trans ?_
      dsimp only
      rw [vacant]
      rfl
    · obtain ⟨r, load, phase⟩ := (s.phase_eq_some a _).1 complete
      exact (State.abortLoad_of_record load).trans (if_pos phase)
  · exact State.next_serve waits ((State.abortLoad_of_record load).trans ((if_neg open_).trans (if_pos other)))
  · refine State.next_serve waits ((State.abortLoad_of_record load).trans ((if_neg open_).trans
      ((if_neg (not_not.2 same)).trans ?_)))
    rw [State.aborted_of_live load live, State.finishing_occupancy]
    rfl
  · intro q left completes
    have decided := (State.abortLoad_of_record (number := number) load).trans ((if_neg (by simp [finishing])).trans
      (if_neg (not_not.2 same)))
    refine ⟨fun stays => State.next_serve waits (decided.trans ?_), fun ends => State.next_serve waits (decided.trans ?_)⟩
    · have occupancy : occupancyCode ((s.abortedFinishing a r).arms.get a).occ = 7 := by
        rw [State.occupancyCode_of_record (s.abortedFinishing_record a r), occupancyCode]
        have : r.abortedMarks.phase = .finishing := finishing
        rw [this]
      rw [State.aborted_of_finishing_eq load finishing, if_neg stays, occupancy]
      rfl
    · rw [State.aborted_of_finishing_eq load finishing, if_pos ends, State.completed_occupancy]
      rfl

/-- Settles O49: a removal takes the head and hands off the arm that waits longest, if one waits, and the age timer follows. -/
theorem recordQueueEvents : Obligations.RecordQueueEvents := by
  unfold Obligations.RecordQueueEvents
  intro s number figures
  refine ⟨fun waits => ⟨fun empty => ?empty, fun d rest queue => ?removal⟩, fun a waiters r waiter load room => ?handOff,
    fun idle => ?idle, fun running => ?running, fun due => ?due⟩
  case empty =>
    refine State.next_serve waits (?_ : s.removeRecord number = _)
    rw [State.removeRecord, empty]
    rfl
  case removal =>
    have decided : s.removeRecord number = if number ≠ d.figures.number then s.reply .mismatch []
        else { state := s.removed rest, code := .accepted
               fields := u16 number ++ u8 (s.removed rest).records.records.length ++
                 opt8 (s.records.wait.head?.map Fin.val) } := by
      rw [State.removeRecord, queue]
    refine ⟨fun other => State.next_serve waits (decided.trans (if_pos other)), fun same noWaiter => ?_,
      fun a waiters r same waiter load room => ?_⟩
    · refine State.next_serve waits (decided.trans ((if_neg (not_not.2 same)).trans ?_))
      rw [State.removed_of_noWaiter noWaiter, noWaiter]
      rfl
    · refine State.next_serve waits (decided.trans ((if_neg (not_not.2 same)).trans ?_))
      have length : (s.removed rest).records.records.length = rest.length + 1 := by
        rw [State.removed_of_waiter waiter load room]
        exact List.length_append
      rw [length, State.removed_of_waiter waiter load room, waiter]
      rfl
  case handOff => exact congrArg Host.Outcome.next (State.waitHandOff_of_waiter waiter load room)
  case idle => exact congrArg Host.Outcome.next (State.waitHandOff_of_none idle)
  case running => exact if_neg fun due => running ((Timer.due_eq_true _).1 due)
  case due => exact if_pos ((Timer.due_eq_true _).2 due)

end Sys2Proof.Proofs
end


section
/-! Reception on a line: characters, gaps, and the checks of a whole telegram (R180 to R184). -/

namespace Sys2Proof.Machine

variable {s : State} {l : Line} {y : LineState} {f g : LineState → LineState} {data head : Byte} {stopHigh mine : Bool}
  {b : Assembly} {body : List Byte} {sent : Nat}

/-! ### A line changed -/

theorem State.modLine_congr (l : Line) (same : f (s.line l) = g (s.line l)) : s.modLine l f = s.modLine l g := by
  cases l with
  | supervisor => exact congrArg (fun x => { s with supervisor := { s.supervisor with line := x } }) same
  | arm n =>
    have lines : s.armLines.upd n (fun x => { x with line := f x.line }) =
        s.armLines.upd n fun x => { x with line := g x.line } :=
      Bank.upd_congr _ _ (congrArg (fun x : LineState => { s.armLines.get n with line := x }) same)
    exact congrArg (fun x => { s with armLines := x }) lines

theorem State.modLine_self (l : Line) (same : f (s.line l) = s.line l) : s.modLine l f = s := by
  have stays : s.modLine l f = s.modLine l id := State.modLine_congr l same
  rw [stays]
  cases l with
  | supervisor => rfl
  | arm n =>
    have lines : s.armLines.upd n (fun x => { x with line := id x.line }) = s.armLines := Bank.upd_eq_self _ _ _ rfl
    exact congrArg (fun x => { s with armLines := x }) lines

theorem State.modLine_modLine (s : State) (l : Line) (f g : LineState → LineState) :
    (s.modLine l f).modLine l g = s.modLine l fun y => g (f y) := by
  cases l with
  | supervisor => rfl
  | arm n => simp only [State.modLine, Bank.upd_upd]

@[simp] theorem State.modLine_line (s : State) (l : Line) (f : LineState → LineState) :
    (s.modLine l f).line l = f (s.line l) := by
  cases l with
  | supervisor => rfl
  | arm n => simp [State.line, State.modLine]

/-! ### The buffer -/

/-- The head-abort count of a line whose partial telegram a head cuts off (R181, R186). -/
theorem LineState.abortPartial_eq (y : LineState) : y.abortPartial = { y with
    counters := if y.assembly = none then y.counters
      else { y.counters with
        headAbort := if y.counters.headAbort < 65535 then y.counters.headAbort + 1 else y.counters.headAbort } } := by
  unfold LineState.abortPartial
  by_cases idle : y.assembly = none
  · rw [if_neg (by simp [idle]), if_pos idle]
  · rw [if_pos (Option.isSome_iff_ne_none.2 idle), if_neg idle]
    rfl

theorem completeChars_eq_true (chars : List Byte) :
    completeChars chars = true ↔ ∃ h n rest, chars = h :: n :: rest ∧ chars.length = 4 + n.toNat := by
  match chars with
  | [] => simp [completeChars]
  | [h] => simp [completeChars]
  | h :: n :: rest => simp [completeChars]

theorem LineState.takeOther_of_zeroLength (assembling : y.assembly = some b) (second : b.chars.length = 1) :
    y.takeOther 0 stopHigh = y.dropPartial.countPoisoned := by
  unfold LineState.takeOther
  rw [assembling]
  exact if_pos ⟨second, rfl⟩

theorem LineState.takeOther_of_next (assembling : y.assembly = some b) (valid : b.chars.length = 1 → data ≠ 0) :
    y.takeOther data stopHigh = y.extend b data stopHigh := by
  unfold LineState.takeOther
  rw [assembling]
  exact if_neg fun h => valid h.1 h.2

theorem LineState.takeOther_of_idle (idle : y.assembly = none) : y.takeOther data stopHigh = y := by
  unfold LineState.takeOther
  rw [idle]

/-! ### A character on a line that receives -/

/-- The line takes a head of this value: an arm line any, the supervisor line the station address and 0 (R181, R183). -/
def State.takesHead (s : State) (l : Line) (data : Byte) : Bool :=
  match l with
  | .supervisor => s.headForStation data
  | .arm _ => true

theorem State.takesHead_eq_true (s : State) (l : Line) (data : Byte) :
    s.takesHead l data = true ↔ (l = .supervisor → data.toNat = s.address.toNat ∨ data = 0) := by
  cases l with
  | supervisor => simp [State.takesHead, State.headForStation]
  | arm n => simp [State.takesHead]

/-- The line receives: it is an arm line, or the supervisor line of a station with an address and sending no reply (R183). -/
def State.receiving (s : State) (l : Line) : Prop := l = .supervisor → s.address ≠ 0 ∧ s.supervisor.transmitting = false

theorem exec_characterReceived_of_receiving (ready : s.receiving l) (data : Byte) (marker stopHigh : Bool) :
    exec (.characterReceived l data marker stopHigh) s =
      .next (s.modLine l fun y => y.receive data marker stopHigh (s.takesHead l data)) := by
  cases l with
  | supervisor =>
    obtain ⟨address, idle⟩ := ready rfl
    exact congrArg Host.Outcome.next ((if_neg address).trans (if_neg (by rw [idle]; exact Bool.false_ne_true)))
  | arm n => rfl

theorem exec_characterGapTimeout_of_due (assembling : (s.line l).assembly = some b) (due : 2000 ≤ b.gap) :
    exec (.characterGapTimeout l) s = .next (s.modLine l fun y =>
      { y with assembly := none, counters := { y.counters with
          timeout := if y.counters.timeout < 65535 then y.counters.timeout + 1 else y.counters.timeout } }) :=
  if_pos ((LineState.gapDue_eq_true _).2 ⟨b, assembling, due⟩)

theorem exec_characterGapTimeout_of_early (assembling : (s.line l).assembly = some b) (early : b.gap < 2000) :
    exec (.characterGapTimeout l) s = .next s := by
  refine if_neg fun due => ?_
  obtain ⟨c, same, late⟩ := (LineState.gapDue_eq_true _).1 due
  obtain rfl : b = c := Option.some.inj (assembling.symm.trans same)
  omega

/-! ### A whole telegram taken apart -/

theorem rd16_u16 (fits : sent < 65536) : rd16 (BitVec.ofNat 8 (sent / 256)) (BitVec.ofNat 8 sent) = sent := by
  simp only [rd16, BitVec.toNat_ofNat]
  omega

theorem splitTelegram_of_whole (head : Byte) (most : body.length ≤ 255) (fits : sent < 65536) :
    splitTelegram (head :: BitVec.ofNat 8 body.length :: (body ++ u16 sent)) = some (head, body, sent) := by
  have length : (BitVec.ofNat 8 body.length).toNat = body.length := by
    rw [BitVec.toNat_ofNat]; omega
  simp only [splitTelegram, length, List.drop_left, List.take_left, u16, rd16_u16 fits]

theorem checkAgrees_eq_true : checkAgrees head body sent = true ↔
    sent = (checkValue (head :: BitVec.ofNat 8 body.length :: body)).toNat := by
  rw [checkAgrees, beq_iff_eq, eq_comm]
  rfl

theorem u8_toNat (b : Byte) : u8 b.toNat = [b] := by rw [u8, BitVec.ofNat_toNat]; rfl

/-- The requests that a station executes as broadcast (Table 10-1). -/
theorem executedOnBroadcast_eq_true (c : Instr) : executedOnBroadcast c = true ↔
    (∃ n, c = .setClock n) ∨ (∃ nf ls w st al, c = .setStation nf ls w st al) ∨
    (∃ trigger age, c = .setRecordNotice trigger age) ∨ c = .terminalStop := by
  cases c with
  | _ => simp [executedOnBroadcast]

/-! ### A telegram taken -/

variable {later : List Telegram}

/-- The state with the first telegram of the line taken out of the list of those received whole. -/
def State.taken (s : State) (l : Line) (later : List Telegram) : State := s.modLine l fun y => { y with received := later }

theorem exec_telegramReceived_of_poisoned {chars : List Byte}
    (first : (s.line l).received = { chars := chars, poisoned := true } :: later) :
    exec (.telegramReceived l) s = .next ((s.taken l later).modLine l LineState.countPoisoned) := by
  have taken : exec (.telegramReceived l) s = execTelegramReceived l s := rfl
  rw [taken, execTelegramReceived, first]
  rfl

theorem exec_telegramReceived_of_sound {chars : List Byte}
    (first : (s.line l).received = { chars := chars, poisoned := false } :: later) :
    exec (.telegramReceived l) s = .next ((s.taken l later).checkTelegram l chars) := by
  have taken : exec (.telegramReceived l) s = execTelegramReceived l s := rfl
  rw [taken, execTelegramReceived, first]
  rfl

/-- The checks of R182 on a whole telegram. -/
theorem State.checkTelegram_of_whole (s : State) (l : Line) (head : Byte) (most : body.length ≤ 255) (fits : sent < 65536) :
    s.checkTelegram l (head :: BitVec.ofNat 8 body.length :: (body ++ u16 sent)) =
      if sent ≠ (checkValue (head :: BitVec.ofNat 8 body.length :: body)).toNat then
        s.modLine l fun y => { y with counters := { y.counters with crc := countUp y.counters.crc } }
      else if headAgrees l head = false then
        s.modLine l fun y => { y with counters := { y.counters with misdirected := countUp y.counters.misdirected } }
      else (s.heard l).modLine l fun y => y.enter (slotOfTelegram l head body) := by
  unfold State.checkTelegram
  rw [splitTelegram_of_whole head most fits]
  refine if_congr ?_ rfl (if_congr (by simp) rfl rfl)
  rw [Bool.not_eq_true', Bool.eq_false_iff, Ne, checkAgrees_eq_true]

theorem LineState.enter_of_full (full : y.slot ≠ none) (p : Option Slot) : LineState.enter { y with received := later } p =
    { y with
      received := later
      counters := { y.counters with
        overlap := if y.counters.overlap < 65535 then y.counters.overlap + 1 else y.counters.overlap } } :=
  if_pos (Option.isSome_iff_ne_none.2 full)

theorem LineState.enter_of_free (free : y.slot = none) (p : Option Slot) :
    LineState.enter { y with received := later } p = { y with received := later, slot := p } :=
  if_neg (by dsimp only; rw [free]; exact Bool.false_ne_true)

/-- The slot of a request that is not a broadcast (R184). -/
theorem slotOfTelegram_of_addressed (addressed : ¬ (l = .supervisor ∧ head = 0)) :
    slotOfTelegram l head body = some (slotOfRequest ((body.headD 0).toNat) (parseRequest l body)) := if_neg addressed

theorem slotOfTelegram_of_broadcast : slotOfTelegram .supervisor 0 body = slotOfBroadcast (parseSupervisor body) :=
  if_pos ⟨rfl, rfl⟩

/-- A request refused by the line itself is answered at once with its type and the code (R184). -/
theorem slotOfRequest_unknown (b : Byte) : slotOfRequest b.toNat .unknown =
    { handed := none, broadcast := false, reply := some [b, 4], restart := false } := by
  rw [slotOfRequest, u8_toNat]; rfl

theorem slotOfRequest_badLength (b : Byte) : slotOfRequest b.toNat .badLength =
    { handed := none, broadcast := false, reply := some [b, 3], restart := false } := by
  rw [slotOfRequest, u8_toNat]; rfl

/-- What the entry of a telegram into the slot of an arm line leaves, said by what it makes of the line (R99, R182). -/
theorem State.entered_arm {n : Arm} {p : Option Slot} (made : LineState.enter { s.line (.arm n) with received := later } p =
    f { s.line (.arm n) with received := later }) :
    ((s.taken (.arm n) later).heard (.arm n)).modLine (.arm n) (fun y => y.enter p) =
      { s.modLine (.arm n) fun y => f { y with received := later } with
        arms := s.arms.upd n fun c => { c with
          linkSilence := if c.linkSilence.runs = true then .running (s.settings.linkSilence * 100000) else c.linkSilence } } := by
  have line := State.modLine_congr (f := fun y => LineState.enter { y with received := later } p)
    (g := fun y => f { y with received := later }) (.arm n) made
  rw [← line]
  simp only [State.taken, State.heard, State.modLine, State.modArm, Bank.upd_upd]
  rfl

theorem State.entered_supervisor {p : Option Slot} (made : LineState.enter { s.line .supervisor with received := later } p =
    f { s.line .supervisor with received := later }) :
    ((s.taken .supervisor later).heard .supervisor).modLine .supervisor (fun y => y.enter p) =
      s.modLine .supervisor fun y => f { y with received := later } :=
  State.modLine_congr (s := s) (f := fun y => LineState.enter { y with received := later } p)
    (g := fun y => f { y with received := later }) .supervisor made

end Sys2Proof.Machine

namespace Sys2Proof.Proofs

open Sys2Proof.Machine

/-- Settles O55: a line that receives takes each character by its marker, its place and its value. -/
theorem charactersAreAssembled : Obligations.CharactersAreAssembled := by
  unfold Obligations.CharactersAreAssembled
  refine fun s l => ⟨fun data marker stopHigh =>
      ⟨fun none => congrArg Host.Outcome.next (if_pos none), fun address sending => ?_⟩,
    fun ready => ⟨fun data stopHigh takes => ?_, fun data stopHigh sup other notZero => ?_, fun data stopHigh idle => ?_,
      fun b stopHigh assembling second => ?_, fun b data stopHigh assembling valid => ?_⟩,
    fun b assembling => ⟨exec_characterGapTimeout_of_early assembling, exec_characterGapTimeout_of_due assembling⟩⟩
  · exact congrArg Host.Outcome.next ((if_neg address).trans (if_pos sending))
  · rw [exec_characterReceived_of_receiving ready, (s.takesHead_eq_true l data).2 takes]
    refine congrArg Host.Outcome.next (State.modLine_congr l ?_)
    simp only [LineState.receive, if_true, LineState.takeHead, LineState.abortPartial_eq]
  · have passed : s.takesHead l data = false := by
      rw [Bool.eq_false_iff, Ne, State.takesHead_eq_true]
      exact fun h => (h sup).elim other notZero
    rw [exec_characterReceived_of_receiving ready, passed]
    refine congrArg Host.Outcome.next (State.modLine_congr l ?_)
    simp only [LineState.receive, if_true, LineState.dropPartial, LineState.abortPartial_eq]
    rfl
  · rw [exec_characterReceived_of_receiving ready]
    exact congrArg Host.Outcome.next (State.modLine_self l (LineState.takeOther_of_idle idle))
  · rw [exec_characterReceived_of_receiving ready]
    exact congrArg Host.Outcome.next (State.modLine_congr l (LineState.takeOther_of_zeroLength assembling second))
  · rw [exec_characterReceived_of_receiving ready]
    have next := LineState.takeOther_of_next (stopHigh := stopHigh) assembling valid
    exact ⟨fun whole => congrArg Host.Outcome.next (State.modLine_congr l
        (next.trans (if_pos ((completeChars_eq_true _).2 whole)))),
      fun part => congrArg Host.Outcome.next (State.modLine_congr l
        (next.trans (if_neg fun h => part ((completeChars_eq_true _).1 h))))⟩

/-- Settles O56: the checks of R182 in their order, then the slot, by the line and by the head. -/
theorem telegramChecksInOrder : Obligations.TelegramChecksInOrder := by
  unfold Obligations.TelegramChecksInOrder
  intro s l head body later sent bad whole first least most fits heads after up check holds
  have checked (sound : bad = false) : exec (.telegramReceived l) s = .next
      (if sent ≠ check then
        (s.taken l later).modLine l fun y => { y with counters := { y.counters with crc := countUp y.counters.crc } }
      else if headAgrees l head = false then
        (s.taken l later).modLine l fun y =>
          { y with counters := { y.counters with misdirected := countUp y.counters.misdirected } }
      else ((s.taken l later).heard l).modLine l fun y => y.enter (slotOfTelegram l head body)) := by
    rw [exec_telegramReceived_of_sound (sound ▸ first), State.checkTelegram_of_whole _ l head most fits]
  have entered (sound : bad = false) (agrees : sent = check) (mine : headAgrees l head = true) :
      exec (.telegramReceived l) s =
        .next (((s.taken l later).heard l).modLine l fun y => y.enter (slotOfTelegram l head body)) := by
    rw [checked sound, if_neg (not_not.2 agrees), if_neg (by rw [mine]; exact Bool.noConfusion)]
  refine ⟨fun poisoned => ?_, fun sound differs => ?_, fun n arm => ?_, fun sup sound agrees => ?_⟩
  · rw [exec_telegramReceived_of_poisoned (poisoned ▸ first), State.taken, State.modLine_modLine]
    rfl
  · rw [checked sound, if_pos differs, State.taken, State.modLine_modLine]
    rfl
  · subst arm
    refine ⟨fun sound agrees other => ?_, fun sound agrees mine => ?_⟩
    · have otherArm : headAgrees (.arm n) head = false := decide_eq_false other
      rw [checked sound, if_neg (not_not.2 agrees), if_pos otherArm, State.taken, State.modLine_modLine]
      rfl
    · intro heard
      have addressed := slotOfTelegram_of_addressed (l := .arm n) (head := head) (body := body) (by simp)
      have enters := entered sound agrees (decide_eq_true mine)
      have full (full : (s.line (.arm n)).slot ≠ none) : exec (.telegramReceived (.arm n)) s = .next (heard fun y =>
          { y with counters := { y.counters with overlap := up y.counters.overlap } }) := by
        rw [enters]
        exact congrArg Host.Outcome.next (State.entered_arm (f := fun y => { y with counters := { y.counters with
          overlap := up y.counters.overlap } }) (LineState.enter_of_full full _))
      have filled {p : Option Slot} (free : (s.line (.arm n)).slot = none) (slot : slotOfTelegram (.arm n) head body = p) :
          exec (.telegramReceived (.arm n)) s = .next (heard fun y => { y with slot := p }) := by
        rw [enters, slot]
        exact congrArg Host.Outcome.next (State.entered_arm (f := fun y => { y with slot := p })
          (LineState.enter_of_free free _))
      refine ⟨full, fun free => ⟨fun unknown => filled free ?_, fun badLength => filled free ?_,
        fun c request => filled free ?_⟩⟩
      · rw [addressed, parseRequest, unknown, slotOfRequest_unknown]
      · rw [addressed, parseRequest, badLength, slotOfRequest_badLength]
      · rw [addressed, parseRequest, request, slotOfRequest]
  · subst sup
    intro executed
    have enters := entered sound agrees rfl
    have full (full : (s.line .supervisor).slot ≠ none) : exec (.telegramReceived .supervisor) s = .next (after fun y =>
        { y with counters := { y.counters with overlap := up y.counters.overlap } }) := by
      rw [enters]
      exact congrArg Host.Outcome.next (State.entered_supervisor (f := fun y => { y with counters := { y.counters with
        overlap := up y.counters.overlap } }) (LineState.enter_of_full full _))
    have filled {p : Option Slot} (free : (s.line .supervisor).slot = none) (slot : slotOfTelegram .supervisor head body = p) :
        exec (.telegramReceived .supervisor) s = .next (after fun y => { y with slot := p }) := by
      rw [enters, slot]
      exact congrArg Host.Outcome.next (State.entered_supervisor (f := fun y => { y with slot := p })
        (LineState.enter_of_free free _))
    refine ⟨full, fun free notZero => ?_, fun free zero => ?_⟩
    · have addressed := slotOfTelegram_of_addressed (l := .supervisor) (head := head) (body := body) fun h => notZero h.2
      refine ⟨fun unknown => filled free ?_, fun badLength => filled free ?_, fun c request => filled free ?_⟩
      · rw [addressed, parseRequest, unknown, slotOfRequest_unknown]
      · rw [addressed, parseRequest, badLength, slotOfRequest_badLength]
      · rw [addressed, parseRequest, request, slotOfRequest]
    · have broadcast : slotOfTelegram .supervisor head body = slotOfBroadcast (parseSupervisor body) := by
        rw [zero, slotOfTelegram_of_broadcast]
      refine ⟨fun c request isExecuted => filled free ?_, fun ignored => ?_⟩
      · rw [broadcast, request, slotOfBroadcast, if_pos ((executedOnBroadcast_eq_true c).2 isExecuted)]
      · have nothing : slotOfBroadcast (parseSupervisor body) = none := by
          cases parsed : parseSupervisor body with
          | unknown => rfl
          | badLength => rfl
          | request c => exact if_neg fun h => ignored c parsed ((executedOnBroadcast_eq_true c).1 h)
        refine (filled free (broadcast.trans nothing)).trans (congrArg Host.Outcome.next (State.modLine_congr .supervisor ?_))
        rw [← free]
        rfl

end Sys2Proof.Proofs
end


section
/-! Request bodies read back (R193, Tables 10-1, 10-9 and 10-11): numbers, the fields of each kind of request, and the requests
of each line. -/

namespace Sys2Proof.Machine

/-! ### Numbers -/

theorem toNat_ofNat_of_fits1 {n : Nat} (fits : fits1 n = true) : (BitVec.ofNat 8 n).toNat = n :=
  Nat.mod_eq_of_lt (of_decide_eq_true fits)

theorem rd16_of_fits2 {n : Nat} (fits : fits2 n = true) : rd16 (BitVec.ofNat 8 (n / 256)) (BitVec.ofNat 8 n) = n :=
  rd16_u16 (of_decide_eq_true fits)

theorem rd32_of_fits4 {n : Nat} (fits : fits4 n = true) : rd32 (BitVec.ofNat 8 (n / 16777216)) (BitVec.ofNat 8 (n / 65536))
    (BitVec.ofNat 8 (n / 256)) (BitVec.ofNat 8 n) = n := by
  have bound : n < 4294967296 := of_decide_eq_true fits
  simp only [rd32, BitVec.toNat_ofNat]
  omega

/-! ### The fields of a request -/

variable {n m : Nat} {f : Nat → Instr} {g : Nat → Nat → Instr}

theorem parse1_u8 (fits : fits1 n = true) : parse1 f (u8 n) = .request (f n) := by
  simp only [parse1, u8, toNat_ofNat_of_fits1 fits]

theorem parse11_u8 (fits : fits1 n = true ∧ fits1 m = true) : parse11 g (u8 n ++ u8 m) = .request (g n m) := by
  simp only [parse11, u8, List.cons_append, List.nil_append, toNat_ofNat_of_fits1 fits.1, toNat_ofNat_of_fits1 fits.2]

theorem parseSetClock_u32 (fits : fits4 n = true) : parseSetClock (u32 n) = .request (.setClock n) := by
  simp only [parseSetClock, u32, rd32_of_fits4 fits]

theorem parseRemove_u16 (fits : fits2 n = true) : parseRemove (u16 n) = .request (.removeRecord n) := by
  simp only [parseRemove, u16, rd16_of_fits2 fits]

theorem parseRefill_fields (wf : (Instr.refillUnit n m).wf = true) :
    parseRefill (u8 n ++ u32 m) = .request (.refillUnit n m) := by
  simp only [Instr.wf, Bool.and_eq_true] at wf
  simp only [parseRefill, u8, u32, List.cons_append, List.nil_append, toNat_ofNat_of_fits1 wf.1, rd32_of_fits4 wf.2]

theorem parseAbort_fields (wf : (Instr.abortLoad n m).wf = true) :
    parseAbort (u8 n ++ u16 m) = .request (.abortLoad n m) := by
  simp only [Instr.wf, Bool.and_eq_true] at wf
  simp only [parseAbort, u8, u16, List.cons_append, List.nil_append, toNat_ofNat_of_fits1 wf.1, rd16_of_fits2 wf.2]

theorem parseSetMeters_fields {arm kb ke fb fe mb me : Nat} (wf : (Instr.setMeters arm kb ke fb fe mb me).wf = true) :
    parseSetMeters (u8 arm ++ u32 kb ++ u32 ke ++ u8 fb ++ u8 fe ++ u16 mb ++ u16 me) =
      .request (.setMeters arm kb ke fb fe mb me) := by
  simp only [Instr.wf, Bool.and_eq_true] at wf
  obtain ⟨⟨⟨⟨⟨⟨h1, h2⟩, h3⟩, h4⟩, h5⟩, h6⟩, h7⟩ := wf
  simp only [parseSetMeters, u8, u16, u32, List.cons_append, List.nil_append, toNat_ofNat_of_fits1 h1, rd32_of_fits4 h2,
    rd32_of_fits4 h3, toNat_ofNat_of_fits1 h4, toNat_ofNat_of_fits1 h5, rd16_of_fits2 h6, rd16_of_fits2 h7]

theorem parseSetStation_fields {nf ls w st al : Nat} (wf : (Instr.setStation nf ls w st al).wf = true) :
    parseSetStation (u16 nf ++ u8 ls ++ u16 w ++ u8 st ++ u16 al) = .request (.setStation nf ls w st al) := by
  simp only [Instr.wf, Bool.and_eq_true] at wf
  obtain ⟨⟨⟨⟨h1, h2⟩, h3⟩, h4⟩, h5⟩ := wf
  simp only [parseSetStation, u8, u16, List.cons_append, List.nil_append, rd16_of_fits2 h1, toNat_ofNat_of_fits1 h2,
    rd16_of_fits2 h3, toNat_ofNat_of_fits1 h4, rd16_of_fits2 h5]

theorem parseSetHeader_fields {sl h ft al th : Nat} (wf : (Instr.setHeader sl h ft al th).wf = true) :
    parseSetHeader (u8 sl ++ u16 h ++ u8 ft ++ u16 al ++ u16 th) = .request (.setHeader sl h ft al th) := by
  simp only [Instr.wf, Bool.and_eq_true] at wf
  obtain ⟨⟨⟨⟨h1, h2⟩, h3⟩, h4⟩, h5⟩ := wf
  simp only [parseSetHeader, u8, u16, List.cons_append, List.nil_append, toNat_ofNat_of_fits1 h1, rd16_of_fits2 h2,
    toNat_ofNat_of_fits1 h3, rd16_of_fits2 h4, rd16_of_fits2 h5]

theorem parseSetUnit_fields {u sh lo tmo st : Nat} (wf : (Instr.setUnit u sh lo tmo st).wf = true) :
    parseSetUnit (u8 u ++ u8 sh ++ u32 lo ++ u16 tmo ++ u16 st) = .request (.setUnit u sh lo tmo st) := by
  simp only [Instr.wf, Bool.and_eq_true] at wf
  obtain ⟨⟨⟨⟨h1, h2⟩, h3⟩, h4⟩, h5⟩ := wf
  simp only [parseSetUnit, u8, u16, u32, List.cons_append, List.nil_append, toNat_ofNat_of_fits1 h1,
    toNat_ofNat_of_fits1 h2, rd32_of_fits4 h3, rd16_of_fits2 h4, rd16_of_fits2 h5]

theorem parseSetStop_fields {e0 e1 e2 e3 : Nat} (wf : (Instr.setStopInputs e0 e1 e2 e3).wf = true) :
    parseSetStop (u8 e0 ++ u8 e1 ++ u8 e2 ++ u8 e3) = .request (.setStopInputs e0 e1 e2 e3) := by
  simp only [Instr.wf, Bool.and_eq_true] at wf
  obtain ⟨⟨⟨h1, h2⟩, h3⟩, h4⟩ := wf
  simp only [parseSetStop, u8, List.cons_append, List.nil_append, toNat_ofNat_of_fits1 h1, toNat_ofNat_of_fits1 h2,
    toNat_ofNat_of_fits1 h3, toNat_ofNat_of_fits1 h4]

theorem parseAuthorize_fields {a : Arm} {code preset : Nat} {bill : List Byte}
    (wf : (Instr.authorize a code preset bill).wf = true) :
    parseAuthorize a (u16 code ++ u32 preset ++ bill) = .request (.authorize a code preset bill) := by
  simp only [Instr.wf, Bool.and_eq_true, decide_eq_true_eq] at wf
  obtain ⟨⟨⟨fits, presetFits⟩, least⟩, most⟩ := wf
  simp only [u16, u32, List.cons_append, List.nil_append, parseAuthorize, rd16_of_fits2 fits, rd32_of_fits4 presetFits]
  exact if_pos ⟨least, most⟩

/-! ### DEFINE RECIPE -/

/-- The additive items of a definition read back, four characters each. -/
theorem parseItems_flatMap (items : List AdditiveField) (wf : ∀ i ∈ items, i.wf = true) :
    parseItems (items.flatMap additiveBody) = items := by
  induction items with
  | nil => rfl
  | cons i rest ih =>
    have itemWf := wf i (List.mem_cons_self ..)
    simp only [AdditiveField.wf, Bool.and_eq_true] at itemWf
    obtain ⟨⟨unit, rate⟩, required⟩ := itemWf
    simp only [List.flatMap_cons, additiveBody, u8, u16, List.cons_append, List.nil_append, parseItems,
      toNat_ofNat_of_fits1 unit, rd16_of_fits2 rate, toNat_ofNat_of_fits1 required]
    exact congrArg (List.cons i) (ih fun j mem => wf j (List.mem_cons_of_mem _ mem))

theorem flatMap_additiveBody_length (items : List AdditiveField) :
    (items.flatMap additiveBody).length = 4 * items.length := by
  induction items with
  | nil => rfl
  | cons i rest ih =>
    rw [List.flatMap_cons, List.length_append, ih, List.length_cons]
    simp only [additiveBody, u8, u16, List.length_append, List.length_cons, List.length_nil]
    omega

theorem parseDefine_fields {f : RecipeFields} (wf : f.wf = true) : parseDefine (recipeBody f) = .request (.defineRecipe f) := by
  simp only [RecipeFields.wf, Bool.and_eq_true, decide_eq_true_eq, List.all_eq_true] at wf
  obtain ⟨⟨⟨⟨⟨⟨⟨⟨⟨⟨⟨entry, code⟩, ratio⟩, tolerance⟩, alpha⟩, flush⟩, step⟩, restrict⟩, hard⟩, permitted⟩, most⟩,
    items⟩ := wf
  have count : (BitVec.ofNat 8 f.items.length).toNat = f.items.length :=
    toNat_ofNat_of_fits1 (decide_eq_true (by omega))
  simp only [recipeBody, u8, u16, u32, List.cons_append, List.nil_append, parseDefine, count,
    flatMap_additiveBody_length, if_true, toNat_ofNat_of_fits1 entry, rd16_of_fits2 code, rd16_of_fits2 ratio,
    rd16_of_fits2 tolerance, rd16_of_fits2 alpha, rd16_of_fits2 flush, rd16_of_fits2 step, rd32_of_fits4 restrict,
    rd32_of_fits4 hard, toNat_ofNat_of_fits1 permitted, parseItems_flatMap f.items items]

/-! ### The body of each request -/

/-- The request's body reads back on its line. -/
def ReadsBack (c : Instr) : Prop :=
  ∀ (l : Line) (body : List Byte), requestLine c = some l → requestBody c = some body → parseRequest l body = .request c

theorem ReadsBack.of {c : Instr} {l : Line} {body : List Byte} (line : requestLine c = some l)
    (fields : requestBody c = some body) (reads : parseRequest l body = .request c) : ReadsBack c := fun l' body' line' fields' => by
  obtain rfl : l = l' := Option.some.inj (line.symm.trans line')
  obtain rfl : body = body' := Option.some.inj (fields.symm.trans fields')
  exact reads

theorem ReadsBack.of_none {c : Instr} (fields : requestBody c = none) : ReadsBack c := fun _ _ _ some => by
  rw [fields] at some; cases some

theorem readsBack_of_wf (c : Instr) (wf : c.wf = true) : ReadsBack c := by
  have pair {x y : Bool} (both : (x && y) = true) : x = true ∧ y = true := (Bool.and_eq_true ..).mp both
  cases c with
  | setClock n => exact .of rfl rfl (parseSetClock_u32 wf)
  | readStation => exact .of rfl rfl rfl
  | readLines => exact .of rfl rfl rfl
  | readNoticeSupervisor => exact .of rfl rfl rfl
  | restart force => exact .of rfl rfl (parse1_u8 wf)
  | setMeters => exact .of rfl rfl (parseSetMeters_fields wf)
  | readMeters arm => exact .of rfl rfl (parse1_u8 wf)
  | readScan => exact .of rfl rfl rfl
  | defineRecipe f => exact .of rfl rfl (parseDefine_fields wf)
  | withdrawRecipe e => exact .of rfl rfl (parse1_u8 wf)
  | readRecipe e => exact .of rfl rfl (parse1_u8 wf)
  | setArmService arm service => exact .of rfl rfl (parse11_u8 (pair wf))
  | abortLoad => exact .of rfl rfl (parseAbort_fields wf)
  | readLoad arm => exact .of rfl rfl (parse1_u8 wf)
  | setStation => exact .of rfl rfl (parseSetStation_fields wf)
  | lastSummarySupervisor arm => exact .of rfl rfl (parse1_u8 wf)
  | setHeader => exact .of rfl rfl (parseSetHeader_fields wf)
  | readHeader => exact .of rfl rfl rfl
  | setUnit => exact .of rfl rfl (parseSetUnit_fields wf)
  | setUnitService unit service => exact .of rfl rfl (parse11_u8 (pair wf))
  | refillUnit => exact .of rfl rfl (parseRefill_fields wf)
  | clearUnit unit => exact .of rfl rfl (parse1_u8 wf)
  | readUnit unit => exact .of rfl rfl (parse1_u8 wf)
  | readRecord => exact .of rfl rfl rfl
  | removeRecord n => exact .of rfl rfl (parseRemove_u16 wf)
  | setRecordNotice trigger age => exact .of rfl rfl (parse11_u8 (pair wf))
  | setStopInputs => exact .of rfl rfl (parseSetStop_fields wf)
  | terminalStop => exact .of rfl rfl rfl
  | terminalResume => exact .of rfl rfl rfl
  | authorize => exact .of rfl rfl (parseAuthorize_fields wf)
  | pause n => exact .of (l := .arm n) rfl rfl rfl
  | resume n => exact .of (l := .arm n) rfl rfl rfl
  | endLoad n => exact .of (l := .arm n) rfl rfl rfl
  | loadStatus n => exact .of (l := .arm n) rfl rfl rfl
  | lastSummaryArm n => exact .of (l := .arm n) rfl rfl rfl
  | readNoticeArm n => exact .of (l := .arm n) rfl rfl rfl
  | _ => exact .of_none rfl

end Sys2Proof.Machine

namespace Sys2Proof.Proofs

open Sys2Proof.Machine

/-- Settles O13: the fields of every kind of request read back, in the requests of each line. -/
theorem requestBodiesReadBack : Obligations.RequestBodiesReadBack := by
  unfold Obligations.RequestBodiesReadBack
  exact fun c l body wf => readsBack_of_wf c wf l body

end Sys2Proof.Proofs
end


section
/-! A whole telegram, character by character (R180 to R184): the characters of a frame assemble, the last hands the telegram on,
and the telegram puts its request into the line's slot. -/

namespace Sys2Proof.Machine

variable {s t : State} {l : Line} {chars rest whole body : List Byte} {data head len : Byte} {tail : List Instr}

/-! ### A run, command by command -/

theorem run_next {M : Host.Core} {s t : M.State} (next : M.step s = .next t) (n : Nat) : M.run (n + 1) s = M.run n t := by
  rw [Host.Core.run, next]

theorem run_command {c : Instr} {later : List Instr} (pending : s.pending = c :: later)
    (next : exec c { s with pending := later } = .next t) (n : Nat) :
    Host.Core.run Sys2Proof.core (n + 1) s = Host.Core.run Sys2Proof.core n t := by
  refine run_next (M := Sys2Proof.core) (s := s) (.trans ?_ next) n
  change step s = _
  rw [step, pending]

@[simp] theorem State.modLine_pending (s : State) (l : Line) (f : LineState → LineState) :
    (s.modLine l f).pending = s.pending := by
  cases l with
  | supervisor => rfl
  | arm n => rfl

theorem State.modLine_receiving (ready : s.receiving l) (f : LineState → LineState) : (s.modLine l f).receiving l := by
  cases l with
  | supervisor => exact ready
  | arm n => exact nofun

/-! ### A telegram being assembled -/

/-- The line, which receives and holds nothing, has these characters of a sound telegram in its buffer. -/
structure Assembling (l : Line) (chars : List Byte) (t : State) : Prop where
  receiving : t.receiving l
  assembly : (t.line l).assembly = some { chars := chars, poisoned := false, gap := 0 }
  received : (t.line l).received = []
  slot : (t.line l).slot = none

/-- The line, which holds nothing, has received one sound telegram whole. -/
structure ReceivedWhole (l : Line) (chars : List Byte) (t : State) : Prop where
  received : (t.line l).received = [{ chars := chars, poisoned := false }]
  slot : (t.line l).slot = none

theorem State.line_of_pending (s : State) (later : List Instr) (l : Line) :
    State.line { s with pending := later } l = s.line l := by
  cases l with
  | supervisor => rfl
  | arm n => rfl

theorem State.takesHead_of_pending (s : State) (later : List Instr) (l : Line) (data : Byte) :
    State.takesHead { s with pending := later } l data = s.takesHead l data := by
  cases l with
  | supervisor => rfl
  | arm n => rfl

theorem Assembling.pending {later : List Instr} (h : Assembling l chars t) :
    Assembling l chars { t with pending := later } := by
  have line := t.line_of_pending later l
  exact ⟨h.receiving, line ▸ h.assembly, line ▸ h.received, line ▸ h.slot⟩

theorem ReceivedWhole.pending {later : List Instr} (h : ReceivedWhole l chars t) :
    ReceivedWhole l chars { t with pending := later } := by
  have line := t.line_of_pending later l
  exact ⟨line ▸ h.received, line ▸ h.slot⟩

/-- A head that the line takes begins a telegram. -/
theorem Assembling.of_head (ready : t.receiving l) (takes : t.takesHead l data = true) (received : (t.line l).received = [])
    (slot : (t.line l).slot = none) :
    ∃ u, exec (.characterReceived l data true true) t = .next u ∧ u.pending = t.pending ∧ Assembling l [data] u := by
  have line : (t.line l).receive data true true true =
      { (t.line l).abortPartial with assembly := some { chars := [data], poisoned := false, gap := 0 } } := rfl
  refine ⟨_, exec_characterReceived_of_receiving ready data true true, State.modLine_pending .., ?_⟩
  rw [takes]
  constructor
  · exact State.modLine_receiving ready _
  all_goals rw [State.modLine_line, line, LineState.abortPartial_eq]
  · exact received
  · exact slot

/-- What the next character makes of the line. -/
theorem Assembling.receive (h : Assembling l chars t) (valid : chars.length = 1 → data ≠ 0) :
    (t.line l).receive data false true (t.takesHead l data) =
      (t.line l).extend { chars := chars, poisoned := false, gap := 0 } data true :=
  LineState.takeOther_of_next h.assembly valid

/-- A character that does not complete the telegram joins it. -/
theorem Assembling.next (h : Assembling l chars t) (valid : chars.length = 1 → data ≠ 0)
    (part : completeChars (chars ++ [data]) = false) :
    ∃ u, exec (.characterReceived l data false true) t = .next u ∧ u.pending = t.pending ∧ Assembling l (chars ++ [data]) u := by
  have line := (h.receive valid).trans (if_neg (by rw [part]; exact Bool.false_ne_true))
  refine ⟨_, exec_characterReceived_of_receiving h.receiving data false true, State.modLine_pending .., ?_⟩
  constructor
  · exact State.modLine_receiving h.receiving _
  all_goals rw [State.modLine_line, line]
  · rfl
  · exact h.received
  · exact h.slot

/-- The character that completes the telegram hands it on. -/
theorem Assembling.last (h : Assembling l chars t) (valid : chars.length = 1 → data ≠ 0)
    (complete : completeChars (chars ++ [data]) = true) :
    ∃ u, exec (.characterReceived l data false true) t = .next u ∧ u.pending = t.pending ∧
      ReceivedWhole l (chars ++ [data]) u := by
  have line := (h.receive valid).trans (if_pos complete)
  refine ⟨_, exec_characterReceived_of_receiving h.receiving data false true, State.modLine_pending .., ?_⟩
  constructor
  all_goals rw [State.modLine_line, line]
  · exact congrArg (· ++ [({ chars := chars ++ [data], poisoned := false } : Telegram)]) h.received
  · exact h.slot

/-! ### The characters of a whole telegram -/

/-- The characters are a whole telegram's: a head, a length that is not 0, and as many characters as the length says. -/
def WholeChars (whole : List Byte) : Prop := ∃ h n later, whole = h :: n :: later ∧ n ≠ 0 ∧ whole.length = 4 + n.toNat

/-- A telegram is complete with its last character, and with none before it. -/
theorem WholeChars.complete_iff (is : WholeChars whole) (splits : chars ++ rest = whole) (long : 2 ≤ chars.length) :
    completeChars chars = true ↔ rest = [] := by
  obtain ⟨h, n, later, rfl, -, length⟩ := is
  match chars, long with
  | h' :: n' :: more, _ =>
    rw [List.cons_append, List.cons_append, List.cons_eq_cons, List.cons_eq_cons] at splits
    obtain ⟨rfl, rfl, rfl⟩ := splits
    rw [completeChars, decide_eq_true_eq, ← List.length_eq_zero_iff]
    simp only [List.length_cons, List.length_append] at length ⊢
    omega

/-- The second character of a telegram is its length. -/
theorem WholeChars.valid (is : WholeChars whole) (splits : chars ++ data :: rest = whole) (second : chars.length = 1) :
    data ≠ 0 := by
  obtain ⟨h, n, later, rfl, positive, -⟩ := is
  match chars, second with
  | [h'], _ =>
    rw [List.singleton_append, List.cons_eq_cons, List.cons_eq_cons] at splits
    rw [splits.2.1]
    exact positive

/-- The rest of a telegram's characters completes it. -/
theorem Assembling.run (is : WholeChars whole) (k : Nat) : ∀ (rest chars : List Byte) (t : State), chars ++ rest = whole →
    chars ≠ [] → rest ≠ [] → Assembling l chars t →
    t.pending = (rest.map fun b => Instr.characterReceived l b false true) ++ tail →
    ∃ u : State, Host.Core.run Sys2Proof.core (rest.length + k) t = Host.Core.run Sys2Proof.core k u ∧ u.pending = tail ∧
      ReceivedWhole l whole u := by
  intro rest
  induction rest with
  | nil => exact fun chars t _ _ nonempty => absurd rfl nonempty
  | cons data rest ih =>
    intro chars t splits begun _ assembling pending
    have valid := is.valid splits
    have splits' : (chars ++ [data]) ++ rest = whole := by rw [List.append_assoc]; exact splits
    have long : 2 ≤ (chars ++ [data]).length := by
      have := List.length_pos_iff.2 begun
      rw [List.length_append, List.length_singleton]
      omega
    have complete := is.complete_iff splits' long
    have count : (data :: rest).length + k = (rest.length + k) + 1 := by rw [List.length_cons]; omega
    rw [count]
    by_cases ends : rest = []
    · obtain ⟨u, next, kept, received⟩ := assembling.pending.last valid (complete.2 ends)
      subst ends
      rw [List.append_nil] at splits'
      rw [run_command pending next, ← splits']
      refine ⟨u, ?_, kept, received⟩
      rw [List.length_nil, Nat.zero_add]
    · obtain ⟨u, next, kept, assembling'⟩ := assembling.pending.next valid (Bool.eq_false_iff.2 fun h => ends (complete.1 h))
      rw [run_command pending next]
      exact ih _ u splits' (by simp) ends assembling' kept

/-! ### The framed request -/

theorem frame_eq (head : Byte) (body : List Byte) : frame head body = head :: BitVec.ofNat 8 body.length ::
    (body ++ u16 (checkValue (head :: BitVec.ofNat 8 body.length :: body)).toNat) := rfl

theorem frame_wholeChars (head : Byte) (least : 1 ≤ body.length) (most : body.length ≤ 255) : WholeChars (frame head body) := by
  have length : (BitVec.ofNat 8 body.length).toNat = body.length := by
    rw [BitVec.toNat_ofNat]; omega
  refine ⟨head, BitVec.ofNat 8 body.length, _, frame_eq head body, fun zero => ?_, ?_⟩
  · rw [zero] at length
    exact absurd length (by simp; omega)
  · rw [frame_eq, length]
    simp only [List.length_cons, List.length_append, u16, List.length_nil]
    omega

/-- The bodies of requests have 1 to 255 characters (R180). -/
theorem requestBody_length {c : Instr} (wf : c.wf = true) (isBody : requestBody c = some body) :
    1 ≤ body.length ∧ body.length ≤ 255 := by
  have fixed {fields : List Byte} (same : requestBody c = some fields) (bound : 1 ≤ fields.length ∧ fields.length ≤ 255) :
      1 ≤ body.length ∧ body.length ≤ 255 := by
    obtain rfl : fields = body := Option.some.inj (same.symm.trans isBody)
    exact bound
  cases c with
  | defineRecipe f =>
    simp only [Instr.wf, RecipeFields.wf, Bool.and_eq_true, decide_eq_true_eq] at wf
    refine fixed rfl ?_
    simp only [recipeBody, u8, u16, u32, List.length_append, List.length_cons, List.length_nil, flatMap_additiveBody_length]
    omega
  | authorize a code preset bill =>
    simp only [Instr.wf, Bool.and_eq_true, decide_eq_true_eq] at wf
    refine fixed rfl ?_
    simp only [u8, u16, u32, List.length_append, List.length_cons, List.length_nil]
    omega
  | _ =>
    cases isBody
    all_goals exact ⟨Nat.le_of_ble_eq_true rfl, Nat.le_of_ble_eq_true rfl⟩

/-- A sound telegram of the line with its slot empty leaves there what `slotOfTelegram` says. -/
theorem exec_telegramReceived_slot (holds : ReceivedWhole l (frame head body) t) (most : body.length ≤ 255)
    (mine : headAgrees l head = true) :
    ∃ u, exec (.telegramReceived l) t = .next u ∧ (u.line l).slot = slotOfTelegram l head body := by
  have checked := exec_telegramReceived_of_sound (s := t) holds.received
  rw [frame_eq, State.checkTelegram_of_whole _ l head most (BitVec.isLt _), if_neg (not_not.2 rfl),
    if_neg (by rw [mine]; exact Bool.noConfusion)] at checked
  refine ⟨_, checked, ?_⟩
  have line : ((t.taken l []).heard l).line l = { t.line l with received := [] } := by
    cases l with
    | supervisor => rfl
    | arm n => exact State.modLine_line t (.arm n) fun y => { y with received := [] }
  rw [State.modLine_line, line, LineState.enter_of_free holds.slot]

end Sys2Proof.Machine

namespace Sys2Proof.Proofs

open Sys2Proof.Machine

/-- Settles O14: the head begins the telegram, the other characters complete it, and its body reads back as the request. -/
theorem wholeTelegramReachesItsOwner : Obligations.WholeTelegramReachesItsOwner := by
  unfold Obligations.WholeTelegramReachesItsOwner
  intro s c l body head wf isLine isBody heads received slot executed
  obtain ⟨least, most⟩ := requestBody_length wf isBody
  have reads : parseRequest l body = .request c := readsBack_of_wf c wf l body isLine isBody
  have ready : s.receiving l := by
    cases l with
    | supervisor => exact fun _ => ⟨heads.1, heads.2.1⟩
    | arm n => exact nofun
  have takes : s.takesHead l head = true := by
    cases l with
    | supervisor => exact (s.takesHead_eq_true _ _).2 fun _ => heads.2.2
    | arm n => rfl
  have mine : headAgrees l head = true := by
    cases l with
    | supervisor => rfl
    | arm n => exact decide_eq_true heads
  have line (t : State) (later : List Instr) := t.line_of_pending later l
  obtain ⟨u, first, kept, begun⟩ := Assembling.of_head (t := { s with pending :=
      ((frame head body).tail.map fun b => Instr.characterReceived l b false true) ++ [.telegramReceived l] })
    ready ((s.takesHead_of_pending _ l head).trans takes) (by rw [line, received]) (by rw [line, slot])
  obtain ⟨v, run, pending, whole⟩ := begun.run (tail := [.telegramReceived l]) (frame_wholeChars head least most) 1
    (frame head body).tail [head] u rfl (by simp) (by rw [frame_eq]; simp) kept
  obtain ⟨w, last, filled⟩ := exec_telegramReceived_slot whole.pending most mine
  have count : body.length + 5 = ((frame head body).tail.length + 1) + 1 := by
    rw [frame_eq]
    simp only [List.tail_cons, List.length_cons, List.length_append, u16, List.length_nil]
  refine ⟨w, ?_, fun notZero => ?_, fun zero isExecuted => ?_, fun zero ignored => ?_⟩
  · rw [count]
    refine (run_command (s := { s with pending := .characterReceived l head true true ::
      ((frame head body).tail.map fun b => .characterReceived l b false true) ++ [.telegramReceived l] }) rfl first _).trans ?_
    exact run.trans (run_command pending last 0)
  · rw [slotOfTelegram_of_addressed fun h => notZero h.2, reads] at filled
    exact filled
  all_goals
    obtain rfl : l = .supervisor := by
      cases l with
      | supervisor => rfl
      | arm n => rw [zero] at heads; exact absurd heads (by simp; omega)
    rw [zero, slotOfTelegram_of_broadcast, show parseSupervisor body = .request c from reads] at filled
  · exact filled.trans (if_pos ((executedOnBroadcast_eq_true c).2 isExecuted))
  · exact filled.trans (if_neg fun h => ignored ((executedOnBroadcast_eq_true c).1 h))

end Sys2Proof.Proofs
end


section
/-! READ NOTICE and the interrupt lines, the station clock and the tick (R3, R97, R180, R183, R187 to R190). -/

namespace Sys2Proof.Machine

variable {s : State} {n : Arm}

/-! ### The first notice of a set in order -/

section
variable {κ : Type} {key : κ → Nat} {k : κ} {d : Option Nat} {rest : List (κ × Option Nat)}

/-- In a set in order the first notice has the lowest key. -/
theorem key_lt_of_keysSorted (law : (((k, d) :: rest).map fun p => key p.1).Pairwise (· < ·)) :
    ∀ p ∈ rest, key k < key p.1 := by
  rw [List.map_cons, List.pairwise_cons] at law
  exact fun p mem => law.1 _ (List.mem_map.2 ⟨p, mem, rfl⟩)

/-- The set without its first notice is the set without the notices of that kind and index. -/
theorem rest_eq_filter [DecidableEq κ] (law : (((k, d) :: rest).map fun p => key p.1).Pairwise (· < ·)) :
    rest = ((k, d) :: rest).filter fun p => decide (p.1 ≠ k) := by
  rw [List.filter_cons_of_neg (by simp), List.filter_eq_self.2]
  intro p mem
  have below := key_lt_of_keysSorted law p mem
  exact decide_eq_true fun same => by rw [same] at below; omega

end

/-- The order of READ NOTICE, from the keys: by priority, then by index (R188). -/
theorem place_le_of_key_lt {priority index priority' index' : Nat} (fits : index ≤ 255) (fits' : index' ≤ 255)
    (below : priority * 256 + index < priority' * 256 + index') :
    priority < priority' ∨ priority = priority' ∧ index ≤ index' := by omega

theorem SupNotice.index_le (k : SupNotice) : k.index.getD 255 ≤ 255 := by
  cases k with
  | unitFaulted x | unitEmpty x | armHalted x | probeFault x | unitLow x | unassignedFlow x =>
    exact Nat.le_of_lt (Nat.lt_of_lt_of_le x.isLt (by decide))
  | _ => exact le_refl _

theorem ArmNotice.index_le (k : ArmNotice) : k.index.getD 255 ≤ 255 := by
  cases k with
  | additiveShort x => exact Nat.le_of_lt (Nat.lt_of_lt_of_le x.isLt (by decide))
  | _ => exact le_refl _

theorem opt8_eq (x : Option Nat) : opt8 x = u8 (x.getD 255) := by
  cases x with
  | none => rfl
  | some n => rfl

/-! ### The two lines of the interrupt kind -/

theorem State.satn_eq_true (s : State) : s.satn = true ↔ s.supervisor.notices ≠ [] ∧ s.address ≠ 0 := by
  simp [State.satn]

theorem State.aatn_eq_true (s : State) (n : Arm) : s.aatn n = true ↔ (s.armLines.get n).notices ≠ [] := by
  simp [State.aatn]

/-! ### Live data -/

theorem State.liveSup_stopChanged (s : State) :
    s.liveSup .stopChanged = s.stop.latch.elim 255 fun h => 256 + stopCauseCode h.cause := by
  unfold State.liveSup
  cases s.stop.latch with
  | none => rfl
  | some h => exact congrArg (· + stopCauseCode h.cause) (Nat.one_mul 256)

theorem refStateCode_eq (x : RefState) : refStateCode x = if x = .ok then 0 else 1 := by
  cases x with
  | ok => rfl
  | fault => rfl

theorem pressureCode_eq (x : PressureState) : pressureCode x = if x = .normal then 0 else 1 := by
  cases x with
  | normal => rfl
  | low => rfl

theorem latchCode_eq (x : Option LatchHold) : latchCode x = if x = none then 0 else 1 := by
  cases x with
  | none => rfl
  | some h => rfl

theorem State.liveArm_restrictChanged (s : State) (n : Arm) :
    s.liveArm n .restrictChanged = if (s.record n).any (fun r => r.acc.restrictOn) = true then 1 else 0 := by
  unfold State.liveArm
  cases s.record n with
  | none => rfl
  | some r => rfl

/-! ### READ NOTICE -/

theorem State.readNoticeSupervisor_of_first {k : SupNotice} {d : Option Nat} {rest : List (SupNotice × Option Nat)}
    (set : s.supervisor.notices = (k, d) :: rest) : s.readNoticeSupervisor =
      { state := { s with supervisor := { s.supervisor with notices := rest } }, code := .accepted
        fields := u8 k.priority ++ u8 (k.index.getD 255) ++ u32 (d.getD (s.liveSup k)) } := by
  unfold State.readNoticeSupervisor
  rw [set]
  dsimp only
  rw [noticeFields, opt8_eq]

theorem State.readNoticeArm_of_first {k : ArmNotice} {d : Option Nat} {rest : List (ArmNotice × Option Nat)}
    (set : (s.armLines.get n).notices = (k, d) :: rest) : s.readNoticeArm n =
      { state := { s with armLines := s.armLines.upd n fun x => { x with notices := rest } }, code := .accepted
        fields := u8 k.priority ++ u8 (k.index.getD 255) ++ u32 (d.getD (s.liveArm n k)) } := by
  unfold State.readNoticeArm
  rw [set]
  dsimp only
  rw [noticeFields, opt8_eq]

/-! ### The clock and the timebase -/

theorem count_up_eq (x : BitVec 32) : x + 1 = BitVec.ofNat 32 ((x.toNat + 1) % 4294967296) := by
  apply BitVec.eq_of_toNat_eq
  rw [BitVec.toNat_add, BitVec.toNat_ofNat]
  simp

theorem State.step_of_idle (idle : s.pending = []) : step s = .next s.tick := by
  rw [step, idle]

end Sys2Proof.Machine

namespace Sys2Proof.Proofs

open Sys2Proof.Machine

/-- Settles O59: the set is in READ NOTICE's order, so its first notice is the one to return. -/
theorem readNoticeTakesTheFirst : Obligations.ReadNoticeTakesTheFirst := by
  unfold Obligations.ReadNoticeTakesTheFirst
  intro s law place placeArm live liveArm
  obtain ⟨supervisorLaw, armLaw⟩ := law
  have placed (k : SupNotice) : place k = (k.priority, k.index.getD 255) := by
    cases k with
    | _ => rfl
  have placedArm (k : ArmNotice) : placeArm k = (k.priority, k.index.getD 255) := by
    cases k with
    | _ => rfl
  have liveEq (k : SupNotice) : s.liveSup k = live k := by
    cases k with
    | stopChanged => exact s.liveSup_stopChanged
    | referenceChanged => exact refStateCode_eq _
    | pressureChanged => exact pressureCode_eq _
    | _ => rfl
  have liveArmEq (n : Arm) (k : ArmNotice) : s.liveArm n k = liveArm n k := by
    cases k with
    | terminalStopChanged => exact latchCode_eq _
    | restrictChanged => exact s.liveArm_restrictChanged n
    | _ => rfl
  refine ⟨s.satn_eq_true, s.aatn_eq_true, fun waits => ⟨fun empty => ?_, fun some => ?_⟩,
    fun n waits => ⟨fun empty => ?_, fun some => ?_⟩⟩
  · refine State.next_serve waits (?_ : s.readNoticeSupervisor = _)
    rw [State.readNoticeSupervisor, empty]
    rfl
  · obtain ⟨⟨k, d⟩, rest, set⟩ := List.exists_cons_of_ne_nil some
    rw [set] at supervisorLaw
    refine ⟨k, d, rest, by rw [set]; exact List.mem_cons_self .., fun p mem => ?_, ?_, ?_⟩
    · rw [set, List.mem_cons] at mem
      rw [placed, placed]
      obtain rfl | later := mem
      · exact .inr ⟨rfl, le_refl _⟩
      · exact place_le_of_key_lt k.index_le p.1.index_le (key_lt_of_keysSorted supervisorLaw p later)
    · rw [set]; exact rest_eq_filter supervisorLaw
    · rw [placed, ← liveEq]
      exact State.next_serve waits (State.readNoticeSupervisor_of_first set)
  · refine State.next_serve waits (?_ : s.readNoticeArm n = _)
    rw [State.readNoticeArm, empty]
    rfl
  · obtain ⟨⟨k, d⟩, rest, set⟩ := List.exists_cons_of_ne_nil some
    have inOrder := armLaw n
    rw [set] at inOrder
    refine ⟨k, d, rest, by rw [set]; exact List.mem_cons_self .., fun p mem => ?_, ?_, ?_⟩
    · rw [set, List.mem_cons] at mem
      rw [placedArm, placedArm]
      obtain rfl | later := mem
      · exact .inr ⟨rfl, le_refl _⟩
      · exact place_le_of_key_lt k.index_le p.1.index_le (key_lt_of_keysSorted inOrder p later)
    · rw [set]; exact rest_eq_filter inOrder
    · rw [placedArm, ← liveArmEq]
      exact State.next_serve waits (State.readNoticeArm_of_first set)

/-- Settles O60: the advance and SET CLOCK put the next second off, and a tick on an empty queue is `State.tick`. -/
theorem clocksAdvance : Obligations.ClocksAdvance := by
  unfold Obligations.ClocksAdvance
  refine fun s count _ => ⟨fun due => ?_, fun early => if_neg early, ⟨fun waits => State.next_serve waits rfl,
    fun waits => congrArg Host.Outcome.next (State.serve_broadcast waits)⟩, fun idle => ⟨s.tick, State.step_of_idle idle, ?_⟩⟩
  · rw [← count_up_eq]
    exact if_pos due
  · intro down test gap
    have timer (x : Timer) : x.tick = down x := by
      cases x with
      | _ => rfl
    refine ⟨count_up_eq s.timebase, rfl, rfl, fun a => ?_, rfl, fun u => ?_, ?_, fun a m => ?_, fun a => ?_, fun i => ?_,
      rfl, rfl, fun n => ?_, rfl⟩
    · refine (Bank.get_tab _ a).trans ?_
      simp only [ArmCtl.tick, timer]
    · refine (Bank.get_tab _ u).trans ?_
      simp only [AdditiveUnit.tick, timer]
      rfl
    · simp only [State.tick, timer]
    · cases m with
      | base => exact congrArg ArmMeters.base (Bank.get_tab _ a)
      | ethanol => exact congrArg ArmMeters.ethanol (Bank.get_tab _ a)
    · simp [State.tick]
    · exact Bank.get_tab _ i
    · exact Bank.get_tab _ n

end Sys2Proof.Proofs
end


section
/-! Replies and their characters, RESTART, and the reset (R179, R180, R183 to R185, R192, R195). -/

namespace Sys2Proof.Machine

variable {s : State} {l : Line} {p : Slot} {body : List Byte} {n : Arm} {pins : Pins} {force : Nat}

/-! ### The characters of a reply -/

theorem lineCharacters_data (chars : List Byte) : (lineCharacters chars).map LineCharacter.data = chars := by
  cases chars with
  | nil => rfl
  | cons head rest =>
    rw [lineCharacters, List.map_cons, List.map_map]
    exact congrArg (List.cons head) (List.map_id rest)

theorem lineCharacters_marker (head : Byte) (rest : List Byte) :
    (lineCharacters (head :: rest)).map LineCharacter.marker = true :: List.replicate rest.length false := by
  rw [lineCharacters, List.map_cons, List.map_map]
  exact congrArg (List.cons true) List.map_const'

/-- The eleven bits of a character, one by one (R179). -/
theorem LineCharacter.bits_eq (c : LineCharacter) : c.bits = [false, c.data.getLsbD 0, c.data.getLsbD 1, c.data.getLsbD 2,
    c.data.getLsbD 3, c.data.getLsbD 4, c.data.getLsbD 5, c.data.getLsbD 6, c.data.getLsbD 7, c.marker, true] := rfl

theorem State.replyCharacters_of_reply (held : (s.line l).slot = some p) (reply : p.reply = some body) :
    s.replyCharacters l = some (lineCharacters (frame (s.replyHead l) body)) := by
  unfold State.replyCharacters State.replyTelegram
  rw [held]
  dsimp only
  rw [reply]
  rfl

/-! ### The start and the end of a reply -/

theorem State.hasReply_of_reply (held : (s.line l).slot = some p) (reply : p.reply ≠ none) : s.hasReply l = true := by
  unfold State.hasReply
  rw [held]
  exact Option.isSome_iff_ne_none.2 reply

theorem State.replyStart_of_idle (held : s.supervisor.line.slot = some p) (reply : p.reply ≠ none)
    (idle : s.supervisor.transmitting = false) : s.replyStart = { s with supervisor := s.supervisor.begin } :=
  if_pos ⟨State.hasReply_of_reply (l := .supervisor) held reply, idle⟩

theorem State.replyStart_of_sending (sending : s.supervisor.transmitting = true) : s.replyStart = s :=
  if_neg fun h => by rw [sending] at h; exact Bool.noConfusion h.2

/-- What the start of a reply leaves of the line: no partial telegram, the slot, and a collision counted if it cut one off
(R183). -/
theorem SupLine.begin_line (x : SupLine) : x.begin.line.assembly = none ∧ x.begin.line.slot = x.line.slot ∧
    x.begin.line.counters.collision = if x.line.assembly = none then x.line.counters.collision
      else if x.line.counters.collision < 65535 then x.line.counters.collision + 1 else x.line.counters.collision := by
  unfold SupLine.begin
  cases partial_ : x.line.assembly with
  | none => exact ⟨partial_, rfl, rfl⟩
  | some b => exact ⟨rfl, rfl, rfl⟩

theorem State.replySent_of_supervisor (held : s.supervisor.line.slot = some p) : s.replySent .supervisor =
    if p.restart then s.restarted
    else { s with supervisor := { s.supervisor with
      line := { s.supervisor.line with slot := none }, transmitting := false, collided := false } } := by
  have slot : (s.line .supervisor).slot = some p := held
  unfold State.replySent
  rw [slot]
  rfl

theorem State.replySent_of_arm (held : (s.line (.arm n)).slot = some p) (stays : p.restart = false) :
    s.replySent (.arm n) = s.emptied (.arm n) := by
  unfold State.replySent
  rw [held]
  dsimp only
  rw [stays]
  rfl

theorem exec_replySent_of_sending (held : s.supervisor.line.slot = some p) (reply : p.reply ≠ none)
    (sending : s.supervisor.transmitting = true) :
    exec (.replySent .supervisor) s = .next (s.replySent .supervisor) := by
  refine (if_pos (State.hasReply_of_reply (l := .supervisor) held reply)).trans ?_
  rw [State.replyStart_of_sending sending]

/-! ### RESTART -/

theorem State.anyLoad_eq_true (s : State) : s.anyLoad = true ↔ ∃ a : Arm, s.record a ≠ none := by
  simp [State.anyLoad, Option.isSome_iff_ne_none]

/-- An accepted RESTART, which keeps its slot for the reset that follows the reply (R192). -/
theorem State.serve_restart (waits : s.awaits .supervisor (.restart force)) :
    s.serve .supervisor (.restart force) 5 { state := s, code := .accepted, fields := [], restart := true } =
      s.modLine .supervisor fun y => { y with
        slot := some { handed := some (.restart force), broadcast := false, reply := some [5, 0], restart := true } } := by
  refine (if_pos (State.takes_of_awaits waits)).trans (State.modLine_congr .supervisor ?_)
  have slot : (s.line .supervisor).slot = _ := waits
  rw [slot]
  rfl

/-! ### The reset -/

theorem LatchHold.atReset_eq_none (stop : BitVec 4) :
    LatchHold.atReset stop = none ↔ ∀ i : StopNo, stop.getLsbD i.val = true := by
  rw [LatchHold.atReset, Option.map_eq_none_iff, List.find?_eq_none]
  simp

/-- The latch at the end of a reset is set by the lowest input that is active (R172, R178). -/
theorem LatchHold.atReset_eq_some {stop : BitVec 4} {i : StopNo} (active : stop.getLsbD i.val = false)
    (lowest : ∀ j : StopNo, j < i → stop.getLsbD j.val = true) :
    LatchHold.atReset stop = some { cause := .input i, time := 0 } := by
  have found : (List.finRange 4).find? (fun i => !stop.getLsbD i.val) = some i := by
    refine List.find?_eq_some_iff_getElem.2 ⟨by simpa using active, i.val, by simp, by simp, fun j below => ?_⟩
    rw [List.getElem_finRange, Bool.not_eq_true', Bool.not_eq_false']
    exact lowest ⟨j, _⟩ below
  rw [LatchHold.atReset, found]
  rfl

theorem SupLine.atReset_notices (stop : BitVec 4) : (SupLine.atReset stop).notices =
    if LatchHold.atReset stop = none then [] else [(.stopChanged, none)] := by
  unfold SupLine.atReset
  cases LatchHold.atReset stop with
  | none => rfl
  | some h => rfl

end Sys2Proof.Machine

namespace Sys2Proof.Proofs

open Sys2Proof.Machine

/-- Settles O57: a reply is the frame of its body, sent and then gone, and a restart is a reset at the levels presented. -/
theorem repliesRestartAndReset : Obligations.RepliesRestartAndReset := by
  unfold Obligations.RepliesRestartAndReset
  refine fun s => ⟨fun l p body held reply => ?characters, fun p held reply idle => ?start, fun p held reply stays sending => ?sent,
    fun n p held reply stays => ?arm, fun p held reply restarts sending => ?restarted, fun force waits => ?restart,
    fun pins => ?reset⟩
  case characters =>
    refine ⟨_, State.replyCharacters_of_reply held reply, ?_⟩
    intro head plain
    have whole : frame (s.replyHead l) body = plain ++ u16 (checkValue plain).toNat := by
      have start : s.replyHead l = BitVec.ofNat 8 head := by
        cases l with
        | supervisor => rfl
        | arm n => rfl
      rw [start]
      rfl
    refine ⟨?_, ?_, fun c _ => ⟨rfl, rfl, fun i => ?_, rfl, rfl⟩⟩
    · rw [lineCharacters_data, whole]
    · rw [frame_eq, lineCharacters_marker]
      simp [u16]
    · rw [LineCharacter.bits_eq]
      match i with
      | 0 | 1 | 2 | 3 | 4 | 5 | 6 | 7 => rfl
  case start =>
    obtain ⟨dropped, slot, collision⟩ := s.supervisor.begin_line
    exact ⟨_, congrArg Host.Outcome.next (State.replyStart_of_idle held reply idle), rfl, rfl, dropped, slot, collision, idle,
      rfl, rfl⟩
  case sent =>
    rw [exec_replySent_of_sending held reply sending, State.replySent_of_supervisor held, stays]
    rfl
  case arm =>
    rw [← State.replySent_of_arm held stays]
    exact if_pos (State.hasReply_of_reply held reply)
  case restarted =>
    refine ⟨s.presentedPins, ?_, fun level rest inputs => ?_, fun inputs => ?_, fun a => ⟨?_, ?_⟩, fun u => ?_, fun i => ?_⟩
    · rw [exec_replySent_of_sending held reply sending, State.replySent_of_supervisor held, restarts]
      rfl
    · simp [State.presentedPins, inputs]
    · simp [State.presentedPins, inputs]
    all_goals simp [State.presentedPins]
  case restart =>
    intro open'
    refine ⟨fun out => State.next_serve waits (if_pos out), fun zero loaded => ?_, fun accepted => ?_⟩
    · refine State.next_serve waits ((if_neg (by omega)).trans (if_pos ⟨zero, s.anyLoad_eq_true.2 loaded⟩))
    · rw [← State.serve_restart waits]
      have decided : s.restartAnswer force = { state := s, code := .accepted, fields := [], restart := true } := by
        refine (if_neg (by omega)).trans (if_neg ?_)
        rintro ⟨zero, loaded⟩
        obtain one | ⟨-, vacant⟩ := accepted
        · omega
        · exact vacant (s.anyLoad_eq_true.1 loaded)
      rw [← decided]
      rfl
  case reset =>
    intro line input
    refine ⟨_, rfl, rfl, rfl, rfl, rfl, rfl, rfl, rfl, fun a => ⟨?_, ?_, ?_⟩, fun c => ?_, fun i => ?_, rfl, fun e => ?_,
      rfl, rfl, fun u => ?_, rfl, fun i => ?_, ?_, fun i active lowest => ?_, ?_⟩
    · exact Bank.get_tab _ a
    · exact Bank.get_tab _ a
    · exact Bank.get_tab _ a
    · exact Bank.get_tab _ c
    · exact Bank.get_tab _ i
    · exact Bank.get_tab _ e
    · exact Bank.get_tab _ u
    · exact Bank.get_tab _ i
    · exact LatchHold.atReset_eq_none pins.stop
    · exact LatchHold.atReset_eq_some active lowest
    · have notices := SupLine.atReset_notices pins.stop
      exact congrArg (fun x => ({ line := line, notices := x, transmitting := false, collided := false } : SupLine)) notices

end Sys2Proof.Proofs
end

-- ==== Sitting 5, part 23: the layouts of reports ====
section
/-! The layouts of LOAD STATUS and READ RECORD. A report is its list of fields, each of a known width, followed by items of
one width: `field_at` places a field behind those before it, `item_at` an item behind all fields and the items before it. -/

namespace Sys2Proof.Machine

/-! ### Fields and items at their positions -/

theorem field_at {fields : List (List Byte)} {widths : List Nat} (wide : fields.map List.length = widths)
    (rest : List Byte) (k : Nat) {field : List Byte} (found : fields[k]? = some field) {p : Nat}
    (before : (widths.take k).sum = p) : ((fields.flatten ++ rest).drop p).take field.length = field := by
  subst before wide
  induction fields generalizing k with
  | nil => simp at found
  | cons x xs ih =>
    cases k with
    | zero =>
      obtain rfl : x = field := by simpa using found
      simp
    | succ k =>
      rw [List.flatten_cons, List.append_assoc, List.map_cons, List.take_succ_cons, List.sum_cons,
        List.drop_length_add_append]
      exact ih k (by simpa using found)

theorem flatten_length {fields : List (List Byte)} {widths : List Nat} (wide : fields.map List.length = widths) :
    fields.flatten.length = widths.sum := by
  rw [List.length_flatten, wide]

theorem flatMap_length_of_width {α : Type} {f : α → List Byte} {n : Nat} (width : ∀ x, (f x).length = n) (l : List α) :
    (l.flatMap f).length = n * l.length := by
  simp [List.length_flatMap, width, Nat.mul_comm]

/-- Entries of one width stand behind each other at the multiples of that width. -/
theorem flatMap_item_at {α : Type} {f : α → List Byte} {n : Nat} (width : ∀ x, (f x).length = n) {l : List α} {k : Nat}
    {i : α} (found : l[k]? = some i) : ((l.flatMap f).drop (n * k)).take n = f i := by
  induction l generalizing k with
  | nil => simp at found
  | cons x xs ih =>
    cases k with
    | zero =>
      obtain rfl : x = i := by simpa using found
      simp [← width x]
    | succ k =>
      have shift : n * (k + 1) = (f x).length + n * k := by rw [width, Nat.mul_succ, Nat.add_comm]
      rw [List.flatMap_cons, shift, List.drop_length_add_append]
      exact ih (by simpa using found)

theorem item_at {α : Type} {f : α → List Byte} {m n : Nat} (width : ∀ x, (f x).length = n) {front : List Byte}
    (fits : front.length = m) {l : List α} {k : Nat} {i : α} (found : l[k]? = some i) :
    ((front ++ l.flatMap f).drop (m + n * k)).take (f i).length = f i := by
  rw [← fits, List.drop_length_add_append, width i]
  exact flatMap_item_at width found

/-! ### Numbers and codes -/

@[simp] theorem u8_length (n : Nat) : (u8 n).length = 1 := rfl
@[simp] theorem u16_length (n : Nat) : (u16 n).length = 2 := rfl
@[simp] theorem u32_length (n : Nat) : (u32 n).length = 4 := rfl
@[simp] theorem i32_length (x : Int) : (i32 x).length = 4 := rfl

@[simp] theorem bit_length (b : Bool) : (if b = true then [1] else [0] : List Byte).length = 1 := by cases b <;> rfl

theorem State.u8_standingCode (s : State) (a : Arm) : u8 (s.standingCode a) =
    if s.header.holds a = true then [2] else if s.header.waits a = true then [1] else [0] := by
  unfold State.standingCode
  split
  · rfl
  · split <;> rfl

theorem u32_eq (n : Nat) : u32 n = u16 (n / 65536) ++ u16 n := by
  have high : n / 65536 / 256 = n / 16777216 := Nat.div_div_eq_div_mul ..
  rw [u32, u16, u16, high]
  rfl

theorem i16_eq (x : Int) : i16 x = u16 (x % 65536).toNat := by
  rw [i16, BitVec.toNat_ofInt]
  rfl

theorem i32_eq (x : Int) : i32 x = u32 (x % 4294967296).toNat := by
  rw [i32, BitVec.toNat_ofInt]
  rfl

/-! ### LOAD STATUS -/

/-- The fields of LOAD STATUS before its items, in the order of Table 10-10. -/
def State.loadFields (s : State) (a : Arm) (r : LoadRecord) : List (List Byte) :=
  [u8 (occupancyCode (s.arms.get a).occ), u8 (pauseCode r.phase), u8 (haltCodeOf r.haltReason), u16 r.number,
   u8 r.snap.entry.val, u8 r.snap.revision, u16 r.snap.code, u32 r.preset, u32 r.acc.baseGross,
   u16 (s.meter a .base).residue, u32 r.acc.ethGross, u16 (s.meter a .ethanol).residue, u32 r.acc.totalGross,
   u32 r.acc.baseStd, u32 r.acc.ethStd, u32 r.acc.totalStd, i32 r.acc.owed, u8 (bitCode r.acc.restrictOn),
   u8 (s.standingCode a), u32 (s.meter a .base).flowRate, u32 (s.meter a .ethanol).flowRate, u16 r.flags.word,
   u16 (r.finalRatio.getD 0), u8 r.items.length]

theorem State.loadReport_eq_fields (s : State) (a : Arm) (r : LoadRecord) :
    s.loadReport a r = (s.loadFields a r).flatten ++ r.items.flatMap LoadItem.report := by
  delta State.loadReport State.loadFields listField
  simp only [List.flatten_cons, List.flatten_nil, List.append_assoc, List.nil_append]

theorem State.loadFields_widths (s : State) (a : Arm) (r : LoadRecord) : (s.loadFields a r).map List.length =
    [1, 1, 1, 2, 1, 1, 2, 4, 4, 2, 4, 2, 4, 4, 4, 4, 4, 1, 1, 4, 4, 2, 2, 1] := by
  simp only [State.loadFields, List.map_cons, List.map_nil, u8_length, u16_length, u32_length, i32_length]

theorem LoadItem.report_eq (i : LoadItem) : i.report = u8 i.unit.val ++ u32 i.delivered ++ u16 i.shots ++ i32 i.owed ++
    (if i.short = true then [1] else [0]) ++ (if i.finalShot = true then [1] else [0]) := by
  rw [LoadItem.report, u8_bitCode, u8_bitCode]

theorem LoadItem.report_length (i : LoadItem) : i.report.length = 13 := by
  simp [LoadItem.report]

/-! ### READ RECORD -/

/-- The fields of READ RECORD before its items, in the order of their layout. -/
def DeliveryRecord.fields (d : DeliveryRecord) : List (List Byte) :=
  let f := d.figures
  [u16 f.number, u8 d.arm.val, u8 f.entry.val, u8 f.revision, u16 f.code, u8 f.bill.length,
   f.bill ++ List.replicate (16 - f.bill.length) 0, u32 f.preset, u32 f.baseGross, u16 d.baseResidue, u32 f.ethGross,
   u16 d.ethResidue, u32 f.totalGross, u32 f.baseStd, u32 f.ethStd, u32 f.totalStd, u16 f.finalRatio, u16 f.flags.word,
   u8 (haltCodeOf f.haltReason), u32 f.authTime.toNat, u32 f.endTime.toNat, u8 f.items.length]

theorem DeliveryRecord.report_eq_fields (d : DeliveryRecord) :
    d.report = d.fields.flatten ++ d.figures.items.flatMap SummaryItem.report := by
  delta DeliveryRecord.report DeliveryRecord.fields listField billField
  simp only [List.flatten_cons, List.flatten_nil, List.append_assoc, List.nil_append]

theorem DeliveryRecord.fields_widths {d : DeliveryRecord} (fits : d.figures.bill.length ≤ 16) :
    d.fields.map List.length = [2, 1, 1, 1, 2, 1, 16, 4, 4, 2, 4, 2, 4, 4, 4, 4, 2, 2, 1, 4, 4, 1] := by
  have bill : (d.figures.bill ++ List.replicate (16 - d.figures.bill.length) 0).length = 16 := by
    rw [List.length_append, List.length_replicate]
    omega
  simp only [DeliveryRecord.fields, List.map_cons, List.map_nil, u8_length, u16_length, u32_length, bill]

theorem SummaryItem.report_length (i : SummaryItem) : i.report.length = 7 := by
  simp [SummaryItem.report]

end Sys2Proof.Machine

namespace Sys2Proof.Proofs
open Sys2Proof.Machine

/-- Every field of LOAD STATUS stands at the position of Table 10-10. -/
theorem loadStatus_layout (s : State) (a : Arm) (r : LoadRecord) (k : Nat) {field : List Byte} {p : Nat}
    (found : (s.loadFields a r)[k]? = some field)
    (before : ([1, 1, 1, 2, 1, 1, 2, 4, 4, 2, 4, 2, 4, 4, 4, 4, 4, 1, 1, 4, 4, 2, 2, 1].take k).sum = p) :
    ((s.loadReport a r).drop p).take field.length = field := by
  rw [State.loadReport_eq_fields]
  exact field_at (s.loadFields_widths a r) _ k found before

theorem loadStatus_item_layout (s : State) (a : Arm) (r : LoadRecord) {k : Nat} {i : LoadItem}
    (found : r.items[k]? = some i) : ((s.loadReport a r).drop (60 + 13 * k)).take i.report.length = i.report := by
  rw [State.loadReport_eq_fields]
  exact item_at LoadItem.report_length (flatten_length (s.loadFields_widths a r)) found

theorem readRecord_layout {d : DeliveryRecord} (fits : d.figures.bill.length ≤ 16) (k : Nat) {field : List Byte} {p : Nat}
    (found : d.fields[k]? = some field)
    (before : ([2, 1, 1, 1, 2, 1, 16, 4, 4, 2, 4, 2, 4, 4, 4, 4, 2, 2, 1, 4, 4, 1].take k).sum = p) :
    (d.report.drop p).take field.length = field := by
  rw [DeliveryRecord.report_eq_fields]
  exact field_at (DeliveryRecord.fields_widths fits) _ k found before

theorem readRecord_item_layout {d : DeliveryRecord} (fits : d.figures.bill.length ≤ 16) {k : Nat} {i : SummaryItem}
    (found : d.figures.items[k]? = some i) : (d.report.drop (70 + 7 * k)).take i.report.length = i.report := by
  rw [DeliveryRecord.report_eq_fields]
  exact item_at SummaryItem.report_length (flatten_length (DeliveryRecord.fields_widths fits)) found

/-- Settles O28: each field by its place in the list of fields (`field_at`), each item by `item_at`; the codes are those
of their definitions. -/
theorem reportLayouts : Obligations.ReportLayouts := by
  refine ⟨fun s a r => ?_, fun d fits => ?_, fun n => ⟨rfl, rfl, u32_eq n⟩, fun x => ⟨i16_eq x, i32_eq x⟩, rfl,
    fun r => ⟨rfl, rfl, rfl, rfl⟩, rfl, rfl, fun _ => rfl, rfl, rfl, rfl, rfl, rfl, rfl, rfl, ?_⟩
  · intro body at'
    have f := loadStatus_layout s a r
    refine ⟨?_, f 0 rfl rfl, f 1 rfl rfl, f 2 rfl rfl, f 3 rfl rfl, f 4 rfl rfl, f 5 rfl rfl, f 6 rfl rfl, f 7 rfl rfl,
      f 8 rfl rfl, f 9 rfl rfl, f 10 rfl rfl, f 11 rfl rfl, f 12 rfl rfl, f 13 rfl rfl, f 14 rfl rfl, f 15 rfl rfl,
      f 16 rfl rfl, ?_, ?_, f 19 rfl rfl, f 20 rfl rfl, f 21 rfl rfl, f 22 rfl rfl, f 23 rfl rfl, fun k i found => ?_⟩
    · show (s.loadReport a r).length = _
      rw [State.loadReport_eq_fields, List.length_append, flatten_length (s.loadFields_widths a r),
        flatMap_length_of_width LoadItem.report_length]
      rfl
    · have restrict := f 17 rfl (p := 45) rfl
      rwa [u8_bitCode] at restrict
    · have standing := f 18 rfl (p := 46) rfl
      rwa [State.u8_standingCode] at standing
    · have item := loadStatus_item_layout s a r found
      have place : 62 + 13 * k - 2 = 60 + 13 * k := by omega
      rw [LoadItem.report_eq] at item
      show (body.drop (62 + 13 * k - 2)).take _ = _
      rw [place]
      exact item
  · intro figures at'
    have f := @readRecord_layout d fits
    refine ⟨?_, f 0 rfl rfl, f 1 rfl rfl, f 2 rfl rfl, f 3 rfl rfl, f 4 rfl rfl, f 5 rfl rfl, f 6 rfl rfl, f 7 rfl rfl,
      f 8 rfl rfl, f 9 rfl rfl, f 10 rfl rfl, f 11 rfl rfl, f 12 rfl rfl, f 13 rfl rfl, f 14 rfl rfl, f 15 rfl rfl,
      f 16 rfl rfl, f 17 rfl rfl, f 18 rfl rfl, f 19 rfl rfl, f 20 rfl rfl, f 21 rfl rfl, fun k i found => ?_⟩
    · rw [DeliveryRecord.report_eq_fields, List.length_append, flatten_length (DeliveryRecord.fields_widths fits),
        flatMap_length_of_width SummaryItem.report_length]
      rfl
    · have place : 74 + 7 * k - 4 = 70 + 7 * k := by omega
      show (d.report.drop (74 + 7 * k - 4)).take _ = _
      rw [place]
      exact readRecord_item_layout fits found
  · intro f bit
    have weight (i : Nat) (b : Bool) : bit i b = 2 ^ i * bitCode b := by cases b <;> simp [bit, bitCode]
    simp only [weight, ExceptionFlags.word, Nat.reducePow, Nat.one_mul]

end Sys2Proof.Proofs
end

-- ==== Sitting 5, part 24: the requests that only read ====
section
/-! Each report as a list of the fields its rule names. An optional field, a flag and a timer are each said once; what is
then left between a report and its statement is the grouping of `++`. -/

namespace Sys2Proof.Machine

/-! ### Optional fields, flags and timers -/

theorem opt16_eq (x : Option Nat) : opt16 x = u16 (x.getD 65535) := by
  cases x with
  | none => rfl
  | some n => rfl

theorem opt32_map {α : Type} (x : Option α) (f : α → Nat) : opt32 (x.map f) = u32 (x.elim 4294967295 f) := by
  cases x with
  | none => rfl
  | some n => rfl

theorem opt8_map {α : Type} (x : Option α) (f : α → Nat) : opt8 (x.map f) = u8 (x.elim 255 f) := by
  cases x with
  | none => rfl
  | some n => rfl

theorem opt8_windowResult (x : Option Bool) :
    opt8 (windowResult x) = u8 (x.elim 255 fun inside => if inside = true then 0 else 1) := by
  match x with
  | none => rfl
  | some true => rfl
  | some false => rfl

theorem u8_setClearCode (b : Bool) : u8 (setClearCode b) = if b = true then [0] else [1] := by cases b with | _ => rfl

theorem u8_openClosedCode (b : Bool) : u8 (openClosedCode b) = if b = true then [0] else [1] := by cases b with | _ => rfl

theorem u8_latchCode (x : Option LatchHold) : u8 (latchCode x) = if x = none then [0] else [1] := by
  cases x with
  | none => rfl
  | some h => rfl

theorem latchTime_getD (x : Option LatchHold) : (latchTime x).getD 0 = x.elim 0 fun h => h.time.toNat := by
  cases x with
  | none => rfl
  | some h => rfl

/-- A timer in a reply: its state, and its remaining time in the width of its setting (R104). -/
def timerField (absent : List Byte) (field : Nat → List Byte) (x : Timer) : List Byte :=
  match x with
  | .stopped => 0 :: absent
  | .running ticks => 1 :: field ((ticks + 99999) / 100000)
  | .expired => 2 :: field 0

theorem timerField_u16 (x : Timer) : u8 (timerCode x) ++ opt16 (timerSeconds x) = timerField [255, 255] u16 x := by
  cases x with | _ => rfl

theorem timerField_u8 (x : Timer) : u8 (timerCode x) ++ opt8 (timerSeconds x) = timerField [255] u8 x := by
  cases x with | _ => rfl

/-! ### Reports -/

theorem State.scanReport_eq (s : State) : s.scanReport =
    u8 (refStateCode s.scan.reference) ++ u8 (pressureCode s.scan.pressure) ++ u16 s.header.threshold ++
    (List.finRange 9).flatMap (fun c =>
      u16 ((s.scan.temps.get c).code.getD 65535) ++ i16 (s.scan.temps.get c).value ++
      u8 (tempStatusCode (s.scan.temps.get c).status)) ++
    u16 (s.scan.pressureCode.getD 65535) ++ u8 s.scan.belowRun ++ u8 s.scan.clearRun ++
    (List.finRange 3).flatMap fun i =>
      u16 ((s.scan.refs.get i).code.getD 65535) ++
      u8 ((s.scan.refs.get i).inWindow.elim 255 fun inside => if inside = true then 0 else 1) := by
  simp only [State.scanReport, opt16_eq, opt8_windowResult]

theorem State.headerReport_eq (s : State) : s.headerReport =
    u8 s.header.slots ++ u16 s.header.hold ++ u8 s.header.flowTimeout ++ u16 s.header.alpha ++ u16 s.header.threshold ++
    u8 (pressureCode s.scan.pressure) ++ (if s.stop.latch = none then [0] else [1]) ++
    u8 s.header.holders.length ++
    s.header.holders.flatMap (fun x =>
      u8 x.arm.val ++ u16 ((x.hold + 99999) / 100000) ++ u8 ((x.flow + 99999) / 100000)) ++
    armList s.header.wait ++ (List.finRange 8).flatMap fun a => if s.header.holds a = true then [0] else [1] := by
  have holder : Holder.report = fun x => u8 x.arm.val ++ u16 ((x.hold + 99999) / 100000) ++ u8 ((x.flow + 99999) / 100000) :=
    rfl
  have open_ (a : Arm) : s.valveOpen a = s.header.holds a := rfl
  simp only [State.headerReport, Header.report, listField, holder, u8_latchCode, u8_openClosedCode, open_,
    List.append_assoc]

theorem State.stationReport_eq (s : State) : s.stationReport =
    u8 s.address.toNat ++ u32 s.clock.toNat ++ (if s.stop.latch = none then [0] else [1]) ++
    u8 (s.stop.latch.elim 255 fun h => stopCauseCode h.cause) ++ u32 (s.stop.latch.elim 0 fun h => h.time.toNat) ++
    (List.finRange 4).flatMap (fun i =>
      (if (s.stop.inputs.get i).accepted = true then [1] else [0]) ++
      (if (s.stop.inputs.get i).enabled = true then [0] else [1])) ++
    u8 (refStateCode s.scan.reference) ++ u8 (pressureCode s.scan.pressure) ++
    armList (s.header.holders.map Holder.arm) ++ armList s.header.wait ++
    (List.finRange 4).flatMap (fun u => u8 (unitStateCode (s.units.get u).state) ++ u32 (s.units.get u).inventory) ++
    u8 s.records.records.length ++ armList s.records.wait ++
    (List.finRange 8).flatMap fun a => u8 (occupancyCode (s.arms.get a).occ) := by
  simp only [State.stationReport, u8_latchCode, latchCause, opt8_map, latchTime_getD, StopLatch.inputsReport_eq]
  rfl

theorem RecipeEntry.report_eq (x : RecipeEntry) : x.report =
    u8 (entryStateCode x.state) ++ u8 x.revision ++ u8 x.refCount ++ u16 x.code ++ u16 x.ratio ++
    u16 x.tolerance ++ u16 x.alpha ++ u16 x.flush ++ u16 x.step ++ u32 x.restrict ++ u32 x.hard ++ u8 x.items.length ++
    x.items.flatMap (fun i => u8 i.unit.val ++ u16 i.rate ++ (if i.required = true then [1] else [0])) ++
    u8 x.permitted.toNat := by
  have item : AdditiveItem.report = fun i => u8 i.unit.val ++ u16 i.rate ++ (if i.required = true then [1] else [0]) := by
    funext i
    rw [AdditiveItem.report, u8_bitCode]
  simp only [RecipeEntry.report, listField, item, List.append_assoc]

theorem AdditiveUnit.report_eq (x : AdditiveUnit) : x.report =
    u8 (unitStateCode x.state) ++ u8 x.shot ++ u32 x.low ++ u16 x.strokeTimeout ++ u16 x.settle ++ u32 x.inventory ++
    (if x.lowMark = true then [0] else [1]) ++ u8 x.failures ++ u8 (x.route.elim 255 Fin.val) ++
    u8 (x.inFlight.elim 255 Fin.val) ++ armList x.queue ++ u32 x.confirmed ++ u32 x.failed ++ u32 x.stray := by
  simp only [AdditiveUnit.report, AdditiveUnit.settingsReport, u8_setClearCode, opt8_map, List.append_assoc]

theorem LoadRecord.snapshotReport_eq (r : LoadRecord) : r.snapshotReport =
    u8 r.snap.entry.val ++ u8 r.snap.revision ++ u16 r.snap.code ++ u16 r.snap.ratio ++ u16 r.snap.tolerance ++
    u16 r.snap.alpha ++ u16 r.snap.flush ++ u16 r.snap.step ++ u32 r.snap.restrict ++ u32 r.snap.hard ++
    u8 r.items.length ++
    r.items.flatMap fun i => u8 i.unit.val ++ u16 i.rate ++ (if i.required = true then [1] else [0]) := by
  have item : LoadItem.snapshotReport =
      fun i => u8 i.unit.val ++ u16 i.rate ++ (if i.required = true then [1] else [0]) := by
    funext i
    rw [LoadItem.snapshotReport, u8_bitCode]
  simp only [LoadRecord.snapshotReport, listField, item, List.append_assoc]

theorem ArmCtl.timersReport_eq (c : ArmCtl) : c.timersReport =
    timerField [255, 255] u16 c.noFlow ++ timerField [255] u8 c.linkSilence ++ timerField [255, 255] u16 c.window ++
    timerField [255] u8 c.settle := by
  simp only [ArmCtl.timersReport, ← timerField_u16, ← timerField_u8, List.append_assoc]

theorem FinalFigures.report_eq (f : FinalFigures) : f.report =
    u16 f.number ++ u8 f.bill.length ++ f.bill ++ u8 f.entry.val ++ u8 f.revision ++ u16 f.code ++ u32 f.preset ++
    u32 f.baseGross ++ u32 f.ethGross ++ u32 f.totalGross ++ u32 f.baseStd ++ u32 f.ethStd ++ u32 f.totalStd ++
    u16 f.finalRatio ++ u8 f.items.length ++
    f.items.flatMap (fun i => u8 i.unit.val ++ u32 i.delivered ++ u16 i.shots) ++
    u16 f.flags.word ++ u8 (haltCodeOf f.haltReason) ++ u32 f.authTime.toNat ++ u32 f.endTime.toNat := by
  have item : SummaryItem.report = fun i => u8 i.unit.val ++ u32 i.delivered ++ u16 i.shots := rfl
  delta FinalFigures.report listField stringField
  simp only [item, List.append_assoc]

end Sys2Proof.Machine

namespace Sys2Proof.Proofs
open Sys2Proof.Machine

/-- What READ LOAD answers for an arm with a load (R104). -/
theorem readLoad_fields (s : State) (a : Arm) (r : LoadRecord) :
    s.loadReport a r ++ stringField r.bill ++ u32 r.authTime.toNat ++ r.snapshotReport ++
      u32 r.acc.baseStdRes ++ u32 r.acc.ethStdRes ++ u32 r.acc.closedValve ++
      opt32 (r.endTime.map BitVec.toNat) ++ (s.arms.get a).timersReport ++ s.settings.report =
    s.loadReport a r ++ u8 r.bill.length ++ r.bill ++ u32 r.authTime.toNat ++ r.snapshotReport ++
      u32 r.acc.baseStdRes ++ u32 r.acc.ethStdRes ++ u32 r.acc.closedValve ++
      u32 (r.endTime.elim 4294967295 BitVec.toNat) ++
      timerField [255, 255] u16 (s.arms.get a).noFlow ++ timerField [255] u8 (s.arms.get a).linkSilence ++
      timerField [255, 255] u16 (s.arms.get a).window ++ timerField [255] u8 (s.arms.get a).settle ++ s.settings.report := by
  simp only [stringField, opt32_map, ArmCtl.timersReport_eq, List.append_assoc]

theorem lastSummary_of_none {s : State} {a : Arm} (none_ : (s.arms.get a).lastSummary = none) :
    s.lastSummary a = s.reply .noLoad [] := by
  rw [State.lastSummary, none_]

theorem lastSummary_of_some {s : State} {a : Arm} {f : FinalFigures} (some_ : (s.arms.get a).lastSummary = some f) :
    s.lastSummary a = s.reply .accepted f.report := by
  rw [State.lastSummary, some_]

/-- Settles O27: every report is the list of its fields. -/
theorem readsChangeNothing : Obligations.ReadsChangeNothing := by
  intro s armsOf latch summary
  refine ⟨fun waits => ?_, fun waits => ?_, fun waits => ?_, fun n waits => ⟨fun large => ?_, ?_⟩,
    fun n waits => ⟨fun large => ?_, ?_⟩, fun waits => ⟨fun none_ => ?_, fun d rest held => ?_⟩,
    fun a waits => ⟨fun free => ?_, fun r held => ?_⟩, fun n waits => ⟨fun large => ?_, ?_⟩,
    fun a waits => ⟨fun none_ => ?_, fun f some_ => ?_⟩, fun n waits => ⟨fun large => ?_, ?_⟩⟩
  · exact State.next_serve waits (congrArg (s.reply .accepted) s.scanReport_eq)
  · exact State.next_serve waits (congrArg (s.reply .accepted) s.headerReport_eq)
  · exact State.next_serve waits (congrArg (s.reply .accepted) s.stationReport_eq)
  · exact State.next_serve waits (dif_neg (by omega))
  · rintro e rfl
    refine State.next_serve waits ((dif_pos e.isLt).trans (congrArg (s.reply .accepted) ?_))
    rw [RecipeEntry.report_eq]
    simp only [List.append_assoc]
  · exact State.next_serve waits (dif_neg (by omega))
  · rintro u rfl
    exact State.next_serve waits ((dif_pos u.isLt).trans (congrArg (s.reply .accepted) (s.units.get u).report_eq))
  · refine State.next_serve waits ?_
    rw [State.readRecord, none_]
    rfl
  · refine State.next_serve waits ?_
    rw [State.readRecord, held]
    rfl
  · refine State.next_serve waits ?_
    rw [State.loadStatus, free]
    rfl
  · refine State.next_serve waits ?_
    rw [State.loadStatus, held]
    rfl
  · exact State.next_serve waits (dif_neg (by omega))
  · rintro a rfl
    refine ⟨fun free => State.next_serve waits ((dif_pos a.isLt).trans ?_),
      fun r held => State.next_serve waits ((dif_pos a.isLt).trans ?_)⟩
    · dsimp only
      rw [free]
      rfl
    · dsimp only
      rw [held]
      refine congrArg (s.reply .accepted) ((readLoad_fields s a r).trans ?_)
      rw [LoadRecord.snapshotReport_eq]
      rfl
  · exact State.next_serve waits (lastSummary_of_none none_)
  · exact State.next_serve waits ((lastSummary_of_some some_).trans (congrArg (s.reply .accepted) f.report_eq))
  · exact State.next_serve waits (dif_neg (by omega))
  · rintro a rfl
    refine ⟨fun none_ => State.next_serve waits ((dif_pos a.isLt).trans (lastSummary_of_none none_)),
      fun f some_ => State.next_serve waits ((dif_pos a.isLt).trans ((lastSummary_of_some some_).trans ?_))⟩
    exact congrArg (s.reply .accepted) f.report_eq

end Sys2Proof.Proofs
end

-- ==== Sitting 5, part 25: the loss of a unit, and the requests that lead into it ====
section
/-! The loss of a unit in the closed form of `State.losesUnit` (R148), a READY unit's taking of its head in that of
`AdditiveUnit.headTaken` (R136), and SET UNIT SERVICE, REFILL UNIT and CLEAR UNIT by them. -/

namespace Sys2Proof.Machine

variable {s : State} {u : UnitNo} {r : LoadRecord}

/-! ### The loss of a unit -/

/-- A unit's loss at one load record, by whether the record lists the unit (R148). -/
theorem LoadRecord.loseUnit_eq_lossOf (r : LoadRecord) (u : UnitNo) : r.loseUnit u = r.lossOf u := by
  have twice : (fun i : LoadItem => if (if i.unit = u then { i with finalShot := false } else i).unit = u
      then { (if i.unit = u then { i with finalShot := false } else i) with short := true }
      else if i.unit = u then { i with finalShot := false } else i) =
      fun i => if i.unit = u then { i with finalShot := false, short := true } else i := by
    funext i
    by_cases unit : i.unit = u
    · simp [unit]
    · simp [unit]
  unfold LoadRecord.loseUnit LoadRecord.lossOf LoadRecord.modItem ExceptionFlags.setShort
  cases listed : r.item u with
  | none => simp
  | some i =>
    cases haltable : r.phase.haltable with
    | false => simp
    | true =>
      cases required : i.required with
      | false => simp [required, Function.comp_def, twice]
      | true =>
        by_cases handed : u ∈ r.lostHalts
        · simp [required, handed]
        · simp [required, handed]

/-- What a unit's loss does before completion conditions are examined (R148). -/
theorem State.loseUnit_eq_lost (s : State) (u : UnitNo) (st : UnitState) (k : SupNotice) (d : Nat) :
    s.loseUnit u st k d = s.lost u { s.units.get u with state := st, queue := [] } k d := by
  have record (r : LoadRecord) : r.loseUnit u = r.lossOf u := r.loseUnit_eq_lossOf u
  have notices (b : Arm) :
      lossNotices (s.record b) ((s.record b).map fun r => r.lossOf u) (s.armLines.get b).notices =
        (s.record b).elim (s.armLines.get b).notices fun r =>
          shortsRaised r.flags (r.lossOf u).flags (s.armLines.get b).notices := by
    cases s.record b with
    | none => rfl
    | some r => exact raiseShorts_eq_shortsRaised ..
  simp only [State.loseUnit, record, notices]
  rfl

theorem State.markedArms_eq_markedFor (s : State) (u : UnitNo) : s.markedArms u = s.markedFor u := by
  refine congrArg (fun p => (List.finRange 8).filter p) (funext fun b => ?_)
  cases s.record b with
  | none => rfl
  | some r => rfl

/-- A unit's loss in closed form (R148). -/
theorem State.unitLost_eq_losesUnit (s : State) (u : UnitNo) (st : UnitState) (k : SupNotice) (d : Nat) :
    s.unitLost u st k d = s.losesUnit u { s.units.get u with state := st, queue := [] } k d := by
  have examine : State.examine = State.examined := funext fun t => funext fun a => t.examine_eq_examined a
  rw [State.unitLost, State.losesUnit, State.markedArms_eq_markedFor, State.loseUnit_eq_lost, examine]

theorem State.losesUnit_units_get (s : State) (u : UnitNo) (x : AdditiveUnit) (k : SupNotice) (d : Nat) :
    (s.losesUnit u x k d).units.get u = x := by
  have examined : State.examined = State.examine := funext fun t => funext fun a => (t.examine_eq_examined a).symm
  rw [State.losesUnit, examined, State.foldl_examine_units]
  exact Bank.get_put_same ..

theorem Bank.put_upd {n : Nat} {α : Type} (b : Bank n α) (i : Fin n) (f : α → α) (x : α) :
    (b.upd i f).put i x = b.put i x := by
  refine Bank.ext_get fun j => ?_
  rw [Bank.get_put, Bank.get_put, Bank.get_upd]
  split
  · rfl
  · rfl

/-- A unit's loss names the whole unit after it, so a change of the unit before it is not seen. -/
theorem State.losesUnit_modUnit (s : State) (u : UnitNo) (f : AdditiveUnit → AdditiveUnit) (x : AdditiveUnit)
    (k : SupNotice) (d : Nat) : (s.modUnit u f).losesUnit u x k d = s.losesUnit u x k d := by
  have lost : (s.modUnit u f).lost u x k d = s.lost u x k d :=
    congrArg (fun b => { s.lost u x k d with units := b }) (Bank.put_upd s.units u f x)
  exact congrArg ((s.markedFor u).foldl State.examined) lost

/-! ### The return to service -/

/-- A unit with less than a shot left, returned to service, enters EMPTY (R147, R150, R152). -/
theorem State.unitServes_of_short (short : (s.units.get u).inventory < (s.units.get u).shot) :
    s.unitServes u = s.losesUnit u { s.units.get u with state := .empty, queue := [] } (.unitEmpty u)
      (s.units.get u).inventory := by
  rw [State.unitServes, if_neg (Nat.not_le.2 short), State.unitEmpties, State.unitLost_eq_losesUnit]

/-- A unit with a shot left and no arm queued, returned to service, enters READY (R150, R152). -/
theorem State.unitServes_of_enough (enough : (s.units.get u).shot ≤ (s.units.get u).inventory)
    (free : (s.units.get u).queue = []) : s.unitServes u = s.modUnit u fun y => { y with state := .ready } := by
  rw [State.unitServes, if_pos enough]
  exact State.takeHead_eq_self _ u (.inr (by simpa using free))

/-- The reply to a request that returns a unit with less than a shot left to service (R150, R152). -/
theorem State.serves_of_short (short : (s.units.get u).inventory < (s.units.get u).shot) :
    State.unitReply (State.unitServes (s.modUnit u fun y => { y with failures := 0 }) u) u .accepted =
      { state := s.losesUnit u { s.units.get u with state := .empty, queue := [], failures := 0 } (.unitEmpty u)
          (s.units.get u).inventory
        code := .accepted, fields := [BitVec.ofNat 8 u.val, 5] } := by
  have unit : (s.modUnit u fun y => { y with failures := 0 }).units.get u = { s.units.get u with failures := 0 } := by simp
  rw [State.unitServes_of_short (by simpa using short), State.losesUnit_modUnit, State.unitReply,
    State.losesUnit_units_get, unit]
  rfl

/-- The reply to a request that returns a unit with a shot left to service (R150, R152). -/
theorem State.serves_of_enough (enough : (s.units.get u).shot ≤ (s.units.get u).inventory)
    (free : (s.units.get u).queue = []) :
    State.unitReply (State.unitServes (s.modUnit u fun y => { y with failures := 0 }) u) u .accepted =
      { state := s.modUnit u fun y => { y with state := .ready, failures := 0 }
        code := .accepted, fields := [BitVec.ofNat 8 u.val, 1] } := by
  have both : (s.modUnit u fun y => { y with failures := 0 }).modUnit u (fun y => { y with state := .ready }) =
      s.modUnit u fun y => { y with state := .ready, failures := 0 } := by simp [State.modUnit]
  rw [State.unitServes_of_enough (by simpa using enough) (by simpa using free), both, State.unitReply]
  simp [u8, unitStateCode]

/-! ### SET UNIT SERVICE -/

theorem State.unitListed_eq_true (s : State) (u : UnitNo) : s.unitListed u = true ↔
    ∃ (a : Arm) (r : LoadRecord), s.record a = some r ∧ ∃ i ∈ r.items, i.unit = u := by
  rw [State.unitListed, List.any_eq_true]
  refine ⟨fun ⟨a, _, listed⟩ => ?_, fun ⟨a, r, load, listed⟩ => ⟨a, List.mem_finRange a, ?_⟩⟩
  · cases load : s.record a with
    | none => simp [load] at listed
    | some r => exact ⟨a, r, load, by simpa [load, LoadRecord.item, List.find?_isSome] using listed⟩
  · simpa [load, LoadRecord.item, List.find?_isSome] using listed

/-- SET UNIT SERVICE with ON (Table 7-3). -/
theorem State.setUnitService_on (s : State) (u : UnitNo) : s.setUnitService u.val 0 =
    if (s.units.get u).state = .offline then
      if (s.units.get u).shot = 0 then s.unitReply u .notConfigured
      else State.unitReply (State.unitServes (s.modUnit u fun y => { y with failures := 0 }) u) u .accepted
    else s.unitReply u .accepted := (dif_pos u.isLt).trans rfl

theorem State.setUnitService_off_of_offline (offline : (s.units.get u).state = .offline) :
    s.setUnitService u.val 1 = s.unitReply u .accepted := by
  simp [State.setUnitService, offline]

theorem State.setUnitService_off_of_working
    (working : (s.units.get u).state = .routing ∨ (s.units.get u).state = .stroking) :
    s.setUnitService u.val 1 = s.unitReply u .inUse := by
  obtain state | state := working
  · simp [State.setUnitService, state]
  · simp [State.setUnitService, state]

theorem State.setUnitService_of_range {n service : Nat} (outside : 4 ≤ n ∨ 2 ≤ service) :
    s.setUnitService n service = s.reply .refusedRange [] := by
  unfold State.setUnitService
  by_cases unit : n < 4
  · exact (dif_pos unit).trans (if_pos (by omega))
  · exact dif_neg unit

/-- A unit that can be taken OFFLINE: READY, FAULTED or EMPTY (Table 7-3). -/
theorem State.setUnitService_off_of_idle
    (idle : (s.units.get u).state = .ready ∨ (s.units.get u).state = .faulted ∨ (s.units.get u).state = .empty) :
    s.setUnitService u.val 1 = if s.unitListed u then s.unitReply u .inUse
      else State.unitReply (s.modUnit u AdditiveUnit.goOffline) u .accepted := by
  obtain state | state | state := idle
  · simp [State.setUnitService, state]
  · simp [State.setUnitService, state]
  · simp [State.setUnitService, state]

/-! ### REFILL UNIT and CLEAR UNIT -/

/-- The unit after a refill of `volume` mL (R151). -/
def AdditiveUnit.refilledBy (x : AdditiveUnit) (volume : Nat) : AdditiveUnit :=
  let sum := min 100000000 (x.inventory + volume)
  { x with inventory := sum, lowMark := decide (sum < x.low),
           state := if x.state = .empty ∧ x.shot ≤ sum then .ready else x.state }

/-- A refill in closed form (R146, R151); an EMPTY unit holds no arm in its queue. -/
theorem State.refill_eq (free : (s.units.get u).state = .empty → (s.units.get u).queue = []) (volume : Nat) :
    s.refill u volume = { s with
      units := s.units.upd u fun x => x.refilledBy volume
      supervisor := { s.supervisor with
        notices := if decide (min 100000000 ((s.units.get u).inventory + volume) < (s.units.get u).low) = true ∧
            (s.units.get u).lowMark = false
          then raiseIn SupNotice.key (.unitLow u) (some (min 100000000 ((s.units.get u).inventory + volume)))
            s.supervisor.notices
          else s.supervisor.notices } } := by
  have sum : refilled (s.units.get u).inventory volume = min 100000000 ((s.units.get u).inventory + volume) := rfl
  unfold State.refill
  rw [State.evalLow_eq]
  by_cases back : (s.units.get u).state = .empty ∧
      (s.units.get u).shot ≤ min 100000000 ((s.units.get u).inventory + volume)
  · dsimp only
    rw [if_pos (by simpa [sum] using back), State.takeHead_eq_self _ u (.inr (by simpa using free back.1))]
    simp only [State.modUnit, Bank.upd_upd, Bank.get_upd_same, sum]
    congr 1
    exact Bank.upd_congr _ _ (by rw [AdditiveUnit.refilledBy, if_pos back]; rfl)
  · dsimp only
    rw [if_neg (by simpa [sum] using back)]
    simp only [State.modUnit, Bank.upd_upd, Bank.get_upd_same, sum]
    congr 1
    exact Bank.upd_congr _ _ (by rw [AdditiveUnit.refilledBy, if_neg back]; rfl)

theorem State.refillUnit_of_range {n volume : Nat} (outside : 4 ≤ n ∨ volume = 0 ∨ 100000000 < volume) :
    s.refillUnit n volume = s.reply .refusedRange [] := by
  unfold State.refillUnit
  by_cases unit : n < 4
  · exact (dif_pos unit).trans (if_pos (by simp only [Config.maxInventory]; omega))
  · exact dif_neg unit

/-- REFILL UNIT within its ranges (R151). -/
theorem State.refillUnit_of_valid {volume : Nat} (least : 1 ≤ volume) (most : volume ≤ 100000000) :
    s.refillUnit u.val volume =
      { state := s.refill u volume
        code := adjustedIf (decide (100000000 < (s.units.get u).inventory + volume))
        fields := u8 u.val ++ u32 ((s.refill u volume).units.get u).inventory ++
          u8 (unitStateCode ((s.refill u volume).units.get u).state) } :=
  (dif_pos u.isLt).trans (if_neg (by simp only [Config.maxInventory]; omega))

theorem State.clearUnit_eq (s : State) (u : UnitNo) : s.clearUnit u.val =
    if (s.units.get u).state = .faulted then
      State.unitReply (State.unitServes (s.modUnit u fun y => { y with failures := 0 }) u) u .accepted
    else s.unitReply u .refusedState := (dif_pos u.isLt).trans rfl

end Sys2Proof.Machine

namespace Sys2Proof.Proofs
open Sys2Proof.Machine

/-- Settles O47, by the rows of Table 7-3. -/
theorem unitServiceByTable : Obligations.UnitServiceByTable := by
  intro s unit service c waits
  refine ⟨fun outside => State.next_serve waits (State.setUnitService_of_range outside), ?_⟩
  rintro u rfl x stays listed
  have listing : s.unitListed u = true ↔ listed := s.unitListed_eq_true u
  refine ⟨?_, ?_, ?_, ?_, ?_, ?_, ?_, ?_⟩
  · rintro rfl inService
    exact State.next_serve waits ((s.setUnitService_on u).trans (if_neg inService))
  · rintro rfl offline unset
    exact State.next_serve waits ((s.setUnitService_on u).trans ((if_pos offline).trans (if_pos unset)))
  · rintro rfl offline set_ enough free
    exact State.next_serve waits ((s.setUnitService_on u).trans
      ((if_pos offline).trans ((if_neg set_).trans (State.serves_of_enough enough free))))
  · rintro rfl offline set_ short
    exact State.next_serve waits ((s.setUnitService_on u).trans
      ((if_pos offline).trans ((if_neg set_).trans (State.serves_of_short short))))
  · rintro rfl offline
    exact State.next_serve waits (State.setUnitService_off_of_offline offline)
  · rintro rfl working
    exact State.next_serve waits (State.setUnitService_off_of_working working)
  · rintro rfl idle inUse
    exact State.next_serve waits ((State.setUnitService_off_of_idle idle).trans (if_pos (listing.2 inUse)))
  · rintro rfl idle free
    refine State.next_serve waits ((State.setUnitService_off_of_idle idle).trans
      ((if_neg fun inUse => free (listing.1 inUse)).trans ?_))
    have left : ((s.modUnit u AdditiveUnit.goOffline).units.get u).state = .offline := by simp [AdditiveUnit.goOffline]
    rw [State.unitReply, left]
    rfl

/-- Settles O48: a refill in closed form, and CLEAR UNIT's return to service. -/
theorem refillAndClearUnit : Obligations.RefillAndClearUnit := by
  intro s unit volume
  refine ⟨fun waits => ⟨fun outside => State.next_serve waits (State.refillUnit_of_range outside), ?_⟩,
    fun waits => ⟨fun large => State.next_serve waits (dif_neg (by omega)), ?_⟩⟩
  · rintro u rfl least most free x sum mark state
    refine State.next_serve waits ((State.refillUnit_of_valid least most).trans ?_)
    have unit : (s.refill u volume).units.get u = x.refilledBy volume := by
      rw [State.refill_eq free]
      exact Bank.get_upd_same ..
    rw [unit, adjustedIf_eq_ite decide_eq_true_iff, State.refill_eq free]
    rfl
  · rintro u rfl
    refine ⟨fun notFaulted => ?_, fun faulted enough free => ?_, fun faulted short => ?_⟩
    · exact State.next_serve waits ((s.clearUnit_eq u).trans (if_neg notFaulted))
    · exact State.next_serve waits ((s.clearUnit_eq u).trans
        ((if_pos faulted).trans (State.serves_of_enough enough free)))
    · exact State.next_serve waits ((s.clearUnit_eq u).trans ((if_pos faulted).trans (State.serves_of_short short)))

end Sys2Proof.Proofs
end

-- ==== Sitting 5, part 26: the ends of strokes ====
section
/-! A READY unit's taking of its head (R136) and the end of a stroke (R140 to R142) in closed form, and the stroke timeout by
them. -/

namespace Sys2Proof.Machine

variable {s : State} {u : UnitNo} {a : Arm} {r : LoadRecord}

/-! ### Taking the head -/

/-- What taking the head makes of the unit does not depend on the state it was in. -/
theorem AdditiveUnit.headTaken_state (x : AdditiveUnit) (st : UnitState) : { x with state := st }.headTaken = x.headTaken := by
  unfold AdditiveUnit.headTaken
  cases queue : x.queue with
  | nil => rfl
  | cons b rest => rfl

theorem AdditiveUnit.headTaken_nil {x : AdditiveUnit} (queue : x.queue = []) : x.headTaken = { x with state := .ready } := by
  rw [AdditiveUnit.headTaken, queue]

theorem AdditiveUnit.headTaken_cons {x : AdditiveUnit} {rest : List Arm} (queue : x.queue = a :: rest) :
    x.headTaken = x.begin a rest := by
  rw [AdditiveUnit.headTaken, queue]
  unfold AdditiveUnit.begin AdditiveUnit.stroke
  by_cases route : x.route = some a
  · simp only [route, true_or, if_true]
    rfl
  · by_cases settle : x.settle = 0
    · simp only [settle, or_true, if_true, if_neg route]
      rfl
    · simp only [route, settle, or_self, if_false]
      rfl

/-- A READY unit takes the head of its queue, if an arm is queued, and that arm's mark for the unit is cleared (R136). -/
theorem State.takeHead_eq (ready : (s.units.get u).state = .ready) : s.takeHead u = { s with
    units := s.units.put u (s.units.get u).headTaken
    arms := (s.units.get u).queue.head?.elim s.arms fun b =>
      s.arms.upd b fun c => c.mapRecord fun q => q.markTaken u } := by
  cases queue : (s.units.get u).queue with
  | nil =>
    have same : s.units.put u (s.units.get u).headTaken = s.units := by
      rw [AdditiveUnit.headTaken_nil queue, ← ready]
      exact Bank.upd_eq_self s.units u (fun x => x) rfl
    rw [State.takeHead_eq_self s u (.inr queue), same]
    rfl
  | cons b rest =>
    rw [AdditiveUnit.headTaken_cons queue, State.takeHead, queue]
    exact if_pos ready

/-! ### Rejoining -/

/-- Items that name different units: a property of the item for a unit, found by search or asked of all. -/
theorem any_of_distinct {items : List LoadItem} (distinct : (items.map LoadItem.unit).Nodup) (u : UnitNo)
    (p : LoadItem → Bool) :
    (items.any fun i => decide (i.unit = u) && p i) = (items.find? fun i => i.unit = u).any p := by
  induction items with
  | nil => rfl
  | cons i rest ih =>
    obtain ⟨fresh, distinct⟩ := List.nodup_cons.1 distinct
    rw [List.any_cons, List.find?_cons]
    by_cases unit : i.unit = u
    · have others : (rest.any fun j => decide (j.unit = u) && p j) = false := by
        refine List.any_eq_false.2 fun j member => ?_
        have ne : j.unit ≠ u := fun same => fresh (List.mem_map.2 ⟨j, member, same.trans unit.symm⟩)
        simp [ne]
      simp [unit, others]
    · simp [unit, ih distinct]

theorem LoadRecord.rejoins_eq_wantsShot (distinct : (r.items.map LoadItem.unit).Nodup) (u : UnitNo) (shot : Nat) :
    r.rejoins u shot = r.wantsShot u shot := by
  rw [LoadRecord.wantsShot, any_of_distinct distinct, LoadRecord.rejoins, LoadRecord.item]
  cases r.items.find? fun i => i.unit = u with
  | none => rfl
  | some i =>
    cases phase : r.phase with
    | flowing => simp [LoadItem.due]; rfl
    | flush => simp [LoadItem.due]; rfl
    | _ => simp

/-- The queue of unit `u` after the stroke of arm `a` has ended (R141, R142). -/
def State.queueAfter (s : State) (u : UnitNo) (a : Arm) : List Arm :=
  (s.units.get u).queue ++
    if (s.record a).any (fun r => r.wantsShot u (s.units.get u).shot) = true then [a] else []

theorem State.backToReady_eq_takeHead (distinct : ∀ r, s.record a = some r → (r.items.map LoadItem.unit).Nodup) :
    s.backToReady u a = State.takeHead
      (if (s.record a).any (fun r => r.wantsShot u (s.units.get u).shot) = true
        then (s.modUnit u fun x => { x with state := .ready }).modUnit u fun x => x.join a
        else s.modUnit u fun x => { x with state := .ready }) u := by
  have same : (s.modUnit u fun x => { x with state := .ready }).record a = s.record a := rfl
  refine congrArg (fun t : State => t.takeHead u) ?_
  cases load : s.record a with
  | none =>
    rw [same, load]
    rfl
  | some r =>
    rw [same, load, Option.any_some, ← LoadRecord.rejoins_eq_wantsShot (distinct r load)]
    simp only [State.modUnit_units, Bank.get_upd_same]

/-- The return to READY at the end of a stroke of arm `a`, which is not queued (R136, R140 to R142). -/
theorem State.backToReady_eq (distinct : ∀ r, s.record a = some r → (r.items.map LoadItem.unit).Nodup)
    (free : a ∉ (s.units.get u).queue) : s.backToReady u a = { s with
      units := s.units.put u { s.units.get u with queue := s.queueAfter u a }.headTaken
      arms := (s.queueAfter u a).head?.elim s.arms fun b =>
        s.arms.upd b fun c => c.mapRecord fun q => q.markTaken u } := by
  have joined : s.backToReady u a =
      State.takeHead (s.modUnit u fun x => { x with state := .ready, queue := s.queueAfter u a }) u := by
    rw [State.backToReady_eq_takeHead distinct]
    refine congrArg (fun t : State => t.takeHead u) ?_
    by_cases wants : ((s.record a).any fun r => r.wantsShot u (s.units.get u).shot) = true
    · rw [if_pos wants, State.queueAfter, if_pos wants]
      refine congrArg (fun b => { s with units := b }) ?_
      rw [State.modUnit_units, Bank.upd_upd]
      exact Bank.upd_congr _ _ (if_neg free)
    · rw [if_neg wants, State.queueAfter, if_neg wants, List.append_nil]
      exact congrArg (fun b => { s with units := b }) (Bank.upd_congr _ _ rfl)
  rw [joined, State.takeHead_eq (by simp), State.modUnit_units, Bank.get_upd_same, Bank.put_upd,
    ← AdditiveUnit.headTaken_state _ .ready]
  rfl

/-! ### The stroke timeout -/

/-- The unit after a failed stroke, before it returns to READY or enters FAULTED (R142). -/
def AdditiveUnit.strokeLost (x : AdditiveUnit) : AdditiveUnit :=
  { x with strokeTimer := .stopped, failures := x.failures + 1, inFlight := none
           failed := if x.failed < 4294967295 then x.failed + 1 else x.failed }

/-- A failed stroke before the third in a row (R142). -/
theorem State.strokeFailed_of_few (distinct : ∀ r, s.record a = some r → (r.items.map LoadItem.unit).Nodup)
    (free : a ∉ (s.units.get u).queue) (few : (s.units.get u).failures < 2) : s.strokeFailed u a =
      State.examined { s with
        units := s.units.put u { (s.units.get u).strokeLost with queue := s.queueAfter u a }.headTaken
        arms := (s.queueAfter u a).head?.elim s.arms fun b =>
          s.arms.upd b fun c => c.mapRecord fun q => q.markTaken u } a := by
  rw [← State.examine_eq_examined]
  have unit : (s.modUnit u AdditiveUnit.strokeLost).units.get u = (s.units.get u).strokeLost := Bank.get_upd_same ..
  have queue : (s.modUnit u AdditiveUnit.strokeLost).queueAfter u a = s.queueAfter u a := by
    unfold State.queueAfter
    rw [unit]
    rfl
  have back := State.backToReady_eq (s := s.modUnit u AdditiveUnit.strokeLost) (u := u) (a := a) distinct (by rwa [unit])
  rw [unit, queue, State.modUnit_units, Bank.put_upd] at back
  refine (congrArg (fun t : State => t.examine a) (if_neg ?_)).trans (congrArg (fun t : State => t.examine a) back)
  simp only [State.modUnit_units, Bank.get_upd_same]
  omega

/-- The third failed stroke in a row (R142, R148). -/
theorem State.strokeFailed_of_third (third : 2 ≤ (s.units.get u).failures) : s.strokeFailed u a =
    (s.losesUnit u { (s.units.get u).strokeLost with state := .faulted, queue := [] } (.unitFaulted u) a.val).examined a := by
  rw [← State.examine_eq_examined]
  have unit : (s.modUnit u AdditiveUnit.strokeLost).units.get u = (s.units.get u).strokeLost := Bank.get_upd_same ..
  have lost := (s.modUnit u AdditiveUnit.strokeLost).unitLost_eq_losesUnit u .faulted (.unitFaulted u) a.val
  rw [unit, State.losesUnit_modUnit] at lost
  refine (congrArg (fun t : State => t.examine a) (if_pos ?_)).trans (congrArg (fun t : State => t.examine a) lost)
  simp only [State.modUnit_units, Bank.get_upd_same]
  omega

theorem exec_strokeTimeout_of_stroking (stroking : (s.units.get u).state = .stroking)
    (flying : (s.units.get u).inFlight = some a) : exec (.strokeTimeout u) s =
      if (s.units.get u).strokeTimer.due then .next (s.strokeFailed u a) else .next s := by
  show execStrokeTimeout u s = _
  unfold execStrokeTimeout
  dsimp only
  rw [stroking, flying]

/-- The items of a load name different units, by the law of items. -/
theorem State.items_distinct (law : s.itemLaw) (load : s.record a = some r) : (r.items.map LoadItem.unit).Nodup := by
  have items := law.2 a
  rwa [load] at items

/-- The arm in flight is not queued, by the law of the shot queues (R133). -/
theorem State.flying_not_queued (law : s.shotQueueLaw) (flying : (s.units.get u).inFlight = some a) :
    a ∉ (s.units.get u).queue := fun queued => ((law u).2 a queued).1 flying

end Sys2Proof.Machine

namespace Sys2Proof.Proofs
open Sys2Proof.Machine

/-- Settles O45: a failed stroke returns the unit to READY or loses it. -/
theorem failedStrokes : Obligations.FailedStrokes := by
  intro s u a items queues stroking flying x y queue
  have taken := exec_strokeTimeout_of_stroking stroking flying
  refine ⟨fun running => ?_, fun due few => ?_, fun due third => ?_⟩
  · exact taken.trans (if_neg fun due => running ((Timer.due_eq_true _).1 due))
  · refine taken.trans ((if_pos ((Timer.due_eq_true _).2 due)).trans (congrArg Host.Outcome.next ?_))
    exact State.strokeFailed_of_few (fun r load => State.items_distinct items load) (State.flying_not_queued queues flying) few
  · exact taken.trans ((if_pos ((Timer.due_eq_true _).2 due)).trans
      (congrArg Host.Outcome.next (State.strokeFailed_of_third third)))

end Sys2Proof.Proofs
end

-- ==== Sitting 5, part 27: a unit's work ====
section
/-! What a delivery does to the shot queues (R68, R133, R136), and a stroke's confirmation in closed form (R139 to R143,
R147). -/

namespace Sys2Proof.Machine

variable {s t : State} {u : UnitNo} {a : Arm} {r x q : LoadRecord} {v : Verdict}

/-! ### Additive-due results, unit by unit -/

/-- The unit after an additive-due result has put arm `a` at its queue's tail: a READY unit takes the head at once. -/
def AdditiveUnit.queued (x : AdditiveUnit) (a : Arm) : AdditiveUnit :=
  if x.state = .ready then { x with queue := x.queue ++ [a] }.headTaken else { x with queue := x.queue ++ [a] }

/-- An additive-due result of arm `a` for unit `u` takes effect (R133). -/
def State.joins (s : State) (u : UnitNo) (a : Arm) : Prop :=
  (s.units.get u).state.operational = true ∧ (s.phase a = some .flowing ∨ s.phase a = some .flush) ∧
    a ∉ (s.units.get u).queue ∧ (s.units.get u).inFlight ≠ some a

theorem State.joins_congr (units : t.units.get u = s.units.get u) (phase : t.phase a = s.phase a) :
    t.joins u a ↔ s.joins u a := by
  rw [State.joins, State.joins, units, phase]

theorem State.additiveDue_of_not_joins (not : ¬ s.joins u a) : s.additiveDue u a = s := if_neg not

theorem State.additiveDue_of_joins (joins : s.joins u a) : (s.additiveDue u a).units.get u = (s.units.get u).queued a := by
  have taken : s.additiveDue u a = s.enqueue u a := if_pos joins
  rw [taken, State.enqueue]
  have unit : (s.modUnit u fun x => x.join a).units.get u = { s.units.get u with queue := (s.units.get u).queue ++ [a] } :=
    (Bank.get_upd_same ..).trans (if_neg joins.2.2.1)
  by_cases ready : (s.units.get u).state = .ready
  · rw [State.takeHead_eq (by rw [unit]; exact ready), unit, AdditiveUnit.queued, if_pos ready]
    exact Bank.get_put_same ..
  · rw [State.takeHead_eq_self _ u (.inl (by rw [unit]; exact ready)), unit, AdditiveUnit.queued, if_neg ready]

theorem State.additiveDue_units_get_of_ne {w : UnitNo} (ne : u ≠ w) : (s.additiveDue w a).units.get u = s.units.get u :=
  iteInduction (motive := fun t : State => t.units.get u = s.units.get u)
    (fun _ => s.enqueue_units_get_of_ne a ne) fun _ => rfl

theorem State.additiveDue_phase (s : State) (u : UnitNo) (a b : Arm) : (s.additiveDue u a).phase b = s.phase b :=
  State.phase_of_unmarked (s.additiveDue_unmarked u a b)

/-- The additive-due test of one item and its result (R68, R133). -/
def State.dueStep (a : Arm) (t : State) (i : LoadItem) : State :=
  if i.due (t.units.get i.unit).shot then t.additiveDue i.unit a else t

theorem State.dueStep_phase (a : Arm) (t : State) (i : LoadItem) : (t.dueStep a i).phase a = t.phase a :=
  iteInduction (motive := fun x : State => x.phase a = t.phase a) (fun _ => t.additiveDue_phase i.unit a a) fun _ => rfl

theorem State.dueStep_units_get_of_ne {i : LoadItem} (ne : i.unit ≠ u) (a : Arm) (t : State) :
    (t.dueStep a i).units.get u = t.units.get u :=
  iteInduction (motive := fun x : State => x.units.get u = t.units.get u)
    (fun _ => State.additiveDue_units_get_of_ne (Ne.symm ne)) fun _ => rfl

/-- A unit for which no item is due, or to which the arm does not join, is left alone. -/
theorem State.foldl_dueStep_of_not {items : List LoadItem}
    (not : ¬ ((∃ i ∈ items, i.unit = u ∧ i.due (s.units.get u).shot = true) ∧ s.joins u a)) :
    (items.foldl (State.dueStep a) s).units.get u = s.units.get u := by
  induction items generalizing s with
  | nil => rfl
  | cons i rest ih =>
    rw [List.foldl_cons]
    by_cases unit : i.unit = u
    · have still : s.dueStep a i = s := by
        unfold State.dueStep
        split
        · next due =>
          rw [unit] at due ⊢
          exact State.additiveDue_of_not_joins fun joins => not ⟨⟨i, List.mem_cons_self, unit, due⟩, joins⟩
        · rfl
      rw [still]
      exact ih fun ⟨⟨j, member, due⟩, joins⟩ => not ⟨⟨j, List.mem_cons_of_mem i member, due⟩, joins⟩
    · have units := State.dueStep_units_get_of_ne unit a s
      refine (ih fun ⟨⟨j, member, due⟩, joins⟩ => not ⟨⟨j, List.mem_cons_of_mem i member, ?_⟩, ?_⟩).trans units
      · rwa [units] at due
      · exact (State.joins_congr units (State.dueStep_phase a s i)).1 joins

/-- A unit for which an item is due has the arm queued. -/
theorem State.foldl_dueStep_of_due {items : List LoadItem} (distinct : (items.map LoadItem.unit).Nodup)
    (due : ∃ i ∈ items, i.unit = u ∧ i.due (s.units.get u).shot = true) (joins : s.joins u a) :
    (items.foldl (State.dueStep a) s).units.get u = (s.units.get u).queued a := by
  induction items generalizing s with
  | nil => simp at due
  | cons i rest ih =>
    obtain ⟨fresh, distinct⟩ := List.nodup_cons.1 distinct
    obtain ⟨j, member, unit, due⟩ := due
    rw [List.foldl_cons]
    obtain rfl | later := List.mem_cons.1 member
    · have step : (s.dueStep a j).units.get u = (s.units.get u).queued a := by
        rw [State.dueStep, unit, if_pos due, State.additiveDue_of_joins joins]
      refine (State.foldl_dueStep_of_not fun ⟨⟨i, member, same, _⟩, _⟩ => fresh ?_).trans step
      exact List.mem_map.2 ⟨i, member, same.trans unit.symm⟩
    · have ne : i.unit ≠ u := fun same => fresh (List.mem_map.2 ⟨j, later, unit.trans same.symm⟩)
      have units := State.dueStep_units_get_of_ne ne a s
      rw [ih distinct ⟨j, later, unit, by rwa [units]⟩ ((State.joins_congr units (State.dueStep_phase a s i)).2 joins), units]

theorem State.additiveResults_eq_foldl (load : s.record a = some x) :
    s.additiveResults a = x.items.foldl (State.dueStep a) s := by
  rw [State.additiveResults, load]
  rfl

/-! ### A verdict carried out, unit by unit -/

/-- A verdict halts; or it lets the load go on, and additive-due results follow but in AUTHORIZED. -/
def Verdict.Shaped (v : Verdict) : Prop :=
  (v.why.isSome = true ∧ v.record.phase = .halted ∧ v.shots = false) ∨
    (v.why = none ∧ v.record.phase ≠ .halted ∧ (v.shots = false → v.record.phase = .authorized))

theorem State.verdict_shaped (haltable : x.phase.haltable = true) (s : State) (a : Arm) (saturating : Bool) (baseVcf : Nat) :
    (s.verdict a x saturating baseVcf).Shaped := by
  have notHalted := Phase.ne_halted_of_haltable haltable
  have halts (y : LoadRecord) (why : HaltReason) : (s.haltVerdict a y why).Shaped := .inl ⟨rfl, rfl, rfl⟩
  unfold State.verdict State.blendVerdict
  rw [if_pos haltable]
  split
  · exact halts _ _
  · split
    · exact halts _ _
    · split
      · next authorized => exact .inr ⟨rfl, notHalted, fun _ => authorized⟩
      · split
        · exact .inr ⟨rfl, notHalted, nofun⟩
        · split
          · exact halts _ _
          · split
            · exact halts _ _
            · split
              · exact .inr ⟨rfl, nofun, nofun⟩
              · exact .inr ⟨rfl, notHalted, nofun⟩

theorem State.follow_record (s : State) (a : Arm) (x : LoadRecord) (v : Verdict) : (s.follow a x v).record a = some v.record := by
  simp [State.follow, State.record, ArmCtl.judged, Occupancy.record]

/-- A halt takes the arm out of the unit's queue. -/
theorem State.carriedOut_unit_of_halt (shaped : v.Shaped) (halted : v.record.phase = .halted) (s : State) (a : Arm)
    (x : LoadRecord) (u : UnitNo) : (s.carriedOut a x v).units.get u =
      { s.units.get u with queue := (s.units.get u).queue.filter fun b => b ≠ a } := by
  obtain ⟨why, -, noShots⟩ | ⟨-, notHalted, -⟩ := shaped
  · have left : (s.follow a x v).units = s.queuesLeft a := if_pos why
    rw [State.carriedOut, noShots, if_neg Bool.false_ne_true, left]
    exact Bank.get_tab ..
  · exact absurd halted notHalted

/-- A delivery after which the load goes on has the arm queued at a unit for which an item of it is due. -/
theorem State.carriedOut_unit_of_joins (shaped : v.Shaped) (distinct : (v.record.items.map LoadItem.unit).Nodup)
    (phase : v.record.phase = .flowing ∨ v.record.phase = .flush)
    (due : ∃ i ∈ v.record.items, i.unit = u ∧ i.due (s.units.get u).shot = true)
    (operational : (s.units.get u).state.operational = true) (fresh : a ∉ (s.units.get u).queue)
    (grounded : (s.units.get u).inFlight ≠ some a) :
    (s.carriedOut a x v).units.get u = (s.units.get u).queued a := by
  obtain ⟨-, halted, -⟩ | ⟨why, -, shots⟩ := shaped
  · simp [halted] at phase
  · have units : (s.follow a x v).units = s.units := if_neg (by simp [why])
    have follows : v.shots = true := by
      by_contra none_
      have authorized := shots (by simpa using none_)
      simp [authorized] at phase
    have phase' : (s.follow a x v).phase a = some .flowing ∨ (s.follow a x v).phase a = some .flush :=
      phase.imp (fun h => (State.phase_eq_some ..).2 ⟨_, s.follow_record a x v, h⟩)
        fun h => (State.phase_eq_some ..).2 ⟨_, s.follow_record a x v, h⟩
    rw [State.carriedOut, if_pos follows, State.additiveResults_eq_foldl (s.follow_record a x v), ← units]
    rw [← units] at due operational fresh grounded
    exact State.foldl_dueStep_of_due distinct due ⟨operational, phase', fresh, grounded⟩

/-- Every other unit is left alone. -/
theorem State.carriedOut_unit_of_not (shaped : v.Shaped) (goesOn : v.record.phase ≠ .halted)
    (not : ¬ ((v.record.phase = .flowing ∨ v.record.phase = .flush) ∧
      (∃ i ∈ v.record.items, i.unit = u ∧ i.due (s.units.get u).shot = true) ∧
      (s.units.get u).state.operational = true ∧ a ∉ (s.units.get u).queue ∧ (s.units.get u).inFlight ≠ some a)) :
    (s.carriedOut a x v).units.get u = s.units.get u := by
  obtain ⟨-, halted, -⟩ | ⟨why, -, -⟩ := shaped
  · exact absurd halted goesOn
  · have units : (s.follow a x v).units = s.units := if_neg (by simp [why])
    have own (p : Phase) : (s.follow a x v).phase a = some p → v.record.phase = p := fun h => by
      obtain ⟨q, load, phase⟩ := (State.phase_eq_some ..).1 h
      rw [State.follow_record] at load
      rw [← phase, Option.some.inj load]
    rw [State.carriedOut]
    split
    · rw [State.additiveResults_eq_foldl (s.follow_record a x v), ← units]
      refine State.foldl_dueStep_of_not fun ⟨due, operational, phase, fresh, grounded⟩ => not ?_
      rw [units] at due operational fresh grounded
      exact ⟨phase.imp (own _) (own _), due, operational, fresh, grounded⟩
    · rw [units]

theorem UnitState.operational_eq_true (x : UnitState) :
    x.operational = true ↔ x = .ready ∨ x = .routing ∨ x = .stroking := by
  cases x with
  | _ => simp [UnitState.operational]

theorem LoadItem.due_eq_true (i : LoadItem) (shot : Nat) :
    i.due shot = true ↔ i.short = false ∧ 1 ≤ shot ∧ (shot : Int) ≤ i.owed := by
  simp [LoadItem.due, and_assoc, Nat.succ_le_iff]

/-- Whether an item is due does not depend on marks. -/
theorem LoadRecord.exists_due_of_unmarked (marks : q.unmarked = x.unmarked) (u : UnitNo) (shot : Nat) :
    (∃ i ∈ q.items, i.unit = u ∧ i.due shot = true) ↔ ∃ i ∈ x.items, i.unit = u ∧ i.due shot = true := by
  have clear (y : LoadRecord) : (∃ i ∈ y.items, i.unit = u ∧ i.due shot = true) ↔
      ∃ i ∈ y.unmarked.items, i.unit = u ∧ i.due shot = true := by
    refine ⟨fun ⟨i, member, due⟩ => ⟨_, List.mem_map_of_mem member, due⟩, fun ⟨j, member, due⟩ => ?_⟩
    obtain ⟨i, listed, rfl⟩ := List.mem_map.1 member
    exact ⟨i, listed, due⟩
  rw [clear q, clear x, marks]

/-! ### A confirmed stroke -/

/-- A confirmed stroke's credit (R67, R141). -/
theorem LoadRecord.creditShot_eq_credited (r : LoadRecord) (u : UnitNo) (shot : Nat) :
    r.creditShot u shot = r.credited u shot := by
  have metered : r.phase.metered = true ↔ r.phase ≠ .complete := by
    cases r.phase with
    | _ => simp [Phase.metered]
  by_cases complete : r.phase = .complete
  · exact (if_neg fun h => metered.1 h complete).trans (if_pos complete).symm
  · exact (if_pos (metered.2 complete)).trans (if_neg complete).symm

theorem LoadRecord.credited_items_unit (r : LoadRecord) (u : UnitNo) (shot : Nat) :
    (r.credited u shot).items.map LoadItem.unit = r.items.map LoadItem.unit := by
  unfold LoadRecord.credited
  split
  · rfl
  · rw [List.map_map]
    refine List.map_congr_left fun i _ => ?_
    exact iteInduction (motive := fun j : LoadItem => j.unit = i.unit) (fun _ => rfl) fun _ => rfl

/-- The unit after a confirmed stroke, before it returns to READY or enters EMPTY (R139, R140, R146). -/
def AdditiveUnit.confirmedStroke (x : AdditiveUnit) : AdditiveUnit :=
  { x with
    accepted := true, test := none, strokeTimer := .stopped, inventory := x.inventory - x.shot
    lowMark := decide (x.inventory - x.shot < x.low), failures := 0
    confirmed := if x.confirmed < 4294967295 then x.confirmed + 1 else x.confirmed, inFlight := none }

/-- The load credited and the low mark's notice raised: what a confirmed stroke leaves but for the unit (R141, R146). -/
def State.strokeCredited (s : State) (u : UnitNo) (a : Arm) : State :=
  let x := s.units.get u
  { s with
    arms := s.arms.upd a fun c => c.mapRecord fun r => r.credited u x.shot
    supervisor := { s.supervisor with
      notices := if decide (x.inventory - x.shot < x.low) = true ∧ x.lowMark = false
        then raiseIn SupNotice.key (.unitLow u) (some (x.inventory - x.shot)) s.supervisor.notices
        else s.supervisor.notices } }

theorem State.strokeCredited_record (s : State) (u : UnitNo) (a : Arm) :
    (s.strokeCredited u a).record a = (s.record a).map fun r => r.credited u (s.units.get u).shot := by
  simp only [State.strokeCredited, State.record, Bank.get_upd_same, ArmCtl.mapRecord]
  cases (s.arms.get a).occ with
  | _ => rfl

/-- A confirmed stroke of arm `a`, before the unit returns to READY or enters EMPTY (R139 to R141, R146). -/
def State.struck (s : State) (u : UnitNo) (a : Arm) : State :=
  (s.strokeCredited u a).modUnit u AdditiveUnit.confirmedStroke

theorem State.struck_unit (s : State) (u : UnitNo) (a : Arm) :
    (s.struck u a).units.get u = (s.units.get u).confirmedStroke := Bank.get_upd_same ..

/-- A confirmation taken in STROKING, up to what becomes of the unit (R140). -/
theorem State.confirmation_eq (stroking : (s.units.get u).state = .stroking) (flying : (s.units.get u).inFlight = some a) :
    (s.modUnit u fun y => { y with accepted := true, test := none }).confirmation u =
      State.examined (if (s.units.get u).shot ≤ (s.units.get u).inventory - (s.units.get u).shot
        then (s.struck u a).backToReady u a else (s.struck u a).unitEmpties u) a := by
  generalize first : (s.modUnit u fun y => { y with accepted := true, test := none }) = t₀
  have unit : t₀.units.get u = { s.units.get u with accepted := true, test := none } := by
    rw [← first]
    exact Bank.get_upd_same ..
  have confirms : t₀.confirmation u = t₀.strokeConfirmed u a := by
    have stroking' : (t₀.units.get u).state = .stroking := by rw [unit]; exact stroking
    have flying' : (t₀.units.get u).inFlight = some a := by rw [unit]; exact flying
    rw [State.confirmation, stroking', flying']
  have credited : (fun r : LoadRecord => r.creditShot u (t₀.units.get u).shot) =
      fun r => r.credited u (s.units.get u).shot := by
    rw [unit]
    exact funext fun r => r.creditShot_eq_credited u _
  have low : State.evalLow ((t₀.modRecord a fun r => r.creditShot u (t₀.units.get u).shot).modUnit u fun x =>
      { x with strokeTimer := .stopped, confirmed := countUp32 x.confirmed, inventory := x.inventory - (t₀.units.get u).shot,
               failures := 0, inFlight := none }) u = s.struck u a := by
    rw [State.evalLow_eq, credited, unit, ← first]
    refine State.eq_of_fields rfl rfl rfl rfl rfl rfl rfl rfl ?units rfl rfl ?supervisor rfl rfl rfl rfl rfl rfl
    case units =>
      simp only [State.struck, State.modRecord, State.modArm, State.modUnit, Bank.upd_upd, State.strokeCredited]
      exact Bank.upd_congr _ _ rfl
    case supervisor =>
      simp only [State.struck, State.modRecord, State.modArm, State.modUnit, Bank.upd_upd, Bank.get_upd_same,
        State.strokeCredited]
  have shot : ((s.struck u a).units.get u).inventory = (s.units.get u).inventory - (s.units.get u).shot := by
    rw [State.struck_unit]
    rfl
  rw [confirms, ← State.examine_eq_examined, State.strokeConfirmed]
  rw [low, shot, unit]

/-- The queue of unit `u` after a confirmed stroke of arm `a` (R141). -/
def State.queueConfirmed (s : State) (u : UnitNo) (a : Arm) : List Arm :=
  (s.units.get u).queue ++
    if (s.record a).any (fun r => (r.credited u (s.units.get u).shot).wantsShot u (s.units.get u).shot) = true then [a]
    else []

theorem State.queueAfter_struck (s : State) (u : UnitNo) (a : Arm) : (s.struck u a).queueAfter u a = s.queueConfirmed u a := by
  have record : (s.struck u a).record a = (s.record a).map fun r => r.credited u (s.units.get u).shot :=
    s.strokeCredited_record u a
  rw [State.queueAfter, State.queueConfirmed, State.struck_unit, record, Option.any_map]
  rfl

/-- A confirmation that leaves a shot in the inventory (R140, R141). -/
theorem State.confirmation_of_enough (items : s.itemLaw) (queues : s.shotQueueLaw)
    (stroking : (s.units.get u).state = .stroking) (flying : (s.units.get u).inFlight = some a)
    (enough : (s.units.get u).shot ≤ (s.units.get u).inventory - (s.units.get u).shot) :
    (s.modUnit u fun y => { y with accepted := true, test := none }).confirmation u =
      State.examined { s.strokeCredited u a with
        units := s.units.put u { (s.units.get u).confirmedStroke with queue := s.queueConfirmed u a }.headTaken
        arms := (s.queueConfirmed u a).head?.elim (s.strokeCredited u a).arms fun b =>
          (s.strokeCredited u a).arms.upd b fun c => c.mapRecord fun q => q.markTaken u } a := by
  rw [State.confirmation_eq stroking flying, if_pos enough]
  have distinct (q : LoadRecord) (load : (s.struck u a).record a = some q) : (q.items.map LoadItem.unit).Nodup := by
    obtain ⟨r, held, rfl⟩ := Option.map_eq_some_iff.1 ((s.strokeCredited_record u a).symm.trans load)
    rw [LoadRecord.credited_items_unit]
    exact State.items_distinct items held
  have free : a ∉ ((s.struck u a).units.get u).queue := by
    rw [State.struck_unit]
    exact State.flying_not_queued queues flying
  refine congrArg (fun t : State => t.examined a) ?_
  rw [State.backToReady_eq distinct free, State.struck_unit, State.queueAfter_struck, State.struck, State.modUnit_units,
    Bank.put_upd]
  rfl

/-- A confirmation that leaves less than a shot in the inventory (R140, R147, R148). -/
theorem State.confirmation_of_short (stroking : (s.units.get u).state = .stroking)
    (flying : (s.units.get u).inFlight = some a)
    (short : (s.units.get u).inventory - (s.units.get u).shot < (s.units.get u).shot) :
    (s.modUnit u fun y => { y with accepted := true, test := none }).confirmation u =
      ((s.strokeCredited u a).losesUnit u { (s.units.get u).confirmedStroke with state := .empty, queue := [] }
        (.unitEmpty u) ((s.units.get u).inventory - (s.units.get u).shot)).examined a := by
  rw [State.confirmation_eq stroking flying, if_neg (Nat.not_le.2 short)]
  refine congrArg (fun t : State => t.examined a) ?_
  rw [State.unitEmpties, State.unitLost_eq_losesUnit, State.struck_unit, State.struck, State.losesUnit_modUnit]
  rfl

/-- A confirmation in any other state is stray (R143). -/
theorem State.confirmation_of_stray (stray : (s.units.get u).state ≠ .stroking) :
    (s.modUnit u fun y => { y with accepted := true, test := none }).confirmation u = s.modUnit u fun x =>
      { x with accepted := true, test := none, stray := if x.stray < 4294967295 then x.stray + 1 else x.stray } := by
  have unit : ((s.modUnit u fun y => { y with accepted := true, test := none }).units.get u).state = (s.units.get u).state := by
    simp
  have taken : (s.modUnit u fun y => { y with accepted := true, test := none }).confirmation u =
      (s.modUnit u fun y => { y with accepted := true, test := none }).modUnit u
        fun y => { y with stray := countUp32 y.stray } := by
    rw [State.confirmation]
    split
    · next stroking _ => exact absurd (unit.symm.trans stroking) stray
    · rfl
  rw [taken]
  have both := Bank.upd_upd s.units u (fun y => { y with accepted := true, test := none })
    fun y => { y with stray := countUp32 y.stray }
  exact congrArg (fun b => { s with units := b }) both

theorem exec_strokeConfirmation_of_test (test : (s.units.get u).test = some 0) (presented : (s.units.get u).presented = true)
    (accepted : (s.units.get u).accepted = false) : exec (.strokeConfirmation u) s =
      .next ((s.modUnit u fun y => { y with accepted := true, test := none }).confirmation u) :=
  if_pos ⟨test, presented, accepted⟩

/-! ### Outputs, and the settle expiry -/

theorem State.routeLines_toNat (s : State) (u : UnitNo) :
    (s.routeLines u).toNat = (s.units.get u).route.elim 0 Fin.val := by
  unfold State.routeLines
  cases (s.units.get u).route with
  | none => rfl
  | some a => exact Nat.mod_eq_of_lt a.isLt

end Sys2Proof.Machine

namespace Sys2Proof.Proofs
open Sys2Proof.Machine

/-- What a delivery to an open load does to a unit: the arm joins the queue, leaves it, or the unit is left alone. -/
theorem delivery_unit {s : State} {a : Arm} {m : Meter} {r : LoadRecord} (law : s.itemLaw) (load : s.record a = some r)
    (haltable : r.phase.haltable = true) (u : UnitNo) :
    ∃ q : LoadRecord, (s.pulse a m).record a = some q ∧
      (let x := s.units.get u
       let due := ∃ i ∈ q.items, i.unit = u ∧ i.short = false ∧ 1 ≤ x.shot ∧ (x.shot : Int) ≤ i.owed
       let joins := (q.phase = .flowing ∨ q.phase = .flush) ∧ due ∧
         (x.state = .ready ∨ x.state = .routing ∨ x.state = .stroking) ∧ a ∉ x.queue ∧ x.inFlight ≠ some a
       (joins → (s.pulse a m).units.get u = x.queued a) ∧
       (q.phase = .halted → (s.pulse a m).units.get u = { x with queue := x.queue.filter fun b => b ≠ a }) ∧
       (q.phase ≠ .halted → ¬ joins → (s.pulse a m).units.get u = x)) := by
  have open_ : r.phase ≠ .complete := fun h => by simp [h, Phase.haltable] at haltable
  obtain ⟨q, own, marks, -, -, -⟩ := State.pulse_facts load open_ m
  obtain ⟨phase, -, -⟩ := LoadRecord.same_of_unmarked marks
  have shaped : (s.pulseVerdict a m r).Shaped :=
    State.verdict_shaped (x := s.accountedRecord a m r) (LoadRecord.begun_haltable haltable m) _ a _ _
  have items : (s.pulseVerdict a m r).record.items = (s.accountedRecord a m r).items := by
    rw [(s.pulseVerdict_keeps a m r).1]
  have distinct : ((s.pulseVerdict a m r).record.items.map LoadItem.unit).Nodup := by
    have units : (s.accountedRecord a m r).items.map LoadItem.unit = r.items.map LoadItem.unit :=
      List.map_map.trans rfl
    rw [items, units]
    exact State.items_distinct law load
  refine ⟨q, State.record_of_occ own, ?_⟩
  dsimp only
  have due := LoadRecord.exists_due_of_unmarked marks u (s.units.get u).shot
  simp only [← LoadItem.due_eq_true, ← UnitState.operational_eq_true, due, phase, State.pulse_eq load open_ m]
  refine ⟨fun ⟨flows, due, operational, fresh, grounded⟩ => ?_, fun halted => ?_, fun goesOn not => ?_⟩
  · exact State.carriedOut_unit_of_joins shaped distinct flows due operational fresh grounded
  · exact State.carriedOut_unit_of_halt shaped halted ..
  · exact State.carriedOut_unit_of_not shaped goesOn not

/-- Settles O44: the queueing of a delivery, the firing of a stroke, and a confirmation in its three outcomes. -/
theorem strokesAreCredited : Obligations.StrokesAreCredited := by
  intro s u items queues
  refine ⟨⟨decide_eq_true_iff, Option.isSome_iff_ne_none, s.routeLines_toNat u⟩,
    fun a m r test presented accepted load haltable => ?_, fun routing => ⟨fun running => ?_, fun due => ?_⟩,
    fun test presented accepted => ⟨fun stray => ?_, fun a stroking flying => ?_⟩⟩
  · obtain ⟨q, load', joined, halted, other⟩ := delivery_unit (m := m) items load haltable u
    refine ⟨s.pulse a m, q, exec_meterPulseAcceptance_of_test test presented accepted, load',
      fun joins busy => (joined joins).trans (if_neg busy), fun joins ready => (joined joins).trans (if_pos ready),
      halted, other⟩
  · exact if_neg fun due => running ((Timer.due_eq_true _).1 due.2)
  · exact if_pos ⟨routing, (Timer.due_eq_true _).2 due⟩
  · rw [exec_strokeConfirmation_of_test test presented accepted, State.confirmation_of_stray stray]
  · intro x left low y credited
    have taken := exec_strokeConfirmation_of_test test presented accepted
    exact ⟨fun enough => taken.trans
        (congrArg Host.Outcome.next (State.confirmation_of_enough items queues stroking flying enough)),
      fun short => taken.trans (congrArg Host.Outcome.next (State.confirmation_of_short stroking flying short))⟩

end Sys2Proof.Proofs
end

-- ==== Sitting 5, part 28: END and its final shots ====
section
/-! END by the arm state (R90), with the final shots it decides item by item (R91, R135). The items of a load name different
units, so the decision on one item touches neither another item nor another item's unit: `FinalShotsUpTo` says what stands
after the items decided so far. -/

namespace Sys2Proof.Machine

variable {s t : State} {u : UnitNo} {a : Arm} {r p : LoadRecord} {i : LoadItem} {done rest : List LoadItem}

/-! ### The decision on one item -/

/-- The unit after the final shot of the item `i` of arm `a` has been decided (R91, R135, R136). -/
def AdditiveUnit.finalTaken (x : AdditiveUnit) (a : Arm) (i : LoadItem) : AdditiveUnit :=
  if i.finalDue x a = true ∧ x.inFlight ≠ some a then
    if x.state = .ready then { x with queue := [a] }.headTaken else { x with queue := x.queue ++ [a] }
  else x

/-- The item after its final shot has been decided with unit `x`: its mark is set, and cleared at once where the unit takes the
arm (R91, R92). -/
def LoadItem.finalDecided (i : LoadItem) (x : AdditiveUnit) (a : Arm) : LoadItem :=
  if i.finalDue x a = true then { i with finalShot := decide (x.state ≠ .ready) } else i

theorem LoadItem.finalDecided_unit (i : LoadItem) (x : AdditiveUnit) (a : Arm) : (i.finalDecided x a).unit = i.unit :=
  iteInduction (motive := fun j : LoadItem => j.unit = i.unit) (fun _ => rfl) fun _ => rfl

/-- What a unit brings to a decision: the arm is not queued, and a READY unit has no arm queued or in flight. -/
def AdditiveUnit.opens (x : AdditiveUnit) (a : Arm) : Prop :=
  a ∉ x.queue ∧ (x.state = .ready → x.queue = [] ∧ x.inFlight = none)

/-- The load record after the decision on the item `i`. -/
def LoadRecord.finalDecided (p : LoadRecord) (x : AdditiveUnit) (a : Arm) (i : LoadItem) : LoadRecord :=
  if i.finalDue x a = true then p.modItem i.unit fun j => { j with finalShot := decide (x.state ≠ .ready) } else p

theorem Bank.put_get {n : Nat} {α : Type} (b : Bank n α) (k : Fin n) : b.put k (b.get k) = b :=
  Bank.upd_eq_self b k (fun x => x) rfl

theorem LoadRecord.modItem_modItem_mark (p : LoadRecord) (u : UnitNo) (m n : Bool) :
    (p.modItem u fun j => { j with finalShot := m }).modItem u (fun j => { j with finalShot := n }) =
      p.modItem u fun j => { j with finalShot := n } := by
  refine congrArg (fun items => { p with items := items }) ?_
  rw [LoadRecord.modItem, List.map_map]
  refine List.map_congr_left fun j _ => ?_
  by_cases unit : j.unit = u
  · simp [unit]
  · simp [unit]

/-- The decision on one item in closed form (R91, R135, R136). -/
theorem State.finalShot_eq (load : s.record a = some p) (opens : (s.units.get i.unit).opens a) : s.finalShot a i =
    { s.withRecord a (p.finalDecided (s.units.get i.unit) a i) with
      units := s.units.put i.unit ((s.units.get i.unit).finalTaken a i) } := by
  obtain ⟨fresh, ready_empty⟩ := opens
  unfold State.finalShot LoadRecord.finalDecided AdditiveUnit.finalTaken
  by_cases due : i.finalDue (s.units.get i.unit) a = true
  · dsimp only
    rw [if_pos due, if_pos due, State.modRecord_eq load]
    by_cases flying : (s.units.get i.unit).inFlight = some a
    · have busy : (s.units.get i.unit).state ≠ .ready := fun ready => by simp [(ready_empty ready).2] at flying
      rw [if_pos flying, if_neg fun h => h.2 flying, Bank.put_get]
      simp [busy, State.withRecord]
    · rw [if_neg flying, if_pos ⟨due, flying⟩, State.enqueue]
      generalize marked : s.withRecord a (p.modItem i.unit fun j => { j with finalShot := true }) = t
      have joined : (t.modUnit i.unit fun x => x.join a).units.get i.unit =
          { s.units.get i.unit with queue := (s.units.get i.unit).queue ++ [a] } := by
        rw [← marked]
        exact (Bank.get_upd_same ..).trans (if_neg fresh)
      by_cases ready : (s.units.get i.unit).state = .ready
      · have empty := (ready_empty ready).1
        rw [empty] at joined
        rw [if_pos ready, State.takeHead_eq (by rw [joined]; exact ready), joined]
        have twice : (p.modItem i.unit fun j => { j with finalShot := true }).markTaken i.unit =
            p.modItem i.unit fun j => { j with finalShot := decide ((s.units.get i.unit).state ≠ .ready) } := by
          rw [ready]
          exact LoadRecord.modItem_modItem_mark p i.unit true false
        have record : (t.modUnit i.unit fun x => x.join a).record a =
            some (p.modItem i.unit fun j => { j with finalShot := true }) := by
          rw [← marked]
          exact s.withRecord_record a _
        have arms := congrArg State.arms (State.modRecord_eq record fun q => q.markTaken i.unit)
        rw [twice, ← marked, State.withRecord_arms, State.modUnit_arms, State.withRecord_arms, Bank.upd_upd] at arms
        rw [← marked]
        refine State.eq_of_fields rfl rfl rfl rfl rfl arms rfl rfl ?_ rfl rfl rfl rfl rfl rfl rfl rfl rfl
        exact Bank.put_upd s.units i.unit _ _
      · rw [if_neg ready, State.takeHead_eq_self _ _ (.inl (by rw [joined]; exact ready)), ← marked]
        simp [ready, State.withRecord, State.modUnit, Bank.upd, AdditiveUnit.join, fresh]
  · dsimp only
    rw [if_neg due, if_neg due, if_neg fun h => due h.1, Bank.put_get]
    exact (State.withRecord_self load).symm

/-! ### The decisions on all items -/

/-- The final shots of the items `done` have been decided, those of `rest` not: what stands in the load's record `p` and in
the units, the state before the decisions being `s`. -/
def State.FinalShotsUpTo (s t : State) (a : Arm) (p : LoadRecord) (done rest : List LoadItem) : Prop :=
  t = { s.withRecord a { p with items := done.map (fun i => i.finalDecided (s.units.get i.unit) a) ++ rest } with
        units := t.units } ∧
  (∀ i ∈ done, t.units.get i.unit = (s.units.get i.unit).finalTaken a i) ∧
  ∀ u : UnitNo, (∀ i ∈ done, i.unit ≠ u) → t.units.get u = s.units.get u

/-- The decision on the item `i` changes it alone of a load's items. -/
theorem LoadRecord.finalDecided_items (distinct : ((done ++ i :: rest).map LoadItem.unit).Nodup)
    (f : UnitNo → AdditiveUnit) (a : Arm) (p : LoadRecord) :
    LoadRecord.finalDecided { p with items := done.map (fun i => i.finalDecided (f i.unit) a) ++ i :: rest } (f i.unit) a i =
      { p with items := (done ++ [i]).map (fun i => i.finalDecided (f i.unit) a) ++ rest } := by
  rw [List.map_append, List.map_cons, List.nodup_append] at distinct
  obtain ⟨-, later, before⟩ := distinct
  have other (j : LoadItem) (ne : j.unit ≠ i.unit) (m : Bool) :
      (if j.unit = i.unit then { j with finalShot := m } else j) = j := if_neg ne
  have kept : (done.map fun i => i.finalDecided (f i.unit) a).map (fun j => if j.unit = i.unit
      then { j with finalShot := decide ((f i.unit).state ≠ .ready) } else j) =
      done.map fun i => i.finalDecided (f i.unit) a := by
    rw [List.map_map]
    refine List.map_congr_left fun j member => other _ ?_ _
    rw [LoadItem.finalDecided_unit]
    exact before _ (List.mem_map_of_mem member) _ List.mem_cons_self
  have keptRest : rest.map (fun j => if j.unit = i.unit
      then { j with finalShot := decide ((f i.unit).state ≠ .ready) } else j) = rest := by
    refine (List.map_congr_left fun j member => other j ?_ _).trans (List.map_id' rest)
    exact fun same => (List.nodup_cons.1 later).1 (same ▸ List.mem_map_of_mem member)
  unfold LoadRecord.finalDecided
  rw [List.map_append, List.append_assoc]
  by_cases due : i.finalDue (f i.unit) a = true
  · rw [if_pos due, LoadRecord.modItem]
    simp only [List.map_append, List.map_cons, kept, keptRest, if_true, List.map_nil, List.cons_append, List.nil_append]
    rw [LoadItem.finalDecided, if_pos due]
  · rw [if_neg due]
    simp only [List.map_cons, List.map_nil, List.cons_append, List.nil_append]
    rw [LoadItem.finalDecided, if_neg due]

/-- One decision more. -/
theorem State.FinalShotsUpTo.step (distinct : ((done ++ i :: rest).map LoadItem.unit).Nodup)
    (opens : (s.units.get i.unit).opens a) (upTo : s.FinalShotsUpTo t a p done (i :: rest)) :
    s.FinalShotsUpTo (t.finalShot a i) a p (done ++ [i]) rest := by
  obtain ⟨shape, taken, others⟩ := upTo
  have fresh (j : LoadItem) (member : j ∈ done) : j.unit ≠ i.unit := by
    rw [List.map_append, List.map_cons, List.nodup_append] at distinct
    exact distinct.2.2 _ (List.mem_map_of_mem member) _ List.mem_cons_self
  have unit : t.units.get i.unit = s.units.get i.unit := others i.unit fresh
  have load : t.record a =
      some { p with items := done.map (fun i => i.finalDecided (s.units.get i.unit) a) ++ i :: rest } := by
    rw [shape]
    exact s.withRecord_record a _
  have decided := State.finalShot_eq load (by rwa [unit])
  rw [unit, LoadRecord.finalDecided_items distinct fun u => s.units.get u] at decided
  have units : (t.finalShot a i).units = t.units.put i.unit ((s.units.get i.unit).finalTaken a i) :=
    congrArg State.units decided
  refine ⟨?_, fun j member => ?_, fun u ne => ?_⟩
  · rw [units]
    refine decided.trans ?_
    rw [shape]
    simp [State.withRecord]
  · rw [units, Bank.get_put]
    obtain earlier | rfl := by simpa using member
    · rw [if_neg (fresh j earlier), taken j earlier]
    · rw [if_pos rfl]
  · have ne' : u ≠ i.unit := fun same => ne i (by simp) same.symm
    rw [units, Bank.get_put_of_ne _ _ ne', others u fun j member => ne j (by simp [member])]

theorem State.FinalShotsUpTo.foldl (distinct : ((done ++ rest).map LoadItem.unit).Nodup)
    (opens : ∀ u, (s.units.get u).opens a) (upTo : s.FinalShotsUpTo t a p done rest) :
    s.FinalShotsUpTo (rest.foldl (fun t i => t.finalShot a i) t) a p (done ++ rest) [] := by
  induction rest generalizing t done with
  | nil => simpa using upTo
  | cons i rest ih =>
    have more := ih (done := done ++ [i]) (by simpa using distinct) (upTo.step distinct (opens i.unit))
    simpa using more

/-- The final shots of a load, item by item (R91). -/
theorem State.finalShots_upTo (load : s.record a = some p) (distinct : (p.items.map LoadItem.unit).Nodup)
    (opens : ∀ u, (s.units.get u).opens a) : s.FinalShotsUpTo (s.finalShots a) a p p.items [] := by
  have start : s.FinalShotsUpTo s a p [] p.items := ⟨(State.withRecord_self load).symm, nofun, fun _ _ => rfl⟩
  rw [State.finalShots, load]
  exact State.FinalShotsUpTo.foldl (done := []) distinct opens start

/-! ### END by the arm state -/

/-- The record of a load that has entered FINISHING (R80). -/
def State.finishingRecord (s : State) (a : Arm) (r : LoadRecord) : LoadRecord :=
  { r with phase := .finishing, acc := { r.acc with restrictOn := false, closedValve := s.closedLeft a r } }

theorem State.finishing_record (s : State) (a : Arm) (r : LoadRecord) :
    (s.finishing a r).record a = some (s.finishingRecord a r) := by
  simp [State.finishing, State.record, Occupancy.record, State.finishingRecord]

theorem State.finishing_items (s : State) (a : Arm) (r : LoadRecord) (items : List LoadItem) :
    (s.finishing a r).withRecord a { s.finishingRecord a r with items := items } =
      s.finishing a { r with items := items } := by
  simp only [State.finishing, State.withRecord, Bank.upd_upd]
  rfl

theorem State.finishing_units_get (s : State) (a : Arm) (r : LoadRecord) (u : UnitNo) :
    (s.finishing a r).units.get u = { s.units.get u with queue := (s.units.get u).queue.filter fun b => b ≠ a } :=
  Bank.get_tab ..

/-- A unit that keeps its law is open to the arm that has just left its queue. -/
theorem AdditiveUnit.lawful.opens {x : AdditiveUnit} (law : x.lawful) (a : Arm) :
    AdditiveUnit.opens { x with queue := x.queue.filter fun b => b ≠ a } a := by
  obtain ⟨-, -, -, flies, -, -, -, -, -, -, -, -, queues⟩ := law
  refine ⟨by simp, fun ready => ?_⟩
  have idle : ¬ (x.state = .routing ∨ x.state = .stroking) := by
    rw [show x.state = .ready from ready]
    simp
  have empty : x.queue = [] := by
    by_contra queued
    exact idle (queues queued)
  have grounded : x.inFlight = none := by
    by_contra flying
    exact idle (flies.1 flying)
  exact ⟨by rw [empty]; rfl, grounded⟩

theorem State.endLoad_of_none (free : s.record a = none) : s.endLoad a = s.endReply a .noLoad := by
  rw [State.endLoad, State.phase, free]
  rfl

theorem State.endLoad_of_ended (load : s.record a = some r) (ended : r.phase = .finishing ∨ r.phase = .complete) :
    s.endLoad a = s.endReply a .refusedState := by
  rw [State.endLoad, State.phase_of_record load]
  obtain phase | phase := ended
  · rw [phase]
  · rw [phase]

theorem State.endLoad_of_still (load : s.record a = some r) (still : r.phase = .authorized ∨ r.phase = .halted) :
    s.endLoad a = (s.finishing a r).endReply a .accepted := by
  rw [State.endLoad, State.phase_of_record load, ← State.enterFinishing_eq_finishing load]
  obtain phase | phase := still
  · rw [phase]
  · rw [phase]

theorem State.endLoad_of_metering (load : s.record a = some r)
    (metering : r.phase = .flowing ∨ r.phase.isPaused = true ∨ r.phase = .flush) :
    s.endLoad a = ((s.finishing a r).finalShots a).endReply a .accepted := by
  rw [State.endLoad, State.phase_of_record load, ← State.enterFinishing_eq_finishing load]
  obtain phase | paused | phase := metering
  · rw [phase]
  · cases phase : r.phase with
    | paused c => rfl
    | _ => simp [phase, Phase.isPaused] at paused
  · rw [phase]

theorem State.endReply_eq (load : s.record a = some r) (code : ReplyCode) : s.endReply a code =
    { state := s, code := code, fields := u16 r.number ++ u8 (occupancyCode (s.arms.get a).occ) } := by
  rw [State.endReply, load]
  rfl

/-- END's reply from a load that is in FINISHING after it (R90). -/
theorem State.endReply_of_finishing (load : s.record a = some r) (finishing : r.phase = .finishing) (code : ReplyCode) :
    s.endReply a code = { state := s, code := code, fields := u16 r.number ++ u8 7 } := by
  rw [State.endReply_eq load, State.occupancyCode_of_record load, occupancyCode, finishing]

theorem LoadItem.finalDue_eq_true (x : AdditiveUnit) (a : Arm) (i : LoadItem) : i.finalDue x a = true ↔
    i.short = false ∧ (x.state = .ready ∨ x.state = .routing ∨ x.state = .stroking) ∧
      (((x.shot + 1) / 2 : Nat) : Int) ≤ i.owed - (if x.inFlight = some a then (x.shot : Int) else 0) := by
  have owed : (if x.inFlight = some a then i.owed - (x.shot : Int) else i.owed) =
      i.owed - (if x.inFlight = some a then (x.shot : Int) else 0) := by
    split
    · rfl
    · exact (Int.sub_zero _).symm
  simp only [LoadItem.finalDue, owed, Bool.and_eq_true, Bool.not_eq_true', UnitState.operational_eq_true, decide_eq_true_iff,
    and_assoc]

theorem AdditiveUnit.headTaken_inFlight {x : AdditiveUnit} {rest : List Arm} (queue : x.queue = a :: rest) :
    x.headTaken.inFlight = some a := by
  rw [AdditiveUnit.headTaken_cons queue, AdditiveUnit.begin_eq]

theorem LoadItem.finalDecided_clear (i : LoadItem) (x : AdditiveUnit) (a : Arm) :
    { i.finalDecided x a with finalShot := false } = { i with finalShot := false } := by
  unfold LoadItem.finalDecided
  split
  · rfl
  · rfl

end Sys2Proof.Machine

namespace Sys2Proof.Proofs
open Sys2Proof.Machine

/-- END from AUTHORIZED and HALTED: no item gets anything. -/
theorem end_still {s : State} {a : Arm} {r : LoadRecord} (load : s.record a = some r)
    (still : r.phase = .authorized ∨ r.phase = .halted) : s.endLoad a =
      { state := s.finishing a r, code := .accepted, fields := u16 r.number ++ u8 7 } :=
  (State.endLoad_of_still load still).trans (State.endReply_of_finishing (s.finishing_record a r) rfl _)

/-- END from FLOWING, PAUSED and FLUSH: the final shots of the items. -/
theorem end_metering {s : State} {a : Arm} {r : LoadRecord} (units : s.unitLaw) (items : s.itemLaw)
    (load : s.record a = some r) (metering : r.phase = .flowing ∨ r.phase.isPaused = true ∨ r.phase = .flush) :
    let left (u : UnitNo) : AdditiveUnit :=
      { s.units.get u with queue := (s.units.get u).queue.filter fun b => b ≠ a }
    ∃ t : State, s.endLoad a = { state := t, code := .accepted, fields := u16 r.number ++ u8 7 } ∧
      t = { s.finishing a { r with items := r.items.map fun i => i.finalDecided (left i.unit) a } with units := t.units } ∧
      (∀ i ∈ r.items, t.units.get i.unit = (left i.unit).finalTaken a i) ∧
      ∀ u : UnitNo, (∀ i ∈ r.items, i.unit ≠ u) → t.units.get u = left u := by
  intro left
  have unit (u : UnitNo) : (s.finishing a r).units.get u = left u := s.finishing_units_get a r u
  have distinct : ((s.finishingRecord a r).items.map LoadItem.unit).Nodup := State.items_distinct (r := r) items load
  obtain ⟨shape, taken, others⟩ := State.finalShots_upTo (s.finishing_record a r) distinct
    fun u => by rw [unit]; exact (units u).opens a
  simp only [unit, List.append_nil, State.finishing_items] at shape taken others
  have after : ((s.finishing a r).finalShots a).record a = some (s.finishingRecord a { r with
      items := r.items.map fun i => i.finalDecided (left i.unit) a }) := by
    rw [shape]
    exact s.finishing_record a _
  exact ⟨(s.finishing a r).finalShots a,
    (State.endLoad_of_metering load metering).trans (State.endReply_of_finishing after rfl _), shape, taken, others⟩

/-- One item's decision, by its four outcomes (R91). -/
theorem final_cases {x y : AdditiveUnit} {a : Arm} {i : LoadItem} {l : List LoadItem} {passes : Prop} (law : x.lawful)
    (decided : i.finalDecided { x with queue := x.queue.filter fun b => b ≠ a } a ∈ l)
    (unit : y = AdditiveUnit.finalTaken { x with queue := x.queue.filter fun b => b ≠ a } a i)
    (due : i.finalDue x a = true ↔ passes) :
    (¬ passes → i ∈ l ∧ y = { x with queue := x.queue.filter fun b => b ≠ a }) ∧
    (passes → x.inFlight = some a →
      { i with finalShot := true } ∈ l ∧ y = { x with queue := x.queue.filter fun b => b ≠ a }) ∧
    (passes → x.inFlight ≠ some a → x.state ≠ .ready →
      { i with finalShot := true } ∈ l ∧ y = { x with queue := (x.queue.filter fun b => b ≠ a) ++ [a] }) ∧
    (passes → x.state = .ready →
      { i with finalShot := false } ∈ l ∧ y.inFlight = some a ∧ y = AdditiveUnit.headTaken { x with queue := [a] }) := by
  have same : i.finalDue { x with queue := x.queue.filter fun b => b ≠ a } a = i.finalDue x a := rfl
  obtain ⟨-, opens⟩ := law.opens a
  rw [LoadItem.finalDecided, same] at decided
  rw [AdditiveUnit.finalTaken, same] at unit
  refine ⟨fun fails => ?_, fun passes flying => ?_, fun passes grounded busy => ?_, fun passes ready => ?_⟩
  · rw [if_neg fun h => fails (due.1 h)] at decided
    rw [if_neg fun h => fails (due.1 h.1)] at unit
    exact ⟨decided, unit⟩
  · have busy : x.state ≠ .ready := fun ready => by simpa [flying] using (opens ready).2
    rw [if_pos (due.2 passes), decide_eq_true busy] at decided
    rw [if_neg fun h => h.2 flying] at unit
    exact ⟨decided, unit⟩
  · rw [if_pos (due.2 passes), decide_eq_true busy] at decided
    rw [if_pos ⟨due.2 passes, grounded⟩, if_neg busy] at unit
    exact ⟨decided, unit⟩
  · have grounded : x.inFlight ≠ some a := by simp [show x.inFlight = none from (opens ready).2]
    rw [if_pos (due.2 passes), decide_eq_false (not_not.2 ready)] at decided
    rw [if_pos ⟨due.2 passes, grounded⟩, if_pos ready] at unit
    refine ⟨decided, ?_, unit⟩
    rw [unit]
    exact AdditiveUnit.headTaken_inFlight rfl

/-- Settles O34: END by the arm state, the final shots item by item. -/
theorem endEntersFinishing : Obligations.EndEntersFinishing := by
  intro s a units items waits
  refine ⟨fun free => ?_, fun r load ended => ?_, fun r load notFinishing notComplete => ?_⟩
  · refine State.next_serve waits ((State.endLoad_of_none free).trans ?_)
    rw [State.endReply, free]
    rfl
  · exact State.next_serve waits ((State.endLoad_of_ended load ended).trans (State.endReply_eq load _))
  · by_cases still : r.phase = .authorized ∨ r.phase = .halted
    · refine ⟨s.finishing a r, s.finishingRecord a r, State.next_serve waits (end_still load still), rfl,
        s.finishing_record a r, fun _ => ⟨rfl, s.finishing_units_get a r⟩, fun metering => ?_⟩
      obtain phase | phase := still
      · simp [phase, Phase.isPaused] at metering
      · simp [phase, Phase.isPaused] at metering
    · have metering : r.phase = .flowing ∨ r.phase.isPaused = true ∨ r.phase = .flush := by
        cases phase : r.phase with
        | _ => simp_all [Phase.isPaused]
      obtain ⟨t, answer, shape, taken, others⟩ := end_metering units items load metering
      refine ⟨t, s.finishingRecord a { r with items := _ }, State.next_serve waits answer, shape, ?_,
        fun h => absurd h still, fun _ => ⟨?_, others, fun i listed => ?_⟩⟩
      · rw [shape]
        exact s.finishing_record a _
      · refine List.map_map.trans (List.map_congr_left fun i _ => ?_)
        exact LoadItem.finalDecided_clear ..
      · have decided := List.mem_map_of_mem
          (f := fun i : LoadItem => i.finalDecided { s.units.get i.unit with
            queue := (s.units.get i.unit).queue.filter fun b => b ≠ a } a) listed
        have unit := taken i listed
        have due := LoadItem.finalDue_eq_true (s.units.get i.unit) a i
        exact final_cases (units i.unit) decided unit due

end Sys2Proof.Proofs
end
